-- ==== Sys2Proof/Word.lean ====
section
/-!
DEFINITION. The word types, the initiators of bus accesses, and the shape of a register field and of a register-map row.
-/
namespace Sys2Proof

/-- A 32-bit register or bus word (R11). -/
abbrev Word := BitVec 32

/-- A byte of memory. -/
abbrev Byte := BitVec 8

/-- Who makes an access: the initiators that the table of SYS_ADDRERR_INFO.INIT numbers (spec/01, R30, R31), with the
virtual function number kept apart. -/
inductive Initiator where
  /-- core C0 to C15; the lead of CPp is 2p -/
  | core (c : Nat)
  /-- the host through PF0 -/
  | pf0
  /-- the host through PF1 -/
  | pf1
  /-- the host through VFv, v = 1 to 62 -/
  | vf (v : Nat)
  /-- DMA engine 0 to 3 -/
  | dma (e : Nat)
  /-- the debug access port -/
  | dap
  deriving DecidableEq, Repr

/-- What the check of a codeword finds when it is read (R499, R500). Log entry 14 (DESIGN CHOICE). -/
inductive Ecc where
  | ok | corr | uncorr
  deriving DecidableEq, Repr

/-- The access types of register fields (R12, Table 0.4). -/
inductive Acc where
  | rw | ro | w1c | w1p | rl | wl
  deriving DecidableEq, Repr

/-- A field of a documented register: its number in the register store, its width in bits, its reset value. -/
structure Field where
  key : Fin 1024
  w   : Nat
  rst : Nat
  deriving DecidableEq, Repr

/-- A field at its place in a register: lowest bit and access type. -/
structure FieldAt where
  f   : Field
  lo  : Nat
  acc : Acc
  deriving DecidableEq, Repr

/-- A register of a block: offset in the block, number of repetitions and their stride, and its fields. -/
structure RegRow where
  off : Nat
  n   : Nat
  st  : Nat
  fs  : List FieldAt
  deriving DecidableEq, Repr

end Sys2Proof
end

