-- ==== Sys2Proof/Syntax.lean ====
section
/-!
DEFINITION. The commands of the block: one constructor for each row of spec/opcode_table.json, with the operands that its rule names. Instance numbers are Fin,
register words and fields of words BitVec. A command of a core carries the core (the lead of a lockstep pair), the prefix bytes 0xE0 + p, the operand word W and the raw
immediates; a microword carries its engine (48 + t the role-less unit of tile t), what the check of its codeword finds, and its fields. Operands of type Ecc say what the
check of a codeword that the command reads finds.
-/
namespace Sys2Proof

/-- A command. -/
inductive Instr where
  /-- REGISTER_WRITE: A write to a register that has no row of its own acts on each field by its access type (R12). -/
  | registerWrite (ini : Initiator) (addr : BitVec 32) (w : BitVec 32)
  /-- VERIFY: The VERIFY command of PRK_CMD runs validation steps 1–10 on a slot (R48). -/
  | verify (slot : BitVec 2)
  /-- COMMIT: The COMMIT command of PRK_CMD validates a full pricking and, once step 12 succeeds, loads it (R51). -/
  | commit (slot : BitVec 2)
  /-- PATCH: The PATCH command of PRK_CMD validates a patch and stages it (R56). -/
  | patch (slot : BitVec 2)
  /-- ACTIVATE: The ACTIVATE command verifies a slot, marks it active and makes the previously active slot the fallback (R46). -/
  | activate (slot : BitVec 2)
  /-- ERASE: The ERASE command starts the erase of a pricking slot that is not active (R44). -/
  | erase (slot : BitVec 2)
  /-- ERASE_DONE: The slot erase ends and the slot becomes erased (R487). -/
  | eraseDone
  /-- SVNUP: The SVNUP command raises SVNMIN to the SVN of the committed image (R66). -/
  | svnup (slot : BitVec 2)
  /-- ABORT: The ABORT command ends a verification, placement or patch staging that is in progress, with code ABORTED (R63). -/
  | abort (slot : BitVec 2)
  /-- STRUCTURE_LOAD: After step 12 succeeds and the running jobs have drained, the device locks the WL fields, resets functions, writes the structure and starts the jobs and cores (R52). -/
  | structureLoad (err : Option Nat)
  /-- BOOT_COMMIT: At boot the device verifies, places and commits the active slot, or else the fallback slot (R47). -/
  | bootCommit
  /-- PATCH_STAGING_END: Every staged item of a patch is written, and OP changes from 4 to 5 (R58). -/
  | patchStagingEnd
  /-- PATCH_APPLY_POINT: An affected engine, idle at or after the end of staging or at APPLY_TIME, swaps its parameter blocks and enables its new jobs (R59). -/
  | patchApplyPoint (e : Fin 48)
  /-- MOD_CODE: A modulator unit delivers one code per modulator period to the decimator, the raw lanes and capture (R537). -/
  | modCode (u : Fin 72) (code : BitVec 4)
  /-- LOOP_FILTER_RESET_END: The 8-cycle loop-filter reset that follows an overload ends, and may end the overload episode (R70). -/
  | loopFilterResetEnd (u : Fin 72)
  /-- SAMPLE_BOUNDARY: At a decimation boundary the device publishes the sample with its QUAL and SEQ, and raises sample-ready (R79). -/
  | sampleBoundary (n : Fin 64)
  /-- UNIT_RESTART: A modulator unit restarts 64 MOD cycles after its function reset is released (R76). -/
  | unitRestart (u : Fin 72)
  /-- WINDOW_CROSSING: The input crosses a window-comparator threshold, so HIGH or LOW asserts or deasserts (R82). -/
  | windowCrossing (n : Fin 64) (v : Int)
  /-- MOD_WIN_WRITE: A write to MODn_WIN sets new thresholds, which take effect within 250 ns (R83). -/
  | modWinWrite (n : Fin 64) (w : BitVec 32)
  /-- MOD_CTL_WRITE: A write to MODn_CTL starts or ends the open-wire detector and the common-mode monitor (R84). -/
  | modCtlWrite (n : Fin 64) (w : BitVec 32)
  /-- OPEN_WIRE_PULSE: The end of an open-wire test pulse judges the pin as open or closed (R84). -/
  | openWirePulse (n : Fin 64) (neg : Bool) (mv : Nat)
  /-- CM_MEASUREMENT: A common-mode measurement every 10 µs is classified, and may declare or clear a condition (R86). -/
  | cmMeasurement (n : Fin 64) (cm : Int) (vp : Int) (vn : Int)
  /-- MOD_SWAP: The SWAP bit of MODn_SWAP queues a request for swap, calibration and return (R88). -/
  | modSwap (n : Fin 64)
  /-- MOD_REPLACE: The REPLACE bit of MODn_SWAP queues a request for a swap without return (R88). -/
  | modReplace (n : Fin 64)
  /-- MOD_CANCEL: The CANCEL bit of MODn_SWAP removes a queued modulator swap request (R89). -/
  | modCancel (n : Fin 64)
  /-- SWAP_START: The tile serves a queued modulator request and connects the spare unit to the input (R90). -/
  | swapStart (t : Fin 8)
  /-- SWAP_CONNECT_END: The 128-period connect phase ends, and the swap waits for the next boundary b0 (R90). -/
  | swapConnectEnd (t : Fin 8)
  /-- CAL_POINT_START: A calibration point starts on the named converter, which abandons the conversion in progress (R108). -/
  | calPointStart (t : Fin 8)
  /-- CALIBRATION_DONE: Both calibration points end, and OFFSET and GAIN are computed or CAL_RANGE is raised (R92). -/
  | calibrationDone (t : Fin 8) (gain : Int) (offset : Int)
  /-- MC_INTEGRATION_END: A converter's integration ends, and the settling of the next conversion begins (R98). -/
  | mcIntegrationEnd (k : Fin 16) (v : Int)
  /-- MC_RESULT_WRITE: 80 FAB cycles after an integration ends, the result enters the FIFO and LASTi and raises the result producer (R105). -/
  | mcResultWrite (k : Fin 16)
  /-- MC_RUN: Setting or clearing MCk_CTL.RUN starts continuous scanning, or stops it after the conversion in progress (R101). -/
  | mcRun (k : Fin 16) (run : Bool)
  /-- MC_ONE: The ONE bit of MCk_CTL starts a single scan while RUN is 0 (R101). -/
  | mcOne (k : Fin 16)
  /-- MC_XCEN_WRITE: A change of XCEN re-deals the checked modulators over the cross-check set (R110). -/
  | mcXcenWrite (k : Fin 16) (on : Bool)
  /-- MC_RES_READ: A read of MCk_RES removes the oldest FIFO entry and latches its device time (R106). -/
  | mcResRead (k : Fin 16)
  /-- MAINS_ZERO_CROSSING: A zero-crossing event is accepted and sets MAINSPER, or is ignored with MAINS_GLITCH (R103). -/
  | mainsZeroCrossing (k : Fin 16)
  /-- MAINS_TIMEOUT: 25 ms without an accepted zero crossing raises MAINS_LOST and sets NOSYNC (R104). -/
  | mainsTimeout (k : Fin 16)
  /-- XC_CHECK: A cross-check conversion ends and compares the converter result with the modulator's mean sample (R111). -/
  | xcCheck (k : Fin 16) (v : Int)
  /-- XC_LATE_TIMEOUT: A checked modulator goes 100 ms without a check, and XC_LATE is raised (R113). -/
  | xcLateTimeout (n : Fin 64)
  /-- JOB_TRIGGER: A trigger reaches a slot and sets its pending flag, or is dropped with LE_TRIG_LOST or LE_EARLY (R122). -/
  | jobTrigger (e : Fin 48) (slot : Fin 8)
  /-- HELD_TRIGGER_PRESENT: A class U trigger held in the hold-off window is presented to its slot in cycle t + 1 (R223). -/
  | heldTriggerPresent (e : Fin 48) (slot : Fin 8)
  /-- JOB_DISPATCH: A free engine dispatches its lowest pending slot and clears the slot's pending flag (R121). -/
  | jobDispatch (e : Fin 48)
  /-- BUDGET_EXPIRY: A run reaches BUDGET microsteps without END, which raises LE_OVERRUN (R126). -/
  | budgetExpiry (e : Fin 48)
  /-- FALLBACK_WORD: A horizontal microword issues, and applies its updates, post, store, signal, counter and branch (R173). -/
  | fallbackWord (e : Fin 56) (fetch : Ecc) (data : Ecc)
  /-- FBLIM_EXPIRY: LEn_FBLIM ENG cycles of fallback pass, so fallback ends and its held legs stop (R173). -/
  | fblimExpiry (e : Fin 56)
  /-- FETCH_RESULT: A FETCH result arrives f cycles after issue and updates the last-fetch record and Q (R162). -/
  | fetchResult (e : Fin 56)
  /-- POST_ACCEPT: A leg accepts an edge post, which takes effect as R182 states, and the engine records CP (R129). -/
  | postAccept (k : Fin 48)
  /-- RAW_LANE_CODE: A raw lane accumulates a code of its source and compares ACC with its thresholds (R132). -/
  | rawLaneCode (e : Fin 48) (j : Fin 4)
  /-- BLANK_END: The lane's blanking interval ends and both of its actions are rearmed (R133). -/
  | blankEnd (e : Fin 48) (j : Fin 4)
  /-- FORCE_OFF: The leg accepts a force-off request and ends the on-time in progress (R184). -/
  | forceOff (k : Fin 48)
  /-- FORCE_ON: The leg accepts a force-on request and starts an on-time if none is in progress (R184). -/
  | forceOn (k : Fin 48)
  /-- RESTART_PERIOD: The leg accepts a restart request, ends the current period and begins a new one (R184). -/
  | restartPeriod (k : Fin 48)
  /-- MBOX_DATA_WRITE: A write to LEn_MBOX_DATA stores the value in the writing initiator's holding register (R136). -/
  | mboxDataWrite (ini : Initiator) (e : Fin 48) (w : BitVec 32)
  /-- MBOX_PUSH: A push enters the parameter mailbox FIFO, or is refused with FULLERR and LE_MBOX_FULL (R136). -/
  | mboxPush (ini : Initiator) (e : Fin 48) (w : BitVec 32)
  /-- MBOX_ENTRY_VISIBLE: A mailbox entry becomes visible to the engine after its 3-stage crossing (R137). -/
  | mboxEntryVisible (e : Fin 48)
  /-- MBOX_GROUP_APPLY: In an ENG cycle with no job running, the engine applies a visible group to the parameter blocks (R137). -/
  | mboxGroupApply (e : Fin 48)
  /-- ENGINE_DISABLE: The DISABLE bit of LEn_CMD requests a disable after the running job (R143). -/
  | engineDisable (e : Fin 48)
  /-- DISABLE_DRAIN_END: The running job has finished, so the engine stops, sends its legs safe and becomes disabled (R143). -/
  | disableDrainEnd (e : Fin 48)
  /-- HDISABLE: The HDISABLE bit of LEn_CMD hard-disables the engine with LE_HDISABLE and starts fallback (R143). -/
  | hdisable (e : Fin 48)
  /-- ENGINE_ENABLE: The ENABLE bit of LEn_CMD returns a disabled engine to normal operation (R143). -/
  | engineEnable (e : Fin 48)
  /-- ENGINE_RELOAD_DONE: After a function reset the engine's stores and slots are reloaded and its jobs become triggerable (R142). -/
  | engineReloadDone (e : Fin 48)
  /-- LE_SWAP: The SWAP bit of LEn_SWAP queues an engine request for swap, test and return (R145). -/
  | leSwap (e : Fin 48)
  /-- LE_REPLACE: The REPLACE bit of LEn_SWAP queues an engine request for a swap without return (R145). -/
  | leReplace (e : Fin 48)
  /-- LE_CANCEL: The CANCEL bit of LEn_SWAP removes a queued engine request (R145). -/
  | leCancel (e : Fin 48)
  /-- LE_SWAP_START: The tile serves a queued engine request and starts copying to the spare (R147). -/
  | leSwapStart (t : Fin 8)
  /-- LE_SWITCH: In the first free ENG cycle after the copy, the spare takes the role with its pending state (R148). -/
  | leSwitch (t : Fin 8)
  /-- SELFTEST_DONE: The released engine's self-test ends, and then its return starts or LE_SELFTEST retires it (R149). -/
  | selftestDone (t : Fin 8) (pass : Bool)
  /-- ECC_SCRUB: A scrub in an idle port cycle reads a codeword, and corrects and counts any error it finds (R501). -/
  | eccScrub (cls : Fin 9) (inst : Nat) (addr : Nat) (ecc : Ecc)
  /-- U_NOP: Microword NOP does nothing for one microstep (R160). -/
  | uNop (e : Fin 56) (fetch : Ecc)
  /-- U_END: Microword END ends the run (R167). -/
  | uEnd (e : Fin 56) (fetch : Ecc)
  /-- U_JMP: Microword JMP continues at TARGET (R168). -/
  | uJmp (e : Fin 56) (fetch : Ecc) (tgt : BitVec 12)
  /-- U_BR: Microword BR continues at TARGET if COND holds (R168). -/
  | uBr (e : Fin 56) (fetch : Ecc) (cond : BitVec 4) (tgt : BitVec 12)
  /-- U_CALL: Microword CALL pushes the return address and branches, or raises LE_STACK_OVF (R169). -/
  | uCall (e : Fin 56) (fetch : Ecc) (tgt : BitVec 12)
  /-- U_RET: Microword RET pops an address and continues there, or raises LE_STACK_UNF (R169). -/
  | uRet (e : Fin 56) (fetch : Ecc)
  /-- U_DBNZ: Microword DBNZ decrements D and branches if the result is not zero (R160). -/
  | uDbnz (e : Fin 56) (fetch : Ecc) (d : BitVec 4) (tgt : BitVec 12)
  /-- U_FETCH: Microword FETCH requests the value of a crossbar slot (R162). -/
  | uFetch (e : Fin 56) (fetch : Ecc) (d : BitVec 4) (slot : BitVec 10)
  /-- U_POST: Microword POST sends an edge post of PERIOD and edge values to a leg (R163). -/
  | uPost (e : Fin 56) (fetch : Ecc) (leg : BitVec 6) (vs : BitVec 4) (mask : BitVec 5)
  /-- U_SPOST: Microword SPOST sends a slope post of duty and slope to a leg (R183). -/
  | uSpost (e : Fin 56) (fetch : Ecc) (leg : BitVec 6) (vd : BitVec 4) (vsl : BitVec 4)
  /-- U_RAWCFG: Microword RAWCFG binds or unbinds a raw lane from a descriptor (R164). -/
  | uRawcfg (e : Fin 56) (fetch : Ecc) (lane : BitVec 2) (n : BitVec 2) (off : BitVec 14) (ecc : Ecc)
  /-- U_RAWTH: Microword RAWTH sets a raw lane's thresholds (R135). -/
  | uRawth (e : Fin 56) (fetch : Ecc) (lane : BitVec 2) (a : BitVec 4) (b : BitVec 4)
  /-- U_RAWRD: Microword RAWRD reads a raw lane's accumulator (R164). -/
  | uRawrd (e : Fin 56) (fetch : Ecc) (d : BitVec 4) (lane : BitVec 2)
  /-- U_PRM: Microword PRM reads a parameter word of the running slot (R160). -/
  | uPrm (e : Fin 56) (fetch : Ecc) (d : BitVec 4) (idx : BitVec 6) (ecc : Ecc)
  /-- U_SIG: Microword SIG raises one of the engine's job-signal producers on Ground (R166). -/
  | uSig (e : Fin 56) (fetch : Ecc) (k : BitVec 2)
  /-- U_MOV: Microword MOV copies a value register (R160). -/
  | uMov (e : Fin 56) (fetch : Ecc) (d : BitVec 4) (a : BitVec 4)
  /-- U_LDI: Microword LDI loads a sign-extended immediate (R160). -/
  | uLdi (e : Fin 56) (fetch : Ecc) (d : BitVec 4) (imm : BitVec 22)
  /-- U_LDIH: Microword LDIH sets bits [23:12] of D (R160). -/
  | uLdih (e : Fin 56) (fetch : Ecc) (d : BitVec 4) (imm : BitVec 12)
  /-- U_ADD: Microword ADD forms a saturating sum (R161). -/
  | uAdd (e : Fin 56) (fetch : Ecc) (d : BitVec 4) (a : BitVec 4) (b : BitVec 4)
  /-- U_SUB: Microword SUB forms a saturating difference (R161). -/
  | uSub (e : Fin 56) (fetch : Ecc) (d : BitVec 4) (a : BitVec 4) (b : BitVec 4)
  /-- U_ADDI: Microword ADDI adds an immediate with saturation (R161). -/
  | uAddi (e : Fin 56) (fetch : Ecc) (d : BitVec 4) (a : BitVec 4) (imm : BitVec 14)
  /-- U_ABS: Microword ABS takes a saturating absolute value (R161). -/
  | uAbs (e : Fin 56) (fetch : Ecc) (d : BitVec 4) (a : BitVec 4)
  /-- U_MIN: Microword MIN takes the minimum of two values (R161). -/
  | uMin (e : Fin 56) (fetch : Ecc) (d : BitVec 4) (a : BitVec 4) (b : BitVec 4)
  /-- U_MAX: Microword MAX takes the maximum of two values (R161). -/
  | uMax (e : Fin 56) (fetch : Ecc) (d : BitVec 4) (a : BitVec 4) (b : BitVec 4)
  /-- U_CLAMP: Microword CLAMP clamps D between S1 and S2 (R161). -/
  | uClamp (e : Fin 56) (fetch : Ecc) (d : BitVec 4) (a : BitVec 4) (b : BitVec 4)
  /-- U_AND: Microword AND forms a bitwise AND (R161). -/
  | uAnd (e : Fin 56) (fetch : Ecc) (d : BitVec 4) (a : BitVec 4) (b : BitVec 4)
  /-- U_OR: Microword OR forms a bitwise OR (R161). -/
  | uOr (e : Fin 56) (fetch : Ecc) (d : BitVec 4) (a : BitVec 4) (b : BitVec 4)
  /-- U_XOR: Microword XOR forms a bitwise XOR (R161). -/
  | uXor (e : Fin 56) (fetch : Ecc) (d : BitVec 4) (a : BitVec 4) (b : BitVec 4)
  /-- U_SHL: Microword SHL shifts left with saturation (R161). -/
  | uShl (e : Fin 56) (fetch : Ecc) (d : BitVec 4) (a : BitVec 4) (sh : BitVec 5)
  /-- U_SHR: Microword SHR shifts right arithmetically (R161). -/
  | uShr (e : Fin 56) (fetch : Ecc) (d : BitVec 4) (a : BitVec 4) (sh : BitVec 5)
  /-- U_CMP: Microword CMP sets Z and N from a comparison (R161). -/
  | uCmp (e : Fin 56) (fetch : Ecc) (a : BitVec 4) (b : BitVec 4)
  /-- U_MUL: Microword MUL loads an accumulator with a product (R158). -/
  | uMul (e : Fin 56) (fetch : Ecc) (k : BitVec 1) (a : BitVec 4) (b : BitVec 4)
  /-- U_MAC: Microword MAC adds a product to an accumulator with saturation (R158). -/
  | uMac (e : Fin 56) (fetch : Ecc) (k : BitVec 1) (a : BitVec 4) (b : BitVec 4)
  /-- U_MSU: Microword MSU subtracts a product from an accumulator with saturation (R158). -/
  | uMsu (e : Fin 56) (fetch : Ecc) (k : BitVec 1) (a : BitVec 4) (b : BitVec 4)
  /-- U_ACCLD: Microword ACCLD loads an accumulator with a shifted value (R158). -/
  | uAccld (e : Fin 56) (fetch : Ecc) (k : BitVec 1) (a : BitVec 4) (sh : BitVec 6)
  /-- U_ACCADD: Microword ACCADD adds a shifted value to an accumulator (R158). -/
  | uAccadd (e : Fin 56) (fetch : Ecc) (k : BitVec 1) (a : BitVec 4) (sh : BitVec 6)
  /-- U_ACCSUM: Microword ACCSUM adds the other accumulator to A (R158). -/
  | uAccsum (e : Fin 56) (fetch : Ecc) (k : BitVec 1)
  /-- U_ACCRD: Microword ACCRD reads a rounded, saturated, shifted accumulator value (R161). -/
  | uAccrd (e : Fin 56) (fetch : Ecc) (k : BitVec 1) (d : BitVec 4) (sh : BitVec 6)
  /-- U_ACCCLR: Microword ACCCLR clears an accumulator (R158). -/
  | uAccclr (e : Fin 56) (fetch : Ecc) (k : BitVec 1)
  /-- U_ACCSV: Microword ACCSV stores an accumulator to two data words (R161). -/
  | uAccsv (e : Fin 56) (fetch : Ecc) (k : BitVec 1) (n : BitVec 2) (off : BitVec 14)
  /-- U_ACCRS: Microword ACCRS restores an accumulator from two data words (R161). -/
  | uAccrs (e : Fin 56) (fetch : Ecc) (k : BitVec 1) (n : BitVec 2) (off : BitVec 14) (ecc : Ecc)
  /-- U_LD: Microword LD loads a data-memory word (R153). -/
  | uLd (e : Fin 56) (fetch : Ecc) (d : BitVec 4) (n : BitVec 2) (off : BitVec 14) (ecc : Ecc)
  /-- U_ST: Microword ST stores a sign-extended value to data memory, except in the parameter area (R153). -/
  | uSt (e : Fin 56) (fetch : Ecc) (a : BitVec 4) (n : BitVec 2) (off : BitVec 14)
  /-- U_LDA: Microword LDA loads an address register (R160). -/
  | uLda (e : Fin 56) (fetch : Ecc) (n : BitVec 2) (off : BitVec 14)
  /-- U_ADDA: Microword ADDA adds an immediate to an address register (R160). -/
  | uAdda (e : Fin 56) (fetch : Ecc) (n : BitVec 2) (off : BitVec 14)
  /-- U_TLU: Microword TLU interpolates its input through a table (R165). -/
  | uTlu (e : Fin 56) (fetch : Ecc) (d : BitVec 4) (a : BitVec 4) (n : BitVec 2) (off : BitVec 14) (ecc : Ecc)
  /-- U_MOVS: Microword MOVS reads a status word (R161). -/
  | uMovs (e : Fin 56) (fetch : Ecc) (d : BitVec 4) (sel : BitVec 2)
  /-- EDGE_EVENT: A leg's edge time arrives and the output turns off, with dead time before the other side turns on (R178). -/
  | edgeEvent (k : Fin 48)
  /-- DEAD_TIME_END: The dead time after a turn-off expires and the other output turns on (R178). -/
  | deadTimeEnd (k : Fin 48)
  /-- PERIOD_END: A leg's period ends, the next begins, and the period-start producer is raised (R176). -/
  | periodEnd (k : Fin 48)
  /-- MAXON_EXPIRY: An on-time reaches MAXON and ends (R180). -/
  | maxonExpiry (k : Fin 48)
  /-- LEG_ENABLE: The ENABLE bit of Ln_CMD moves a leg from SAFE to ACTIVE, or is refused with a CMDERR reason (R189). -/
  | legEnable (k : Fin 48)
  /-- LEG_STOP: The STOP bit of Ln_CMD stops the leg by its stop rule (R188). -/
  | legStop (k : Fin 48)
  /-- STOPNOW: The STOPNOW bit of Ln_CMD stops the leg by rule 0 (R188). -/
  | stopnow (k : Fin 48)
  /-- CLRCLAMP: The CLRCLAMP bit of Ln_CMD releases clamped outputs (R197). -/
  | clrclamp (k : Fin 48)
  /-- STOP_RULE_MET: The condition of a stop rule is met, so the outputs go to their safe values and the leg enters SAFE (R187). -/
  | stopRuleMet (k : Fin 48)
  /-- EDGE_READBACK: The readback of an output transition is judged, and may raise EO_LATE or EO_MISSING (R191). -/
  | edgeReadback (k : Fin 48) (dev : Option Int)
  /-- THERMAL_CUTOFF: A group's pad sensor passes 160 °C, so the tile's legs stop and its outputs go to high impedance (R193). -/
  | thermalCutoff (t : Fin 8)
  /-- CUTOFF_RELEASE: The group's pad sensor falls below 140 °C, and the cut-off releases (R530). -/
  | cutoffRelease (t : Fin 8)
  /-- LISTEN_START: SETTLE FAB cycles after a falling transition, the output begins to listen (R194). -/
  | listenStart (k : Fin 48) (out : Fin 2)
  /-- OTR_FAULT: A listening output reads low for LOWFILT cycles, which raises OTR_FAULT and its Springbok source (R199). -/
  | otrFault (k : Fin 48) (out : Fin 2)
  /-- OTR_CLAMP: A listening line rises above V_CL and the output is driven hard low (R197). -/
  | otrClamp (k : Fin 48) (out : Fin 2)
  /-- OTR_BLOCK_CLASSIFIED: A 4 µs listening block completes and sets the output's class (R200). -/
  | otrBlockClassified (k : Fin 48) (out : Fin 2) (runs : List (Bool × Nat))
  /-- PILLOW_RUN: Pillow runs a placement or re-placement for its occasion once any run in progress ends (R217). -/
  | pillowRun
  /-- BANKCLR: The BANKCLR bit of PLW_CTL clears the bank access and conflict counters (R241). -/
  | bankclr
  /-- EVENT_DELIVER: An event leaves its last hop and reaches its consumer, subject to the storm counter (R246). -/
  | eventDeliver (ec : Fin 1024)
  /-- PICOT_FILTER_EXPIRY: The glitch-filter count of a registered picot completes, so QF changes and publishes (R250). -/
  | picotFilterExpiry (p : Fin 256)
  /-- CORE_EVENT_ARRIVAL: An event arrives at a core event input after its crossing and adds to the pending count (R255). -/
  | coreEventArrival (c : Fin 16) (i : Fin 8)
  /-- MUTE: The MUTE bit of ECn_CTL mutes the channel (R253). -/
  | mute (ec : Fin 1024)
  /-- UNMUTE: The UNMUTE bit of ECn_CTL unmutes the channel and resets its window count (R253). -/
  | unmute (ec : Fin 1024)
  /-- TRIP_SOURCE_ASSERT: A mapped source asserts and trips its legs through the asynchronous latch and output gating (R267). -/
  | tripSourceAssert (n : Fin 224)
  /-- LATCH_SEEN: The device first sees a latch set in FAB, records the cause and time, and raises SPR_TRIP (R271). -/
  | latchSeen (k : Fin 48)
  /-- LEG_RELEASE: The GO bit of SPR_REL from a core attempts to release a leg's latch (R274). -/
  | legRelease (c : Fin 16) (k : Fin 48)
  /-- GT_ARM: The ARM bit of GTn_CMD arms a timer (R281). -/
  | gtArm (n : Fin 64)
  /-- TG_ARM: A TGg_ARM write arms the timers whose bits are set, on the same source edge (R282). -/
  | tgArm (g : Fin 4) (mask : BitVec 16)
  /-- ARM_TAKES_EFFECT: At the source edge that ends the third source cycle, the ARM clears COUNT and ACC and puts the timer in RUN (R282). -/
  | armTakesEffect (n : Fin 64)
  /-- COMPARE_MATCH: A count edge brings COUNT to or above CMP, which sets MATCH and raises the producer (R286). -/
  | compareMatch (n : Fin 64)
  /-- END_OF_COUNT: A count edge brings COUNT to or above END, and the timer enters DONE (R281). -/
  | endOfCount (n : Fin 64)
  /-- CMP_LO_WRITE: A GTn_CMP_LO write stores the low half in the writer's buffer (R285). -/
  | cmpLoWrite (ini : Initiator) (n : Fin 64) (w : BitVec 32)
  /-- CMP_HI_WRITE: A GTn_CMP_HI write commits CMP and arms the compare (R285). -/
  | cmpHiWrite (ini : Initiator) (n : Fin 64) (w : BitVec 32)
  /-- END_LO_WRITE: A GTn_END_LO write stores the low half in the writer's buffer (R285). -/
  | endLoWrite (ini : Initiator) (n : Fin 64) (w : BitVec 32)
  /-- END_HI_WRITE: A GTn_END_HI write commits END (R285). -/
  | endHiWrite (ini : Initiator) (n : Fin 64) (w : BitVec 32)
  /-- TIMER_CAPTURE: A capture event writes COUNT into CAP and sets PEND, or sets OVR (R289). -/
  | timerCapture (n : Fin 64)
  /-- CAP_LO_READ: A GTn_CAP_LO read returns CAP[31:0], latches the upper half and clears PEND (R290). -/
  | capLoRead (ini : Initiator) (n : Fin 64)
  /-- COUNT_LO_READ: A GTn_COUNT_LO read latches the upper half into the reader's shadow (R292). -/
  | countLoRead (ini : Initiator) (n : Fin 64)
  /-- DTIME_LO_READ: A TG0_DTIME_LO read latches the upper half of device time into the reader's shadow (R292). -/
  | dtimeLoRead (ini : Initiator)
  /-- SHADOW_HI_READ: A HI read within 16 bus cycles returns the shadow and releases it (R292). -/
  | shadowHiRead (ini : Initiator) (reg : Fin 129)
  /-- SHADOW_EXPIRY: 16 bus cycles after a LO read, the reader's shadow is released (R292). -/
  | shadowExpiry (ini : Initiator)
  /-- TPIN_EDGE: A qualified rising edge on a timer pin is counted, or a short pulse raises TPIN_SHORT (R279). -/
  | tpinEdge (m : Fin 16) (short : Bool)
  /-- NOP: Core instruction NOP does nothing (R318). -/
  | nop (c : Fin 16) (pre : List (Fin 16))
  /-- ADD: Core instruction ADD adds two registers (R318). -/
  | add (c : Fin 16) (pre : List (Fin 16)) (w : BitVec 16)
  /-- SUB: Core instruction SUB subtracts two registers (R318). -/
  | sub (c : Fin 16) (pre : List (Fin 16)) (w : BitVec 16)
  /-- AND: Core instruction AND forms a bitwise AND (R318). -/
  | and (c : Fin 16) (pre : List (Fin 16)) (w : BitVec 16)
  /-- OR: Core instruction OR forms a bitwise OR (R318). -/
  | or (c : Fin 16) (pre : List (Fin 16)) (w : BitVec 16)
  /-- XOR: Core instruction XOR forms a bitwise XOR (R318). -/
  | xor (c : Fin 16) (pre : List (Fin 16)) (w : BitVec 16)
  /-- SLL: Core instruction SLL shifts left by a register (R318). -/
  | sll (c : Fin 16) (pre : List (Fin 16)) (w : BitVec 16)
  /-- SRL: Core instruction SRL shifts right logically by a register (R318). -/
  | srl (c : Fin 16) (pre : List (Fin 16)) (w : BitVec 16)
  /-- SRA: Core instruction SRA shifts right arithmetically by a register (R318). -/
  | sra (c : Fin 16) (pre : List (Fin 16)) (w : BitVec 16)
  /-- SLT: Core instruction SLT sets rd on a signed less-than (R318). -/
  | slt (c : Fin 16) (pre : List (Fin 16)) (w : BitVec 16)
  /-- SLTU: Core instruction SLTU sets rd on an unsigned less-than (R318). -/
  | sltu (c : Fin 16) (pre : List (Fin 16)) (w : BitVec 16)
  /-- MIN: Core instruction MIN takes a signed minimum (R318). -/
  | min (c : Fin 16) (pre : List (Fin 16)) (w : BitVec 16)
  /-- MAX: Core instruction MAX takes a signed maximum (R318). -/
  | max (c : Fin 16) (pre : List (Fin 16)) (w : BitVec 16)
  /-- MINU: Core instruction MINU takes an unsigned minimum (R318). -/
  | minu (c : Fin 16) (pre : List (Fin 16)) (w : BitVec 16)
  /-- MAXU: Core instruction MAXU takes an unsigned maximum (R318). -/
  | maxu (c : Fin 16) (pre : List (Fin 16)) (w : BitVec 16)
  /-- MUL: Core instruction MUL gives the low 32 bits of a product (R318). -/
  | mul (c : Fin 16) (pre : List (Fin 16)) (w : BitVec 16)
  /-- MULH: Core instruction MULH gives the high 32 bits of a signed product (R318). -/
  | mulh (c : Fin 16) (pre : List (Fin 16)) (w : BitVec 16)
  /-- MULHU: Core instruction MULHU gives the high 32 bits of an unsigned product (R318). -/
  | mulhu (c : Fin 16) (pre : List (Fin 16)) (w : BitVec 16)
  /-- DIV: Core instruction DIV gives a signed quotient (R308). -/
  | div (c : Fin 16) (pre : List (Fin 16)) (w : BitVec 16)
  /-- DIVU: Core instruction DIVU gives an unsigned quotient (R308). -/
  | divu (c : Fin 16) (pre : List (Fin 16)) (w : BitVec 16)
  /-- REM: Core instruction REM gives a signed remainder (R308). -/
  | rem (c : Fin 16) (pre : List (Fin 16)) (w : BitVec 16)
  /-- REMU: Core instruction REMU gives an unsigned remainder (R308). -/
  | remu (c : Fin 16) (pre : List (Fin 16)) (w : BitVec 16)
  /-- ADDI: Core instruction ADDI adds an immediate (R318). -/
  | addi (c : Fin 16) (pre : List (Fin 16)) (w : BitVec 16) (imm : BitVec 32)
  /-- ANDI: Core instruction ANDI ANDs a zero-extended immediate (R318). -/
  | andi (c : Fin 16) (pre : List (Fin 16)) (w : BitVec 16) (imm : BitVec 32)
  /-- ORI: Core instruction ORI ORs a zero-extended immediate (R318). -/
  | ori (c : Fin 16) (pre : List (Fin 16)) (w : BitVec 16) (imm : BitVec 32)
  /-- XORI: Core instruction XORI XORs a zero-extended immediate (R318). -/
  | xori (c : Fin 16) (pre : List (Fin 16)) (w : BitVec 16) (imm : BitVec 32)
  /-- SLLI: Core instruction SLLI shifts left by an immediate (R318). -/
  | slli (c : Fin 16) (pre : List (Fin 16)) (w : BitVec 16) (imm : BitVec 32)
  /-- SRLI: Core instruction SRLI shifts right logically by an immediate (R318). -/
  | srli (c : Fin 16) (pre : List (Fin 16)) (w : BitVec 16) (imm : BitVec 32)
  /-- SRAI: Core instruction SRAI shifts right arithmetically by an immediate (R318). -/
  | srai (c : Fin 16) (pre : List (Fin 16)) (w : BitVec 16) (imm : BitVec 32)
  /-- SLTI: Core instruction SLTI sets rd on a signed less-than against an immediate (R318). -/
  | slti (c : Fin 16) (pre : List (Fin 16)) (w : BitVec 16) (imm : BitVec 32)
  /-- SLTIU: Core instruction SLTIU sets rd on an unsigned less-than against an immediate (R318). -/
  | sltiu (c : Fin 16) (pre : List (Fin 16)) (w : BitVec 16) (imm : BitVec 32)
  /-- LB: Core instruction LB loads a sign-extended byte, written after its slot (R306). -/
  | lb (c : Fin 16) (pre : List (Fin 16)) (w : BitVec 16) (off : BitVec 32) (ecc : Ecc)
  /-- LBU: Core instruction LBU loads a zero-extended byte (R306). -/
  | lbu (c : Fin 16) (pre : List (Fin 16)) (w : BitVec 16) (off : BitVec 32) (ecc : Ecc)
  /-- LH: Core instruction LH loads a sign-extended halfword (R306). -/
  | lh (c : Fin 16) (pre : List (Fin 16)) (w : BitVec 16) (off : BitVec 32) (ecc : Ecc)
  /-- LHU: Core instruction LHU loads a zero-extended halfword (R306). -/
  | lhu (c : Fin 16) (pre : List (Fin 16)) (w : BitVec 16) (off : BitVec 32) (ecc : Ecc)
  /-- LW: Core instruction LW loads a word (R306). -/
  | lw (c : Fin 16) (pre : List (Fin 16)) (w : BitVec 16) (off : BitVec 32) (ecc : Ecc)
  /-- SB: Core instruction SB stores a byte (R307). -/
  | sb (c : Fin 16) (pre : List (Fin 16)) (w : BitVec 16) (off : BitVec 32)
  /-- SH: Core instruction SH stores a halfword (R307). -/
  | sh (c : Fin 16) (pre : List (Fin 16)) (w : BitVec 16) (off : BitVec 32)
  /-- SW: Core instruction SW stores a word (R307). -/
  | sw (c : Fin 16) (pre : List (Fin 16)) (w : BitVec 16) (off : BitVec 32)
  /-- STI: Core instruction STI stores an immediate word (R318). -/
  | sti (c : Fin 16) (pre : List (Fin 16)) (w : BitVec 16) (off : BitVec 32) (data : BitVec 32)
  /-- BR: Core instruction BR branches if its condition holds (R310). -/
  | br (c : Fin 16) (pre : List (Fin 16)) (w : BitVec 16) (off : BitVec 32)
  /-- J: Core instruction J jumps to a relative target (R310). -/
  | j (c : Fin 16) (pre : List (Fin 16)) (off : BitVec 24)
  /-- JAL: Core instruction JAL jumps and links in gr31 (R310). -/
  | jal (c : Fin 16) (pre : List (Fin 16)) (off : BitVec 24)
  /-- JR: Core instruction JR jumps to a register address (R328). -/
  | jr (c : Fin 16) (pre : List (Fin 16)) (w : BitVec 16)
  /-- JALR: Core instruction JALR jumps to a register address and links (R328). -/
  | jalr (c : Fin 16) (pre : List (Fin 16)) (w : BitVec 16)
  /-- FADD: Core instruction FADD adds two FP32 values (R309). -/
  | fadd (c : Fin 16) (pre : List (Fin 16)) (w : BitVec 16)
  /-- FSUB: Core instruction FSUB subtracts two FP32 values (R309). -/
  | fsub (c : Fin 16) (pre : List (Fin 16)) (w : BitVec 16)
  /-- FMUL: Core instruction FMUL multiplies two FP32 values (R309). -/
  | fmul (c : Fin 16) (pre : List (Fin 16)) (w : BitVec 16)
  /-- FDIV: Core instruction FDIV divides two FP32 values (R309). -/
  | fdiv (c : Fin 16) (pre : List (Fin 16)) (w : BitVec 16)
  /-- FSQRT: Core instruction FSQRT takes an FP32 square root (R309). -/
  | fsqrt (c : Fin 16) (pre : List (Fin 16)) (w : BitVec 16)
  /-- FMADD: Core instruction FMADD performs a fused multiply-add (R309). -/
  | fmadd (c : Fin 16) (pre : List (Fin 16)) (w : BitVec 16)
  /-- FMIN: Core instruction FMIN takes an FP32 minimum (R309). -/
  | fmin (c : Fin 16) (pre : List (Fin 16)) (w : BitVec 16)
  /-- FMAX: Core instruction FMAX takes an FP32 maximum (R309). -/
  | fmax (c : Fin 16) (pre : List (Fin 16)) (w : BitVec 16)
  /-- FEQ: Core instruction FEQ compares two FP32 values for equality (R309). -/
  | feq (c : Fin 16) (pre : List (Fin 16)) (w : BitVec 16)
  /-- FLT: Core instruction FLT compares two FP32 values for less-than (R309). -/
  | flt (c : Fin 16) (pre : List (Fin 16)) (w : BitVec 16)
  /-- FLE: Core instruction FLE compares two FP32 values for less-than-or-equal (R309). -/
  | fle (c : Fin 16) (pre : List (Fin 16)) (w : BitVec 16)
  /-- FCVT_W_S: Core instruction FCVT.W.S converts a float to a signed integer (R309). -/
  | fcvtWS (c : Fin 16) (pre : List (Fin 16)) (w : BitVec 16)
  /-- FCVT_WU_S: Core instruction FCVT.WU.S converts a float to an unsigned integer (R309). -/
  | fcvtWuS (c : Fin 16) (pre : List (Fin 16)) (w : BitVec 16)
  /-- FCVT_S_W: Core instruction FCVT.S.W converts a signed integer to a float (R309). -/
  | fcvtSW (c : Fin 16) (pre : List (Fin 16)) (w : BitVec 16)
  /-- FCVT_S_WU: Core instruction FCVT.S.WU converts an unsigned integer to a float (R309). -/
  | fcvtSWu (c : Fin 16) (pre : List (Fin 16)) (w : BitVec 16)
  /-- MFSR: Core instruction MFSR reads a special register, latching the shadow for a LO counter (R319). -/
  | mfsr (c : Fin 16) (pre : List (Fin 16)) (w : BitVec 16)
  /-- MTSR: Core instruction MTSR writes a special register (R319). -/
  | mtsr (c : Fin 16) (pre : List (Fin 16)) (w : BitVec 16)
  /-- SEV: Core instruction SEV publishes on a channel after the warrant and producer checks (R312). -/
  | sev (c : Fin 16) (pre : List (Fin 16)) (w : BitVec 16)
  /-- SEVR: Core instruction SEVR publishes on the channel in rs1 (R312). -/
  | sevr (c : Fin 16) (pre : List (Fin 16)) (w : BitVec 16)
  /-- WFE: Core instruction WFE consumes a pending event of its mask, or begins to wait (R313). -/
  | wfe (c : Fin 16) (pre : List (Fin 16)) (rdb : BitVec 8) (mask : BitVec 8)
  /-- WFE_CONSUME: A waiting WFE consumes the first event that appears on an input of its mask (R313). -/
  | wfeConsume (c : Fin 16)
  /-- EVTST: Core instruction EVTST consumes a pending event or returns 0xFFFF_FFFF (R313). -/
  | evtst (c : Fin 16) (pre : List (Fin 16)) (rdb : BitVec 8) (mask : BitVec 8)
  /-- WAITT: Core instruction WAITT waits until device time reaches a deadline (R314). -/
  | waitt (c : Fin 16) (pre : List (Fin 16)) (w : BitVec 16)
  /-- WAITT_DEADLINE: The synchronised device time reaches a waiting WAITT's deadline, and WAITT completes (R314). -/
  | waittDeadline (c : Fin 16)
  /-- LOOP: Core instruction LOOP sets up a hardware loop of rc iterations (R311). -/
  | loop (c : Fin 16) (pre : List (Fin 16)) (w : BitVec 16) (end_ : BitVec 32)
  /-- LOOPI: Core instruction LOOPI sets up a hardware loop of CNT iterations (R311). -/
  | loopi (c : Fin 16) (pre : List (Fin 16)) (cnt : BitVec 32) (end_ : BitVec 32)
  /-- CKPT: Core instruction CKPT records a checkpoint and empties the journal and the log (R375). -/
  | ckpt (c : Fin 16) (pre : List (Fin 16))
  /-- HOLD: Core instruction HOLD opens or closes an interrupt-free window (R315). -/
  | hold (c : Fin 16) (pre : List (Fin 16)) (n : BitVec 16)
  /-- HOLD_WINDOW_END: HOLDLEFT reaches 0, so the window closes and pending interrupts may be taken (R341). -/
  | holdWindowEnd (c : Fin 16)
  /-- RFE: Core instruction RFE pops the newest frame and restores its state (R339). -/
  | rfe (c : Fin 16) (pre : List (Fin 16))
  /-- SYNC: Core instruction SYNC completes earlier accesses and discards the fetch and loop buffers (R316). -/
  | sync (c : Fin 16) (pre : List (Fin 16))
  /-- IJT_BAR: Core instruction IJT.BAR sets STATUS.IJBAR (R316). -/
  | ijtBar (c : Fin 16) (pre : List (Fin 16)) (b : BitVec 8)
  /-- IJT_FLUSH: Core instruction IJT.FLUSH empties the indirect-target table (R316). -/
  | ijtFlush (c : Fin 16) (pre : List (Fin 16))
  /-- TRAP: Core instruction TRAP raises TRAP (R316). -/
  | trap (c : Fin 16) (pre : List (Fin 16)) (imm : BitVec 8)
  /-- BRK: Core instruction BRK raises BRK, or halts the core under BRKCLAIM (R316). -/
  | brk (c : Fin 16) (pre : List (Fin 16))
  /-- WLD: Core instruction WLD loads and validates a warrant handle (R367). -/
  | wld (c : Fin 16) (pre : List (Fin 16)) (w : BitVec 16) (off : BitVec 32) (ecc : Ecc)
  /-- WST: Core instruction WST stores a warrant handle (R367). -/
  | wst (c : Fin 16) (pre : List (Fin 16)) (w : BitVec 16) (off : BitVec 32)
  /-- WDER: Core instruction WDER derives a new warrant from a descriptor (R360). -/
  | wder (c : Fin 16) (pre : List (Fin 16)) (w : BitVec 16) (ecc : Ecc)
  /-- WREV: Core instruction WREV revokes a warrant's subtree everywhere (R362). -/
  | wrev (c : Fin 16) (pre : List (Fin 16)) (b : BitVec 8)
  /-- WQ: Core instruction WQ reads a field of a warrant register (R367). -/
  | wq (c : Fin 16) (pre : List (Fin 16)) (w : BitVec 16)
  /-- WMOV: Core instruction WMOV copies a warrant register (R367). -/
  | wmov (c : Fin 16) (pre : List (Fin 16)) (w : BitVec 16)
  /-- WCLR: Core instruction WCLR writes the null warrant (R367). -/
  | wclr (c : Fin 16) (pre : List (Fin 16)) (b : BitVec 8)
  /-- INTERRUPT_ENTRY: A pending interrupt is taken at a permitted boundary, and the entry of R337 follows (R335). -/
  | interruptEntry (c : Fin 16)
  /-- BIND_LO_WRITE: A WRT_BIND_LO write holds the low half of a handle for the writer (R366). -/
  | bindLoWrite (ini : Initiator) (w : BitVec 32)
  /-- BIND_HI_WRITE: A WRT_BIND_HI write commits a valid handle to the selected bound-set slot, or sets ERR (R366). -/
  | bindHiWrite (ini : Initiator) (w : BitVec 32)
  /-- COMPARE_MISMATCH: A lockstep comparison fails, and the pair resets, undoes its journal and replays from the checkpoint (R378). -/
  | compareMismatch (p : Fin 8) (g : Fin 12)
  /-- CMPTEST: The CMPTEST bit of CPp_CMD repeats the comparator test on a pair with no committed task (R372). -/
  | cmptest (p : Fin 8)
  /-- DMA_START: START, or a start event, starts a channel that is IDLE, DONE or HALTED (R390). -/
  | dmaStart (h : Fin 32)
  /-- DMA_STOP: The STOP bit of DMAe.c_CMD halts the channel after the burst in progress (R392). -/
  | dmaStop (h : Fin 32)
  /-- DMA_RESUME: The RESUME bit of DMAe.c_CMD continues a halted channel after its checks (R392). -/
  | dmaResume (h : Fin 32)
  /-- ADDLVL: The ADDLVL bit of DMAe.c_CMD adds INC to the software level (R391). -/
  | addlvl (h : Fin 32) (inc : BitVec 16)
  /-- DMA_CTL_WRITE: A write to DMAe.c_CTL sets the channel controls, and FREE only from PF0 (R389). -/
  | dmaCtlWrite (ini : Initiator) (h : Fin 32) (w : BitVec 32)
  /-- DMA_PACE_READY: A paused channel's level reaches HIGH, and the channel becomes READY (R391). -/
  | dmaPaceReady (h : Fin 32)
  /-- DMA_RUN_START: A free engine gives its turn to its lowest-numbered READY channel (R390). -/
  | dmaRunStart (e : Fin 4)
  /-- DMA_BURST: One unit is read and written as a burst after its warrant checks, and the channel completes after the last unit (R387). -/
  | dmaBurst (h : Fin 32) (ecc : Ecc) (data : Option (List (BitVec 8)))
  /-- DMA_RETRY: 64 FAB cycles after a bus error, the unit is retried or the channel halts (R392). -/
  | dmaRetry (h : Fin 32) (ecc : Ecc) (data : Option (List (BitVec 8)))
  /-- BLOCK_ISSUE: A stream's full block is issued into the host ring at its block index (R398). -/
  | blockIssue (i : Fin 258) (ecc : Ecc)
  /-- FLUSH_TIMEOUT: A block that has held items for FLUSH µs is issued as a partial block (R398). -/
  | flushTimeout (i : Fin 258)
  /-- BLOCK_ACK: Every write of a block is acknowledged, so WRIDX advances (R400). -/
  | blockAck (b : Nat)
  /-- RDIDX_WRITE: A write of CAP_RDIDX frees ring space, or is refused beyond WRIDX (R401). -/
  | rdidxWrite (w : BitVec 32)
  /-- CAP_EN_WRITE: Setting or clearing CAP_CTL.EN starts capture issue from index 0, or stops it (R402). -/
  | capEnWrite (on : Bool)
  /-- THAW: The THAW bit of CAP_CTL clears FROZEN and TRIGGERED (R403). -/
  | thaw
  /-- SNAP_ARM: The ARM bit of CAP_SNAP arms the snapshot (R403). -/
  | snapArm (w : BitVec 32)
  /-- FORWARDED_BLOCK_ARRIVAL: A capture block from another seat arrives, and is forwarded, written with FWD, or dropped (R405). -/
  | forwardedBlockArrival (p : Fin 2) (kind : BitVec 4) (stream : BitVec 16) (seat : BitVec 8) (seq : BitVec 32) (bytes : List (BitVec 8)) (dtime : BitVec 64) (dropped : BitVec 16) (gap : Bool) (replayed : Bool) (snap : Bool) (crc : Bool)
  /-- RPON: The RPON bit of CAP_Si_CTL requests replay, pending until a boundary with enough fill (R408). -/
  | rpon (i : Fin 256)
  /-- RPOFF: The RPOFF bit of CAP_Si_CTL ends replay at the next boundary (R408). -/
  | rpoff (i : Fin 256)
  /-- RPWR_WRITE: A write of RPWR sets the replay buffer fill, or is refused with RPWERR (R407). -/
  | rpwrWrite (i : Fin 256) (w : BitVec 32)
  /-- CONFIG_REQUEST: A PCIe configuration request is answered with retry status before the boot commit ends, and with the identity after (R414). -/
  | configRequest (f : Fin 64) (off : BitVec 12) (w : Option (BitVec 32 × BitVec 4))
  /-- INBOUND_READ: A host memory read reaches a BAR region, or is refused with all-0xFF data (R418). -/
  | inboundRead (f : Fin 64) (bar : Fin 6) (off : Nat) (n : Nat) (all : Bool) (ecc : Ecc) (buf : Ecc)
  /-- INBOUND_WRITE: A host memory write is applied in arrival order, or is refused and discarded (R418). -/
  | inboundWrite (f : Fin 64) (bar : Fin 6) (off : Nat) (data : List (Option (BitVec 8))) (poison : Bool) (buf : Ecc)
  /-- PRICKING_WINDOW_WRITE: A PF0 write to the pricking window is merged into NVM lines of the target in NVM_PWSLOT (R489). -/
  | prickingWindowWrite (off : BitVec 23) (data : List (BitVec 8))
  /-- INTENT_DOORBELL: A VF's intent doorbell is checked and enters its queue, or is refused with a reason (R425). -/
  | intentDoorbell (v : Fin 63) (whole : Bool) (w0 : BitVec 32) (w1 : BitVec 32) (w2 : BitVec 32) (w3 : BitVec 32)
  /-- DOORBELL_PUBLISH: A queued doorbell writes its crossbar slots and raises its intent producer (R426). -/
  | doorbellPublish (v : Fin 63)
  /-- OUTBOUND_COMPLETION: A completion for an outbound read arrives, and an error status or poisoned data ends the access in a bus error (R421). -/
  | outboundCompletion (c : Fin 16) (data : Option (List (BitVec 8)))
  /-- COMPLETION_TIMEOUT: An outbound read times out, so it ends in a bus error and PCIE_CTO is raised (R421). -/
  | completionTimeout (c : Fin 16)
  /-- SWIRQ_GO: The GO bit of PCIE_SWIRQ pulses a software MSI-X vector (R422). -/
  | swirqGo (f : Fin 64) (vec : BitVec 5)
  /-- FLR: A function level reset applies the function reset of its function (R427). -/
  | flr (f : Fin 64)
  /-- PERST: Assertion of PERST_N resets every PCIe function and starts retraining (R428). -/
  | perst
  /-- DL_DOWN: The data link goes down, so every function is reset and PCIE_LINKDOWN is raised (R428). -/
  | dlDown
  /-- LINK_TRAINING_START: PCIe link training begins with the limits of the verified slot or the defaults (R414). -/
  | linkTrainingStart
  /-- ASPM_ENTRY: An idle timer expires and the link enters L0s or L1 (R431). -/
  | aspmEntry (st : Fin 7)
  /-- PORT_UP: A Braid port completes training with a matching neighbour and comes up (R437). -/
  | portUp (b : Fin 2) (nseat : BitVec 4) (nring : BitVec 4) (map : BitVec 32) (pol : BitVec 32) (nlock : Bool) (nref : Bool)
  /-- BRAID_SEAT_MISMATCH: A neighbour reports another seat or ring size, and the port stays down with BRAID_SEAT (R437). -/
  | braidSeatMismatch (b : Fin 2) (nseat : BitVec 4) (nring : BitVec 4)
  /-- PORT_DOWN: A Braid port goes down, discards items in flight, and sends the link state round the ring (R446). -/
  | portDown (b : Fin 2) (reason : Fin 8)
  /-- RETRAIN: The RETRAIN bit of Bb_CTL restarts training on the port (R437). -/
  | retrain (b : Fin 2)
  /-- PORT_DOWN_WRITE: Setting Bb_CTL.DOWN holds the port down (R446). -/
  | portDownWrite (b : Fin 2) (down : Bool)
  /-- LINK_STATE_MESSAGE: A link-state change from another seat arrives round the ring and starts a re-placement (R446). -/
  | linkStateMessage (b : Fin 2) (host : Bool) (link : Fin 8) (up : Bool)
  /-- NOTRAIN_TIMEOUT: An enabled port is still not up 10 ms after it began training, which raises SYS_NOTRAIN (R474). -/
  | notrainTimeout (b : Fin 2)
  /-- TIME_STAMP_EXCHANGE: Device-time stamps are exchanged every 1 µs, and the follower corrects its offset (R440). -/
  | timeStampExchange (b : Fin 2) (ofs : Int) (delay : Nat) (nlock : Bool) (nref : Bool)
  /-- LATENCY_ITEM_ARRIVAL: A ring sample or global event item arrives on a port, and is forwarded, buffered or counted late (R441). -/
  | latencyItemArrival (b : Fin 2) (dst : Fin 8) (src : Fin 8) (ec : Fin 1024) (ring : Bool) (crc : Bool) (value : BitVec 24) (qual : BitVec 2) (seq : BitVec 16) (per : BitVec 32) (time : BitVec 64)
  /-- RING_SAMPLE_RELEASE: At b + 9·X the ring-sample slot is released with the item or with QUAL 3, and the arrival event is raised (R444). -/
  | ringSampleRelease (idx : Fin 256)
  /-- GLOBAL_EVENT_RELEASE: A global event is delivered on the consumer's seat at t + 2 + 9·X, or on a late arrival (R445). -/
  | globalEventRelease (ec : Fin 1024)
  /-- SUPPLY_START: VHOLD reaches the start threshold, the rails ramp, and power-on reset is released (R455). -/
  | supplyStart (cold : Bool)
  /-- BOOT_ROM_START: The boot ROM starts on CP0, samples the straps and loads the write-once state (R504). -/
  | bootRomStart (straps : BitVec 3) (cmp : List (BitVec 12)) (lost : Bool)
  /-- STOP_SEQUENCE: VHOLD falls below the stop threshold, and every leg is forced safe (R451). -/
  | stopSequence
  /-- STOP_AUX_OFF: 20 µs into the stop sequence, AUX12 and AUX5 switch off and power-on reset is asserted (R451). -/
  | stopAuxOff
  /-- OVERVOLTAGE: VIN rises above the overvoltage threshold, the FET opens and PWR_OVIN is raised (R450). -/
  | overvoltage (vin : Nat)
  /-- OVERVOLTAGE_CLEAR: VIN falls below 77 V and the FET closes (R450). -/
  | overvoltageClear
  /-- REVERSE_INPUT: VIN falls below −1 V while running, so the FET stays open and PWR_REVIN is raised (R450). -/
  | reverseInput (vin : Int)
  /-- UVWARN: VHOLD crosses the low-supply warning level, which raises PWR_UVWARN (R471). -/
  | uvwarn (vhold : Nat) (below : Bool)
  /-- RAIL_FAULT: An internal rail is out of tolerance for 10 µs, so the stop sequence runs with PWR_RAIL (R456). -/
  | railFault (rail : Nat)
  /-- THERMAL_SHUTDOWN: The power die exceeds 150 °C, so the stop sequence runs with PWR_TSD (R456). -/
  | thermalShutdown (temp : Nat)
  /-- PWR_HOT: The power die reaches 130 °C, which raises PWR_HOT (R456). -/
  | pwrHot (temp : Nat)
  /-- POWER_RESTART: 100 ms after PWR_RAIL, or once cooled after PWR_TSD, the device starts again (R456). -/
  | powerRestart
  /-- AUX_LIMIT: An auxiliary output held at its limit for 200 µs switches off, raising its fault and optionally stopping legs (R457). -/
  | auxLimit (o : Fin 2) (ma : Nat)
  /-- AUX_RETRY: 20 ms after a limit switch-off, the auxiliary output retries (R457). -/
  | auxRetry (o : Fin 2)
  /-- AUX_EPISODE_END: 100 ms without a limit event ends the episode (R457). -/
  | auxEpisodeEnd (o : Fin 2)
  /-- AUXCTL_WRITE: A PWR_AUXCTL write switches the auxiliary outputs, or is refused while a leg is active (R458). -/
  | auxctlWrite (w : BitVec 32)
  /-- INPUT_SAMPLE: Every 1 µs the power die samples VIN and input current and updates power and energy (R459). -/
  | inputSample (vin : Int) (iin : Nat) (i12 : Nat) (i5 : Nat)
  /-- POWER_STATE_EVAL: Each FAB cycle a unit chooses Bed, Browse or Run from its slack, and schedules its exit (R464). -/
  | powerStateEval (u : Fin 9)
  /-- SCHEDULED_EXIT: The scheduled exit time before a known event arrives, and the unit starts its exit (R464). -/
  | scheduledExit (u : Fin 9)
  /-- UNIT_WAKE: An unknown event needing a sleeping unit starts its exit and is held (R465). -/
  | unitWake (u : Fin 9)
  /-- EXIT_COMPLETE: A unit's exit completes, it is in Run, and held events act (R465). -/
  | exitComplete (u : Fin 9)
  /-- YARD_ENTRY: With every Yard condition met, the device enters Yard (R467). -/
  | yardEntry
  /-- YARD_WAKE: A wake source starts a Yard exit and is recorded in PWR_WAKE.LAST (R469). -/
  | yardWake (src : Fin 8)
  /-- YARD_EXIT: The rails, PLLs and NVM are restored and modulators restart after Yard (R468). -/
  | yardExit (cycles : Nat)
  /-- QUIET_LO_WRITE: A PWR_QUIET_LO write holds the low half of the quiet-period end (R470). -/
  | quietLoWrite (ini : Initiator) (w : BitVec 32)
  /-- QUIET_HI_WRITE: A PWR_QUIET_HI write commits the quiet-period end (R470). -/
  | quietHiWrite (ini : Initiator) (w : BitVec 32)
  /-- QUIET_END: Device time reaches the quiet-period end, and the period ends (R470). -/
  | quietEnd
  /-- XTAL_LOST: 160 ns without a reference edge declares the reference lost, gates the legs and falls back to AON (R475). -/
  | xtalLost
  /-- PLL_LOCK: A PLL relocks on AON or on the reference, and the control family resumes (R475). -/
  | pllLock (p : Fin 2)
  /-- CPLL_UNLOCK: The control PLL loses lock, and the legs are gated (R476). -/
  | cpllUnlock
  /-- KPLL_UNLOCK: The core PLL loses lock, and the cores stop until it relocks (R476). -/
  | kpllUnlock
  /-- REFOK_SET: The reference has been present for 1 ms without a gap, so REFOK is set (R477). -/
  | refokSet
  /-- CLKRET: The CLKRET bit of FRST_CTL returns the PLLs to the reference and removes the gating, or is refused (R477). -/
  | clkret
  /-- DEVICE_RESET: RESET_N low forces the legs safe, resets the device and restarts boot at the boot-ROM step (R478). -/
  | deviceReset
  /-- DEVRST_WRITE: A write of 0x0000_9664 to FRST_DEVRST starts a device reset (R478). -/
  | devrstWrite (ini : Initiator) (w : BitVec 32)
  /-- FUNC_RESET: The RESET action of FRST_CMD drains, resets and releases a function (R479). -/
  | funcReset (ini : Initiator) (f : Fin 512)
  /-- FUNC_HRESET: The HRESET action of FRST_CMD resets a function at once and releases it (R480). -/
  | funcHreset (ini : Initiator) (f : Fin 512)
  /-- FUNC_HOLD: The HOLD action of FRST_CMD drains and resets a function and keeps it held (R479). -/
  | funcHold (ini : Initiator) (f : Fin 512)
  /-- FUNC_HHOLD: The HHOLD action of FRST_CMD resets a function at once and keeps it held (R480). -/
  | funcHhold (ini : Initiator) (f : Fin 512)
  /-- FUNC_RELEASE: The RELEASE action of FRST_CMD releases a held function (R479). -/
  | funcRelease (ini : Initiator) (f : Fin 512)
  /-- FUNC_DRAIN_END: A function's bounded unit finishes, and its reset phase begins (R479). -/
  | funcDrainEnd (f : Fin 512)
  /-- FUNC_RESET_END: A function's reset phase ends, and it is released or stays held (R481). -/
  | funcResetEnd (f : Fin 512) (pass : BitVec 12)
  /-- STORE: The STORE operation of NVM_CMD journals the changed settings lines and commits them (R495). -/
  | store (ini : Initiator) (count : BitVec 6)
  /-- PROG: The PROG operation of NVM_CMD programs staging-buffer lines into a slot or the code-image area (R490). -/
  | prog (ini : Initiator) (count : BitVec 6)
  /-- KEYPROG: The KEYPROG operation of NVM_CMD programs a key-slot digest (R492). -/
  | keyprog (ini : Initiator) (count : BitVec 6)
  /-- KEYREV: The KEYREV operation of NVM_CMD revokes a key slot (R492). -/
  | keyrev (ini : Initiator) (count : BitVec 6)
  /-- OPTION: The OPTION operation of NVM_CMD rewrites the option row (R492). -/
  | option (ini : Initiator) (count : BitVec 6)
  /-- NVM_WRITE_DONE: An NVM write operation ends after read-back, with success or WRFAIL (R487). -/
  | nvmWriteDone (fail : Bool)
  /-- CLAIM: The CLAIM bit of NVM_CLAIM makes the writer owner of the staging buffer if it has none (R491). -/
  | claim (ini : Initiator)
  /-- RELEASE: The RELEASE bit of NVM_CLAIM frees the staging buffer (R491). -/
  | release (ini : Initiator)
  /-- STBUF_WRITE: A write to NVM_STBUF stores a word for the owner, or ends in a bus error (R491). -/
  | stbufWrite (ini : Initiator) (j : Fin 512) (w : BitVec 32)
  /-- EXTEST: TAP instruction EXTEST drives pins by boundary scan, or loads BYPASS under a committed structure (R508). -/
  | extest (scan : Nat)
  /-- SAMPLE_PRELOAD: TAP instruction SAMPLE/PRELOAD samples the boundary-scan chain (R507). -/
  | samplePreload (scan : Nat)
  /-- IDCODE: TAP instruction IDCODE selects the 32-bit identity register (R507). -/
  | idcode
  /-- CLAMP: TAP instruction CLAMP holds pins and selects bypass, when no structure is committed (R508). -/
  | clamp
  /-- HIGHZ: TAP instruction HIGHZ puts pins in high impedance, when no structure is committed (R508). -/
  | highz
  /-- DAPACC: TAP instruction DAPACC performs a 32-bit access to the core map at Update-DR (R507). -/
  | dapacc (op : BitVec 2) (addr : BitVec 32) (w : BitVec 32) (data : Option (List (BitVec 8)))
  /-- BYPASS: TAP instruction BYPASS selects the bypass register (R507). -/
  | bypass
  /-- TAP_RESET: A TAP reset clears DAPEN (R507). -/
  | tapReset
  /-- HALT: The HALT bit of DBG_Cc_CTL requests a core halt (R510). -/
  | halt (c : Fin 16)
  /-- CORE_HALTED: The core reaches a permitted boundary and halts (R510). -/
  | coreHalted (c : Fin 16)
  /-- STEP: The STEP bit of DBG_Cc_CTL executes one instruction of a halted core (R511). -/
  | step (c : Fin 16)
  /-- RESUME: The RESUME bit of DBG_Cc_CTL continues a halted core (R511). -/
  | resume (c : Fin 16)
  /-- BREAKPOINT_HIT: A core halts before an instruction matching an enabled breakpoint (R512). -/
  | breakpointHit (c : Fin 16)
  /-- RDATA_ACCESS: A DBG_Cc_RDATA access reads or writes the selected register of a halted core (R513). -/
  | rdataAccess (c : Fin 16) (w : Option (BitVec 32))
  /-- DETACH: The DETACH bit of DBG_LCTL requests a swap that leaves the released engine detached (R515). -/
  | detach (w : BitVec 27)
  /-- ATTACH: The ATTACH bit of DBG_LCTL ends the detachment, with the test and return following (R517). -/
  | attach (w : BitVec 27)
  /-- DISPATCH: The DISPATCH bit of DBG_LCTL starts a run on the detached engine, stopped before its first microword (R516). -/
  | dispatch (w : BitVec 27)
  /-- LSTEP: The STEP bit of DBG_LCTL issues one microword on the detached engine (R516). -/
  | lstep (w : BitVec 27)
  /-- CONT: The CONT bit of DBG_LCTL runs the detached engine to END or the breakpoint (R516). -/
  | cont (w : BitVec 27)
  /-- GPIO_OUT_WRITE: A PIN_GPIO_OUT write sets the levels driven on GPIO pins (R526). -/
  | gpioOutWrite (w : BitVec 32)
  /-- GPIO_OE_WRITE: A PIN_GPIO_OE write enables or disables GPIO drivers (R526). -/
  | gpioOeWrite (w : BitVec 32)
  /-- VALIDATION_END: Validation steps 1–10 of a pricking command finish within their bounded time, which ends a VERIFY or leads on to placement, the slot-table write of ACTIVATE or patch staging (R49). -/
  | validationEnd
  /-- PLACEMENT_END: A Pillow run finishes, so PLW_STAT.RUNS, LAST and PLW_TIME advance and, for a re-placement, the new record comes into force (R217). -/
  | placementEnd
  /-- PCIE_LINK_UP: PCIe training completes and the link comes up, or settles at a new negotiated width or speed, which starts a Pillow re-placement (R238). -/
  | pcieLinkUp (width : Fin 17) (speed : Fin 6) (rev : Bool) (pol : BitVec 16)
  /-- ASPM_EXIT: The link leaves L0s or L1 and returns to L0 (R431). -/
  | aspmExit
  /-- CAPTURE_BLOCK_ACK: The neighbour acknowledges a forwarded capture block, which frees one of the port's 512 unacknowledged places (R441). -/
  | captureBlockAck (p : Fin 2)
  /-- CMPTEST_DONE: A repeated comparator test ends within 2.5 µs, writes CPp_CMPRES and clears or sets CMPFAIL (R372). -/
  | cmptestDone (p : Fin 8) (pass : BitVec 12)
  /-- STATE_ENTRY_COMPLETE: A unit's entry into Browse, Bed or Yard finishes after its entry time, and any exit held behind the entry starts (R466). -/
  | stateEntryComplete (u : Fin 10)
  /-- VIO_BANK_CHANGE: A bank supply VIO_Et or VIO_G enters or leaves its range, so PIN_VIOSTAT changes and the bank's outputs are held low by their pull-downs or released (R527). -/
  | vioBankChange (bank : Fin 9) (level : BitVec 2)
  deriving DecidableEq, Repr

end Sys2Proof
end

