-- ==== Sys2Proof/Decode.lean ====
section
/-!
DEFINITION. The commands that words of the opcode table spell. spec/opcode_table.json gives no row any bits: a command comes to the block from outside, and no word
spells one.
-/
namespace Sys2Proof

/-- The command that a word spells by the table's bits: none. -/
def decodeTableWord (_ _ : Nat) : Option Instr := none

end Sys2Proof
end

