-- ==== Sys2Proof/Config.lean ====
section
/-!
DEFINITION. The values the specification leaves open: constants without a body, so that no proof can lean on a value of one.
Each is named in the assumption log.
-/
namespace Sys2Proof

/-- A fresh value for each count: what the hardware random source gives (warrant check key) and every instant
that the specification only bounds from above. Log entry 3. -/
opaque Config.freeNat : Nat → Nat

/-- R71: the deviation of the held reciprocal of D^K, in units of 2^-40 of its value; the model clamps it to the bound
2^-22 that the rule states. Log entry 6. -/
opaque Config.recipDev (d k : Nat) : Int

/-- R348: the keyed check over INDEX and GEN of a handle; the first argument names the key drawn. Log entry 8. -/
opaque Config.handleCheck : Nat → Nat → Nat

/-- R240: mask i of the hash key of the shared-SRAM banks; the first argument names the key drawn. Log entry 3. -/
opaque Config.bankMask : Nat → Nat → BitVec 15

/-- R309 under IEEE 754: whether a result is judged tiny after rounding, and whether FMADD of an infinity, a zero and a quiet NaN
signals invalid; the standard leaves both to the implementer. Log entry 9. -/
opaque Config.tinyAfter : Bool
opaque Config.fmaInvalid : Bool

/-- R232: the floor of a ring sample needs K and the FIR setting of its modulator on another device, which no record of the consumer's
seat holds: a value by source seat and channel, read modulo 8 as 2 * (K - 1) + FIR. Log entry 10. -/
opaque Config.ringFilter : Nat → Nat → Nat

end Sys2Proof
end

