-- ==== Sys2Proof/Machine/State.lean ====
section
/-!
DEFINITION. The state of the block as plain data, the reasons a step can stop, and the state after reset.
Documented registers live in one store, keyed by field and instance, that lists only what differs from the reset value
(Machine/Fields.lean names the fields). Everything else the specification gives the part stands in the structures below.
Times: et counts steps of 19.53125 ps (R175) since reset; an optional time is the instant at which a timed event is due.
-/
namespace Sys2Proof.Machine

/-- A modulator unit: 0 to 63 the units of MOD0 to MOD63, 64 + t the spare of tile t (R17, R70, R71, R76). -/
structure ModUnit where
  /-- gain trim, units of 2^-20 -/
  gain : Int := 0
  /-- offset trim, output LSB -/
  offset : Int := 0
  /-- out of service (R93 to R95) -/
  failed : Bool := false
  /-- delivers valid codes (R75, R76) -/
  valid : Bool := false
  /-- the extreme value, 0 or 15, of the present run of equal extreme codes -/
  extVal : Nat := 0
  /-- length of that run -/
  ext : Nat := 0
  /-- the loop-filter reset in progress or scheduled ends here -/
  resetDue : Option Nat := none
  /-- overload is present: from a declaration to the 16th code after the episode's end (R70) -/
  episode : Bool := false
  /-- device time of the end of the last loop-filter reset, at which the last episode is dated once 16 codes have followed; none while a reset
  is scheduled or in progress -/
  endAt : Option Nat := none
  /-- codes since that end, while overload is present -/
  after : Nat := 0
  /-- instant of the last code (R69, R77) -/
  codeAt : Nat := 0
  /-- the unit restarts here (R76) -/
  restart : Option Nat := none
  deriving DecidableEq, Repr

/-- A code in a decimator: its value, the unit that delivered it, and its overload mark (R70, R77). -/
structure MCode where
  code : Nat
  unit : Nat
  ovl : Bool := false
  deriving DecidableEq, Repr

/-- The decimator and the crossbar slot of role MOD n (R71 to R80). -/
structure ModRole where
  /-- codes taken, newest first -/
  hist : List MCode := []
  /-- sinc outputs, newest first, at most 16 (R74) -/
  fir : List Int := []
  /-- device time of the last boundary processed -/
  lastB : Nat := 0
  /-- boundary from which samples are settled (R75); none: no valid codes yet -/
  settleAt : Option Nat := none
  /-- SEQ[15:0] of the sample in the slot -/
  seq : Nat := 0
  deriving DecidableEq, Repr

/-- The supervision of input n (R82 to R86). -/
structure ModInput where
  /-- thresholds LO, HI and HYST of the last write of MODn_WIN known to be in effect, and later writes with the instants from which they are, in
  order (R83) -/
  win : Nat × Nat × Nat := (0x800, 0x7FF, 0)
  wins : List (Nat × Nat × Nat × Nat) := []
  /-- successive open-wire pulses that moved the positive and the negative pin by more than 100 mV (R84) -/
  runP : Nat := 0
  runN : Nat := 0
  openP : Bool := false
  openN : Bool := false
  /-- ends of the next pulses -/
  owP : Option Nat := none
  owN : Option Nat := none
  /-- the last classifications, newest first, at most three: 0 none, 1 REVERSED, 2 UNPOWERED, 3 CM_RANGE (R86) -/
  cmLast : List Nat := []
  cmNow : Nat := 0
  cmDue : Option Nat := none
  deriving DecidableEq, Repr

/-- A swap request of a tile queue: the role and whether it is a REPLACE (R88, R145). -/
structure SwapReq where
  role : Nat
  replace : Bool
  deriving DecidableEq, Repr

/-- A modulator swap in progress (R90 to R93). Phases as MODn_STAT.SWAP: 2 connect, 3 parallel, 4 calibrate, 5, 6 return. -/
structure ModSwap where
  req : SwapReq
  phase : Nat
  /-- the connect phase ends here -/
  due : Option Nat := none
  /-- boundaries b0 and b_K, device time -/
  b0 : Option Nat := none
  bK : Option Nat := none
  /-- the parallel decimator -/
  hist : List MCode := []
  /-- calibration: the converter, the next point, and the end of the point being taken -/
  mc : Nat := 0
  point : Nat := 0
  pointDue : Option Nat := none
  deriving DecidableEq, Repr

/-- The modulator swap state of a tile (R88 to R95). -/
structure ModTile where
  queue : List SwapReq := []
  cur : Option ModSwap := none
  /-- roles that another unit than their own carries, with the unit; the unit without a role, the spare if none is named (R28) -/
  units : List (Nat × Nat) := []
  free : Option Nat := none
  deriving DecidableEq, Repr

/-- A formed capture block (R398): payload bytes, device time of the first item, items lost before it, flags. -/
structure CapBlock where
  kind : Nat
  stream : Nat
  seat : Nat
  seq : Nat
  bytes : List (BitVec 8)
  dtime : Nat
  dropped : Nat
  gap : Bool
  replayed : Bool
  fwd : Bool := false
  snap : Bool := false
  deriving DecidableEq, Repr

/-- A capture stream (R394 to R409). -/
structure Stream where
  /-- payload staged so far, and, for raw codes, the nibbles not yet packed -/
  pay : List (BitVec 8) := []
  nibs : List Nat := []
  /-- raw group source: codes of the period being assembled, by modulator -/
  asm : List (Nat × Nat) := []
  /-- device time of the first staged item, and the instant it was staged -/
  first : Option Nat := none
  since : Nat := 0
  replayed : Bool := false
  /-- full blocks waiting to be issued, oldest first -/
  full : List CapBlock := []
  /-- items lost since the previous block (R397), and a loss before the next block -/
  dropped : Nat := 0
  gap : Bool := false
  /-- instant of the last issue (R397) -/
  lastIssue : Option Nat := none
  /-- replay: a request to end is pending; in a run of empty periods; parity of the substituted code (R409) -/
  offPend : Bool := false
  under : Bool := false
  sub : Nat := 0
  deriving DecidableEq, Repr

/-- A message that leaves the part. -/
inductive Out where
  /-- one MSI-X message of a function's vector (R423) -/
  | msix (fn vec : Nat)
  /-- a posted write to host memory (R400, R420) -/
  | hostWrite (addr : Nat) (bytes : List (BitVec 8))
  /-- a read request to host memory (R420, R421) -/
  | hostRead (addr len : Nat)
  /-- a capture block sent out of a Braid port (R404) -/
  | braidBlock (port : Nat) (b : CapBlock)
  /-- a ring sample or a global event sent out of a Braid port to a seat: channel, whether a ring sample, value, QUAL, SEQ, P, and the
  boundary or the device time of publication (R443, R445) -/
  | braidItem (port seat ec : Nat) (ring : Bool) (value qual seq per time : Nat)
  /-- a link-state message sent out of a Braid port: a ring link, or the host link of a seat, up or down (R238, R446) -/
  | braidLink (port : Nat) (host : Bool) (link : Nat) (up : Bool)
  /-- completion of an inbound or configuration request: data words, and 0 success, 1 retry, 2 unsupported (R414, R419) -/
  | completion (data : List (BitVec 32)) (status : Nat)
  /-- a Latency Tolerance Reporting message: of 1 µs, or of no requirement (R431) -/
  | ltr (busy : Bool)
  /-- a value returned by a bus or TAP read -/
  | readData (data : BitVec 32)
  /-- bits shifted out of the test access port (R507, R508) -/
  | tapData (data : Nat)
  deriving DecidableEq, Repr

/-- A PCIe function: configuration space and MSI-X (R415, R416, R423). -/
structure PcieFn where
  /-- configuration words that software has written, by offset -/
  cfg : List (Nat × Nat) := []
  /-- MSI-X table words written by software: 4 × vector + word; unlisted words read 0, the vector control word reads 1 -/
  tbl : List (Nat × Nat) := []
  /-- vectors whose pending bit is set -/
  pend : List Nat := []
  /-- software pulses not yet sent -/
  pulse : List Nat := []
  /-- intent doorbells accepted and not yet published: STEP, DTIME, and the instant from which one may be published (R214, R425, R426) -/
  intents : List (Nat × Nat × Nat) := []
  /-- bound set: eight handle slots (R366) -/
  bound : List (Nat × Nat) := []
  /-- a function-level reset is in progress until here -/
  flr : Option Nat := none
  /-- FAB cycle of the last doorbell published (R426) -/
  pub : Option Nat := none
  deriving DecidableEq, Repr

/-- The capture streamer beside its registers (R398 to R405). -/
structure CapHid where
  /-- blocks issued since the ring was enabled, and those tracked: index and whether acknowledged, oldest first -/
  next : Nat := 0
  tracked : List (Nat × Bool) := []
  /-- blocks still tracked from before the ring was last enabled -/
  old : Nat := 0
  /-- host address of the current page, read at its first block (R399) -/
  page : Option Nat := none
  /-- in a run of consecutive drops (R401) -/
  dropRun : Bool := false
  /-- forwarded blocks waiting for the host ring, arrival order (R405) -/
  fwd : List CapBlock := []
  /-- blocks sent out of port B0 and B1 and not yet acknowledged (R404, R441) -/
  sent0 : Nat := 0
  sent1 : Nat := 0
  /-- raised by the last write-back, a pulse on line 12 (R400) -/
  wrote : Nat := 0
  deriving DecidableEq, Repr

/-- A record of a section, as its bytes (R42). -/
abbrev Rec := List (BitVec 8)

/-- A parsed pricking image: the header fields of R38 and the records of each section, by type. -/
structure Image where
  kind : Nat := 0
  len : Nat := 0
  serial : Nat := 0
  base : Nat := 0
  svn : Nat := 0
  split : Nat := 0
  layout : Nat := 0
  apply : Nat := 0
  secs : List (Nat × List Rec) := []
  /-- image offset at which each section starts -/
  offs : List (Nat × Nat) := []
  deriving DecidableEq, Repr

/-- An engine image of section 0x08: identifier, vertical words, horizontal words, data initialiser (R42, R154). -/
structure EngImage where
  id : Nat
  vert : List Nat
  horiz : List Nat
  init : List (BitVec 8)
  deriving DecidableEq, Repr

/-- An entry of a result FIFO (R105). -/
structure McEntry where
  value : Int
  clamp : Bool
  nosync : Bool
  gap : Bool
  input : Nat
  time : Nat
  deriving DecidableEq, Repr

/-- What a converter converts (R98, R108, R111). -/
inductive McWork where
  /-- an enabled selector of the scan -/
  | scan (sel : Nat)
  /-- a cross-check of a modulator -/
  | cross (m : Nat)
  /-- a calibration point of a tile -/
  | cal (tile point : Nat)
  deriving DecidableEq, Repr

/-- A conversion in progress: what, when its integration begins and ends. -/
structure McConv where
  work : McWork
  start : Nat
  stop : Nat
  nosync : Bool
  deriving DecidableEq, Repr

/-- A result discarded from a full FIFO, which a read in its FAB cycle lets in (R107): the cycle, the entry, and what stood before in the GAP of
the next entry, OVR, the fault flag, and which events it put in flight. -/
structure McOver where
  cyc : Nat
  entry : McEntry
  gap : Bool
  ovr : Nat
  flags : Nat
  evs : List (Nat × Nat)
  deriving DecidableEq, Repr

/-- A metering converter (R98 to R113). -/
structure McUnit where
  fifo : List McEntry := []
  /-- a result was lost since the last one stored (R107) -/
  gap : Bool := false
  conv : Option McConv := none
  /-- results on their way to the FIFO: the entry and the instant of the write (R98) -/
  results : List (McEntry × Nat) := []
  /-- selectors left in the scan in progress; a single scan asked by ONE -/
  todo : List Nat := []
  single : Bool := false
  /-- the last conversion was a cross-check; place in the rotation (R111) -/
  lastX : Bool := false
  rot : Nat := 0
  /-- cross-check window: sum and number of samples, and whether one was not good (R111) -/
  xsum : Int := 0
  xn : Nat := 0
  xbad : Bool := false
  /-- device time of the last accepted zero crossing, and when 25 ms without one are over (R103, R104) -/
  cross : Option Nat := none
  lostDue : Option Nat := none
  /-- work that a calibration has abandoned, to be done again (R108) -/
  redo : Option McWork := none
  /-- a mains interval has been accepted since the commit or the last function reset (R104) -/
  synced : Bool := false
  /-- tiles waiting for a calibration, with the FAB cycle of the request, in the order of service (R109) -/
  cals : List (Nat × Nat) := []
  lastOvr : Option McOver := none
  deriving DecidableEq, Repr

/-- Leg states (R186, Table 7.4). -/
inductive LegSt where
  | safe | active | stopping | fallback
  deriving DecidableEq, Repr

/-- An on-time in progress: pulse 0 from E0, 1 from E2, 2 forced; its start, and MINON and MAXON as they stood then (R180). -/
structure OnTime where
  pulse : Nat
  start : Nat
  minon : Nat
  maxon : Nat
  deriving DecidableEq, Repr

/-- Off-time return on one output (R194, R197, R199, R200). -/
structure OtrOut where
  listenDue : Option Nat := none
  listening : Bool := false
  /-- start of the listening period, and LOWFILT as it took effect then (R199, R202) -/
  since : Nat := 0
  filt : Nat := 0
  blockAt : Nat := 0
  /-- the latest reading of the line that is known, with its FAB cycle: true for low -/
  low : Option (Nat × Bool) := none
  clamped : Bool := false
  /-- an OTR_FAULT episode is open -/
  episode : Bool := false
  /-- the output's Springbok source is asserted from this instant on (R199, R262) -/
  src : Option Nat := none
  deriving DecidableEq, Repr

/-- Where an edge of the plan lies: at an offset in the period, or where the slope form ends it, with its duty, slope and in-force instant (R176,
R183). -/
inductive EdgeAt where
  | tick (t : Nat)
  | slope (vd vsl : Int) (tf : Nat)
  deriving DecidableEq, Repr

/-- A leg beside its registers (R176 to R200, R267 to R276). Instants are edge ticks, which are the steps of time. -/
structure Leg where
  st : LegSt := .safe
  /-- rule of the stop in progress (R187) -/
  rule : Nat := 0
  /-- start and length of the present period -/
  pstart : Option Nat := none
  plen : Nat := 0
  /-- E0 to E3 as they stand for the present period (R182) -/
  eff : List EdgeAt := [.tick 0, .tick 0, .tick 0, .tick 0]
  /-- pulses of the present period that have started -/
  done : List Nat := []
  /-- no on-time of the plan starts before this instant: later values cannot start one late (R180, R182, R184) -/
  clk : Nat := 0
  /-- posts accepted within the last 2.5 ns: the instant and the edges before them (R182) -/
  recent : List (Nat × List EdgeAt) := []
  onH : Option OnTime := none
  onL : Option OnTime := none
  /-- the last turn-off of each output; none before the first -/
  hiOff : Option Nat := none
  loOff : Option Nat := none
  /-- turn-ons that wait for the dead time -/
  hiDue : Option Nat := none
  loDue : Option Nat := none
  /-- LSDEFER holds the low side off (R179) -/
  defer : Bool := false
  /-- in-force instant and duty of the slope form (R183) -/
  tf : Nat := 0
  vd : Int := 0
  /-- last stop request and last force-off, as FAB cycle and instant (R185, R188) -/
  stopAt : Option Nat := none
  offAt : Option Nat := none
  /-- the engine whose fallback holds the leg (R186) -/
  holder : Option Nat := none
  /-- Springbok latch, whether FAB has seen it, its source and instant (R267, R271) -/
  latch : Bool := false
  seen : Bool := false
  latchSrc : Nat := 0
  latchAt : Nat := 0
  /-- when FAB sees the latch, whether another source has asserted meanwhile, and the FAB cycle of the last release (R270, R271, R275) -/
  seenAt : Nat := 0
  more : Bool := false
  relAt : Option Nat := none
  /-- outputs in high impedance after a thermal cut-off (R193) -/
  hiz : Bool := false
  /-- transitions whose readback has not been judged, oldest first: output, rising, instant (R191) -/
  trans : List (Nat × Bool × Nat) := []
  otrH : OtrOut := {}
  otrL : OtrOut := {}
  deriving DecidableEq, Repr

/-- An edge post in the edge-post network (R129, R163, R172, R183). -/
structure Post where
  engine : Nat
  leg : Nat
  slope : Bool
  /-- PERIOD, E0 to E3: the posted values; for a slope post duty and slope -/
  vals : List (Option Int)
  fallback : Bool
  /-- end of the acceptance cycle -/
  due : Nat
  /-- the first post of its run: slot, CP, and f + p of R127 -/
  cp : Option (Nat × Nat × Nat) := none
  /-- it has waited for the exit of the leg's tile (R206, R465) -/
  held : Bool := false
  deriving DecidableEq, Repr

/-- A raw-lane request on its way to a leg (R134): the leg, the action of Table 5.3, the engine and lane it comes from, and the end of the cycle in
which the leg accepts it. -/
structure LaneReq where
  leg : Nat
  action : Nat
  engine : Nat
  lane : Nat
  due : Nat
  deriving DecidableEq, Repr

/-- Bytes of a memory at ascending addresses; an unlisted byte reads 0. -/
abbrev Mem := List Host.Cell

/-- A FETCH whose result has not arrived: its register, cycle of arrival and the sample (R162). -/
structure Fetch where
  d : Nat
  due : Nat
  value : Int
  qual : Nat
  seq : Nat
  deriving DecidableEq, Repr

/-- A run of a job and what microcode sees of it (R152, R157, R158). Cycles count from the dispatch cycle. -/
structure ERun where
  slot : Nat
  /-- start of the dispatch cycle -/
  t0 : Nat
  pc : Nat
  /-- the microword in execution (R139) -/
  at_ : Nat
  /-- microsteps counted (R125) -/
  steps : Nat := 0
  /-- v0 to v15, A0 and A1, a0 to a3 -/
  v : List (Nat × Int) := []
  acc : List (Nat × Int) := []
  a : List (Nat × Nat) := []
  z : Bool := false
  n : Bool := false
  sat : Bool := false
  q : Bool := false
  stack : List Nat := []
  qual : Nat := 3
  seq : Nat := 0
  /-- the cycle in which a register or flag is ready -/
  ready : List (Nat × Nat) := []
  fetches : List Fetch := []
  /-- an edge post of this run was delivered -/
  posted : Bool := false
  deriving DecidableEq, Repr

/-- The horizontal program of an engine (R172, R173): word address, H0 to H3, CNT, first and next issue. -/
structure FbRun where
  pc : Nat := 0
  h : List (Nat × Nat) := []
  cnt : Nat := 0
  start : Nat
  next : Nat
  deriving DecidableEq, Repr

/-- A mailbox entry (R136, R137): its fields, the initiator and instant with which it enters the FIFO, and the instant at which it becomes visible while
it crosses. -/
structure MbEntry where
  slot : Nat
  index : Nat
  hold : Bool
  value : Nat
  due : Option Nat
  ini : Nat := 0
  enter : Nat := 0
  deriving DecidableEq, Repr

/-- What an engine does beside running a job (R140 to R143). -/
inductive EngMode where
  | normal | fallback | faulted | disabled
  deriving DecidableEq, Repr

/-- What RAWTH or RAWCFG does to a raw lane once it takes effect (R135, R164). -/
inductive LaneWrite where
  /-- RAWTH: thresholds -/
  | th (lane hi lo : Nat)
  /-- RAWCFG: the running slot and the descriptor -/
  | cfg (slot lane d0 d1 : Nat)
  deriving DecidableEq, Repr

/-- The arming of a raw lane's actions, and the cycle of the last request while its blanking lasts (R133). -/
structure Lane where
  hi : Bool := false
  lo : Bool := false
  blank : Option Nat := none
  deriving DecidableEq, Repr

/-- An engine: 0 to 47 the roles, 48 + t the unit of tile t that carries no role (R118 to R150, R516). -/
structure Engine where
  mode : EngMode := .normal
  /-- control stores; unlisted words are END (R154), and data memory -/
  vs : List (Nat × Nat) := []
  hs : List (Nat × Nat) := []
  dm : Mem := []
  run : Option ERun := none
  /-- no run before this instant -/
  freeAt : Nat := 0
  /-- by slot: start of the last dispatch cycle, arrival of the pending trigger, PLEN, and f + p of the job -/
  disp : List (Nat × Option Nat) := []
  pend : List (Nat × Nat) := []
  plen : List (Nat × Nat) := []
  fp : List (Nat × Nat) := []
  /-- slots of class U, and their held triggers: slot and instant of presentation (R223) -/
  classU : List Nat := []
  held : List (Nat × Nat) := []
  /-- interval and offset in ticks of the class T job's trigger instants, and h (R223); interval 0: no class T job -/
  holdP : Nat := 0
  holdOff : Nat := 0
  holdH : Nat := 0
  mbox : List MbEntry := []
  /-- pushes from outside CORE that have not yet entered the FIFO (R136) -/
  pushes : List MbEntry := []
  lanes : List (Nat × Lane) := []
  /-- RAWTH and RAWCFG operations issued, with the instants at which they take effect (R135, R164) -/
  laneWr : List (LaneWrite × Nat) := []
  fb : Option FbRun := none
  /-- a disable waits for the running job (R143) -/
  disReq : Bool := false
  /-- a function reset is to reload the engine after fallback, and when the reload is over (R142) -/
  rst : Bool := false
  reload : Option Nat := none
  /-- a hitless patch has staged parameters or jobs for the engine (R58, R138) -/
  staged : Bool := false
  /-- a detached engine: last post as leg, mask and values (R516) -/
  post : Option (Nat × Nat × List Int) := none
  deriving DecidableEq, Repr

/-- An engine swap request: kind 0 SWAP, 1 REPLACE, 2 DETACH (R145, R515). -/
structure LeReq where
  role : Nat
  kind : Nat
  deriving DecidableEq, Repr

/-- An engine swap in progress: phase 2 copy and switch, 3 test, 4 return, 5 detached; end of the copy or test (R147, R515). reload: the unit is loaded
from the committed pricking instead of a copy (R146). own: bytes written through the LES window after the copy had passed them. -/
structure LeSwap where
  req : LeReq
  phase : Nat
  due : Nat
  reload : Bool := false
  own : List Nat := []
  deriving DecidableEq, Repr

/-- The engine swap state of a tile (R145 to R150). -/
structure LeTile where
  queue : List LeReq := []
  cur : Option LeSwap := none
  /-- roles that another unit than their own carries, with the unit, 48 + t the former spare; the unit without a role, the spare if none is named
  (R28) -/
  units : List (Nat × Nat) := []
  free : Option Nat := none
  /-- the unit without a role is out of service -/
  failed : Bool := false
  deriving DecidableEq, Repr

/-- A change that waits for a source edge of a timer: ARM, a committed CMP or END (R282, R285), a reset or clock event of its
master (R291). -/
inductive GtChange where
  | arm
  | cmp (v : Nat)
  | fin (v : Nat)
  | zero
  | clock
  deriving DecidableEq, Repr

/-- A general timer beside its registers (R278 to R292). -/
structure Timer where
  /-- COUNT and the prescaler accumulator as they stood after the source edge number base -/
  count : Nat := 0
  acc : Nat := 0
  base : Nat := 0
  /-- settings it was armed with: SRC, N, F, TPIN, SLAVE, MEV, MASTER (R283) -/
  cfg : List Nat := [0, 1, 0, 0, 0, 0, 0]
  /-- changes and the instants of their source edges; changes that wait for the next edge of a pin source -/
  chg : List (Nat × GtChange) := []
  onPin : List GtChange := []
  /-- the armed compare will fire late (R286) -/
  late : Bool := false
  /-- low halves of CMP and END held for the writing initiators (R285) -/
  cmpLo : List (Nat × Option Nat) := []
  endLo : List (Nat × Option Nat) := []
  /-- capture events on their way: instants (R289); the FAB cycle of the last capture, and CAP before it (R290) -/
  caps : List Nat := []
  capWas : Option (Nat × Nat) := none
  deriving DecidableEq, Repr

/-- An entry of the warrant table (R349); its generation is counted from the table's base generation. -/
structure WEntry where
  alloc : Bool := false
  gen : Nat := 0
  kind : Nat := 0
  rights : Nat := 0
  base : Nat := 0
  limit : Nat := 0
  parent : Nat := 0
  root : Bool := false
  /-- it is the entry warrant of a core (R357) -/
  entryw : Bool := false
  deriving DecidableEq, Repr

/-- A warrant register: the handle, 0 for null, with its copy of the entry and the stale mark (R351). -/
structure WReg where
  handle : Nat := 0
  kind : Nat := 0
  rights : Nat := 0
  base : Nat := 0
  limit : Nat := 0
  parent : Nat := 0
  stale : Bool := false
  deriving DecidableEq, Repr

/-- A load whose value has not been written: destination, value, and the destination's value before it (R306, R343). -/
structure PLoad where
  d : Nat
  val : Nat
  old : Nat
  deriving DecidableEq, Repr

/-- An exception frame (Table 14.3). -/
structure Frame where
  pc : Nat
  status : Nat
  ecause : Nat
  einfo : Nat
  lstart : Nat
  lend : Nat
  lcount : Nat
  pend : Option PLoad
  wr : List (Nat × WReg)
  deriving DecidableEq, Repr

/-- What a checkpoint records of a core (R375): registers, status bits PF, IJBAR, DETF, INH, DET, the frames, the HOLD window and
the pc. -/
structure CArch where
  gr : List (Nat × Nat) := []
  pc : Nat := 0
  wr : List (Nat × WReg) := []
  frames : List Frame := []
  pf : Bool := false
  ijbar : Bool := false
  detf : Bool := false
  inh : Bool := false
  det : Bool := false
  lstart : Nat := 0
  lend : Nat := 0
  lcount : Nat := 0
  fcsr : Nat := 0
  wstale : Nat := 0
  /-- CORE cycles left in the open HOLD window (R340); they run from the issue of an instruction that has not issued yet -/
  hold : Nat := 0
  holdNew : Bool := false
  deriving DecidableEq, Repr

/-- A host-window load that waits for its completion (R421): opcode, destination, address, probe, the selected warrant register, and the
length and issue cycle of the instruction. -/
structure HostLoad where
  op : Nat
  d : Nat
  addr : Nat
  probe : Bool
  wr : Nat
  len : Nat
  n : Nat
  deriving DecidableEq, Repr

/-- What a core waits for (R313, R314, R421). -/
inductive CWait where
  | none
  | wfe (mask rd len n : Nat)
  | waitt (deadline len n : Nat)
  | host (l : HostLoad)
  deriving DecidableEq, Repr

/-- An undo-journal entry: shared SRAM or own TCM, address, and the bytes overwritten (R376). -/
structure JEntry where
  sram : Bool
  addr : Nat
  old : List (BitVec 8)
  deriving DecidableEq, Repr

/-- A core, or in lockstep the lead of its pair (R300 to R347, R369 to R382). Cycles are CORE cycles since reset. -/
structure Core where
  /-- CPp_STAT.STATE: 0 in reset, 1 running, 2 recovering, 3 stopped, 4 halted -/
  st : Nat := 0
  arch : CArch := {}
  /-- a load whose slot instruction comes next -/
  pload : Option PLoad := none
  /-- ECAUSE, EINFO, EPC, ESTATUS as the last entry or RFE left them -/
  ecause : Nat := 0
  einfo : Nat := 0
  epc : Nat := 0
  estatus : Nat := 0
  wait : CWait := .none
  /-- first cycle in which the next instruction can issue; ready cycles by register, 32 FCSR, 33 divider, 34 FP divide -/
  free : Nat := 0
  ready : List (Nat × Nat) := []
  /-- cycle of the last reset plus halted cycles, instructions completed, and shadows of CYCLE, INSTRET and DTIME (R319) -/
  cyc0 : Nat := 0
  instret : Nat := 0
  shad : List (Nat × Option Nat) := []
  /-- the loop buffer (R325): 0 empty, 1 recording the first iteration, 2 captured; the addresses and bytes of its instructions -/
  lphase : Nat := 0
  lbuf : List (Nat × List (BitVec 8)) := []
  /-- the length of the instruction in issue, and bytes of the fetch buffer whose TCM locations have been written since (R326) -/
  ilen : Nat := 0
  stale : List (Nat × BitVec 8) := []
  /-- the boundary ends an entry or RFE, so no interrupt is taken there (R335) -/
  fresh : Bool := false
  /-- indirect-target table by index, and the last four targets, newest first (R328) -/
  itt : List (Nat × Option (Nat × Nat)) := []
  hist : List Nat := [0, 0, 0, 0]
  /-- event inputs: pending counts (R255) and arrivals on their way (R246) -/
  ev : List (Nat × Nat) := []
  evIn : List (Nat × Nat) := []
  /-- checkpoint, journal newest first, side-effect log as KIND, DETAIL, ADDR, DATA (R375 to R377) -/
  ckpt : Option CArch := none
  /-- the CORE cycle up to which the pair recovers from a mismatch (R378) -/
  recov : Nat := 0
  jrnl : List JEntry := []
  slog : List (List Nat) := []
  /-- debugger: a halt asked for, the CORE cycle in which the request has crossed, the cycle in which it halted, the breakpoint at this pc not matched again, a step in progress
  (R510 to R512) -/
  haltReq : Bool := false
  haltFrom : Nat := 0
  haltAt : Nat := 0
  skipBp : Bool := false
  stepping : Bool := false
  /-- low half of a warrant register written through DBG_Cc_RDATA (R513) -/
  wlo : Nat := 0
  /-- stopped with CORE_FRAMEFULL or an error in its frames (R338, Table 22.2) -/
  full : Bool := false
  /-- registers the roots of section 0x0B name, and the entry warrant (R357, R358, R365) -/
  roots : List (Nat × Nat) := []
  entryw : Nat := 0
  /-- the core's section 0x11 record: entry PC, HOLDCAP, OFFSET, LENGTH; none without one (R373) -/
  task : Option (Nat × Nat × Nat × Nat) := none
  /-- core reset release time of a comparator test in progress (R372) -/
  cmpDue : Option Nat := none
  deriving DecidableEq, Repr

/-- What the NVM keeps beside its readable array (R44, R46, R66, R492, R496): the content state of each slot (0 erased, 1 written, 2
verified full, 3 verified patch) and the serial of a verified image, the slot table, the write-once area, the settings
generations and the journal entries in use. -/
structure Nv where
  content : List (Nat × Nat) := []
  serial : List (Nat × Nat) := []
  active : Option Nat := none
  fallback : Option Nat := none
  tableGen : Nat := 0
  svnmin : Nat := 0
  /-- SHA-384 digests of the programmed key slots, and the revoked ones -/
  keys : List (Nat × Nat) := []
  revoked : List Nat := []
  splitopt : Nat := 0
  straplock : Bool := false
  setGen : Nat := 0
  imgA : Nat := 0
  imgB : Nat := 0
  jused : Nat := 0
  deriving DecidableEq, Repr

/-- The NVM operation in progress (R487): OP of NVM_CMD, initiator, NVM_ARG, lines, and the staging buffer as it was taken. -/
structure NvOp where
  /-- the compaction that comes before a STORE ends here (R495) -/
  comp : Nat := 0
  op : Nat
  ini : Nat
  arg : Nat
  count : Nat
  buf : List (BitVec 8)
  due : Nat := 0
  deriving DecidableEq, Repr

/-- A pricking command in progress: 0 VERIFY, 1 COMMIT, 2 PATCH, 3 ACTIVATE, 4 ERASE, 5 SVNUP; its slot and, from the end of step 10
on, its image. -/
structure PrkOp where
  cmd : Nat
  slot : Nat
  image : Option Image := none
  /-- the end of the step in progress -/
  due : Nat := 0
  deriving DecidableEq, Repr

/-- A write of a register with WL fields in the present FAB cycle, before the lock (R55): initiator, address, and for each WL field its
instance, the value before and the value carried. -/
structure WlWrite where
  ini : Nat
  addr : Nat
  fields : List (Field × Nat × Nat × Nat)
  deriving DecidableEq, Repr

/-- A placed job (R219, R232): job, record index, class (1 T, 2 S, 3 U), engine, slot, f, p, X, bound and target in ps, PIN. -/
structure PJob where
  job : Nat
  ri : Nat
  cls : Nat
  engine : Nat
  slot : Nat
  f : Nat
  p : Nat
  x : Nat
  bound : Nat
  target : Nat
  pinned : Bool
  deriving DecidableEq, Repr

/-- A rejection of step 11 (R233): code, reason, job, record index and section, bound, target. -/
structure PRej where
  code : Nat
  reason : Nat
  job : Nat
  ri : Nat
  sect : Nat := 9
  bound : Nat := 0
  target : Nat := 0
  deriving DecidableEq, Repr

/-- The path of a ring sample (R234): index, channel, source seat, arrival port (1 B0, 2 B1), hops, no intact path, interval P; and, for boundaries
up to the end of the re-placement that gave it, the port and hops of the path before (R446). -/
structure RPath where
  idx : Nat
  ec : Nat
  seat : Nat
  port : Nat
  x : Nat
  nopath : Bool
  per : Nat
  past : Option (Nat × Nat × Nat) := none
  deriving DecidableEq, Repr

/-- A placement (R219): jobs, bases of shared tables by ID, routes and rates of streams by record, ring paths, the ring links
it found up, or its rejection. -/
structure Placement where
  jobs : List PJob := []
  tables : List (Nat × Nat) := []
  routes : List (Nat × Nat × Nat) := []
  paths : List RPath := []
  links : List Nat := []
  rej : Option PRej := none
  deriving DecidableEq, Repr

/-- A Pillow run in progress: its occasion as PLW_STAT.LAST, whether it recomputes paths and routes, its start, and what it will find (R217, R218). -/
structure PlwRun where
  occ : Nat
  redo : Bool := true
  start : Nat
  due : Nat
  found : Placement
  deriving DecidableEq, Repr

/-- What a write of PRK_CMD in this FAB cycle found, so that one by a lower initiator can take its place (R62): the cycle, its initiator, the
command in progress with OP, Pillow's run, and a patch being staged. -/
structure PrkCyc where
  cyc : Nat
  ini : Nat
  op : Option PrkOp
  opr : Nat
  run : Option PlwRun
  patch : Option Image
  left : List Nat
  place : Placement
  deriving DecidableEq, Repr

/-- A DMA channel beside its registers (R389 to R393, R411): failed attempts of the unit in progress, when it is retried, the FAB cycle of
its last start, a STOP that waits for the burst in progress, and low halves of WSRC and WDST held for the writing initiators. -/
structure DmaCh where
  tries : Nat := 0
  retryAt : Option Nat := none
  startAt : Option Nat := none
  stop : Bool := false
  srcLo : List (Nat × Option Nat) := []
  dstLo : List (Nat × Option Nat) := []
  deriving DecidableEq, Repr

/-- A ring-sample item that has arrived and not been released (R444): channel, boundary, value, QUAL, SEQ, the source's P. -/
structure RingItem where
  ec : Nat
  b : Nat
  value : Nat
  qual : Nat
  seq : Nat
  per : Nat
  deriving DecidableEq, Repr

/-- A Braid port beside its registers: end of the 10 ms of R474, and whether the neighbour's reference port is the other end of the
link (R439). -/
structure BPort where
  notrain : Option Nat := none
  nref : Bool := false
  deriving DecidableEq, Repr

/-- A unit that sleeps: 0 to 7 the tiles, 8 the core cluster, 9 the device in Yard (R460 to R470): the FAB cycle in which it decided to enter, the
end of the entry in progress, the device time at which its scheduled exit starts, an exit held behind the entry, and the end of the exit in
progress. -/
structure PUnit where
  dec : Nat := 0
  entry : Option Nat := none
  exitAt : Option Nat := none
  wake : Bool := false
  exit : Option Nat := none
  deriving DecidableEq, Repr

/-- A host access that waits until the core cluster or the device is in Run (R465, R470). -/
inductive HostAcc where
  | read (f bar off n : Nat) (all : Bool) (ecc : Ecc)
  | write (f bar off : Nat) (data : List (Option (BitVec 8))) (poison : Bool)
  deriving DecidableEq, Repr

/-- The power-and-analogue die beside its registers (R449 to R459). -/
structure Supply where
  /-- the device is powered: VHOLD has reached the start threshold and power-on reset has been released -/
  up : Bool := true
  /-- the input FET has opened on an overvoltage -/
  fetOpen : Bool := false
  /-- the stop sequence has reached its second step at this instant, and its CAUSE (R451, R456) -/
  stopAt : Option Nat := none
  stopCause : Nat := 2
  /-- when a PWR_RAIL restart is due; a PWR_TSD restart waits for cooling; PWR_RAIL instants of the last second; staying off -/
  railDue : Option Nat := none
  tsd : Bool := false
  rails : List Nat := []
  stayOff : Bool := false
  /-- an auxiliary output is switched off by its limit until here; end of its episode; 12 V first -/
  retry12 : Option Nat := none
  retry5 : Option Nat := none
  ep12 : Option Nat := none
  ep5 : Option Nat := none
  /-- sum of the input power samples of the present 1,024 in nW, and their number; energy in pJ not yet a microjoule -/
  psum : Nat := 0
  pn : Nat := 0
  efrac : Nat := 0
  /-- the low-supply warning stands -/
  uv : Bool := false
  deriving DecidableEq, Repr

/-- A function reset in progress or held (R479 to R483): phase 1 drain, 2 reset, 3 held; it stays held at its end; the end of the reset
phase. -/
structure FnRst where
  phase : Nat := 0
  keep : Bool := false
  due : Option Nat := none
  deriving DecidableEq, Repr

/-- The instruction trace beside its registers (R518, R519): by core, the records since the last sync record; for the capture ring, the
payload staged, the device time of its first record and the instant it was staged, blocks formed, and blocks waiting. -/
structure Tracer where
  since : List (Nat × Nat) := []
  pay : List (BitVec 8) := []
  first : Option Nat := none
  at_ : Nat := 0
  seq : Nat := 0
  full : List CapBlock := []
  /-- the records in the 32-record buffer of a core, by the instants at which they leave it, and the records dropped while it was full (R518) -/
  bufs : List (Nat × List Nat) := []
  over_ : List (Nat × Nat) := []
  /-- records lost since the last block formed (R519) -/
  lost : Nat := 0
  deriving DecidableEq, Repr

/-- The test access port (R507, R508): the instruction in force, the boundary-scan register, the result and data of the last DAPACC
access, and an access that waits for a Yard exit: OP, address, data (R524). -/
structure Tap where
  ir : Nat := 2
  scan : Nat := 0
  res : Nat := 0
  data : Nat := 0
  wait : Option (Nat × Nat × Nat) := none
  deriving DecidableEq, Repr


/-- What one FAB cycle added to an error record with a count (R30, R31, R34): the cycle, whether the record standing was made in it, and
its errors in order, each an initiator and the values of the record's fields. -/
structure LogCyc where
  cyc : Nat := 0
  made : Bool := false
  errs : List (Nat × List Nat) := []
  deriving DecidableEq, Repr

/-- The reasons a step can fault. No meaning of this block raises one: every command has an effect in every state. -/
inductive Fault where
  /-- raised by no meaning (safe) -/
  | none
  deriving DecidableEq, Repr

/-- The reasons a step can refuse. -/
inductive Refusal where
  /-- raised only by an arm of Machine/Dispatch.lean whose command has no meaning yet (safe) -/
  | notModelled (mnemonic : String)
  deriving DecidableEq, Repr

/-- The state of the block. -/
structure State where
  /-- commands waiting, first in, first out (the model's queue) -/
  pending : List Instr := []
  /-- time since reset in steps of 19.53125 ps (R175): ENG 32, FAB 64, MOD 128, NVM 256, AON 2048 steps -/
  et : Nat := 0
  /-- device time in ticks is et / 64 + dt0 while the control PLL is locked (R8, R26, R293) -/
  dt0 : Int := 0
  /-- while device time advances by the AON oscillator (R293, R294, R475): the number of the AON edge at which this began, and device time then -/
  pace : Option (Nat × Nat) := none
  /-- fresh values drawn so far (the model's own field, log entry 3) -/
  fv : Nat := 0
  /-- documented registers that differ from their reset value: 1024 * instance + field number, value -/
  regs : List (Nat × Nat) := []
  /-- the last FAB cycle in which the device set a W1C flag, and the flags it set in it, keyed as regs (R12) -/
  raised : Nat × List (Nat × Nat) := (0, [])
  /-- what the present FAB cycle added to SYS_ADDRERR, 0, PRK_LOCKERR, 1, WRT_REFUSE, 2, NVM_ECCLOG, 3 -/
  logs : List (Nat × LogCyc) := []
  /-- the writes of WL fields in one FAB cycle before the lock, newest first (R55), and the write of PRK_CMD of one FAB cycle (R62) -/
  wlNow : Nat × List WlWrite := (0, [])
  prkCyc : Option PrkCyc := none
  /-- messages sent by the part, newest first (the model's own record of its outputs) -/
  out : List Out := []
  munits : List (Nat × ModUnit) := []
  mroles : List (Nat × ModRole) := []
  minputs : List (Nat × ModInput) := []
  mtiles : List (Nat × ModTile) := []
  mcs : List (Nat × McUnit) := []
  /-- consecutive failed cross-checks of a modulator, and the instant its 100 ms without a check are over (R112, R113) -/
  xcFails : List (Nat × Nat) := []
  xcLate : List (Nat × Nat) := []
  streams : List (Nat × Stream) := []
  /-- streams that exist, in record order (R394) -/
  capUsed : List Nat := []
  cap : CapHid := {}
  /-- the committed structure, patches included (R52, R59) -/
  committed : Option Image := none
  fns : List (Nat × PcieFn) := []
  /-- channels with a record in section 0x06 (R243) -/
  ecUsed : List Nat := []
  /-- trip sources whose present assertion has reached the legs mapped to them (R267, R271) -/
  srcSeen : List Nat := []
  /-- events in flight on Ground: channel and device time of the delivery edge (R246) -/
  flight : List (Nat × Nat) := []
  /-- slots that hold a job, as 8 * engine + slot (R52) -/
  slotsUsed : List Nat := []
  /-- bound raw lanes, as 4 * engine + lane, and codes that have reached a lane and wait for its compare stage (R131, R132) -/
  lanesOn : List Nat := []
  laneIn : List (Nat × List Nat) := []
  legs : List (Nat × Leg) := []
  /-- edge posts and raw-lane requests in the network, oldest first -/
  posts : List Post := []
  laneReqs : List LaneReq := []
  /-- a COMMIT is between the start of its step 12 and its end (R51, R189) -/
  step12 : Bool := false
  /-- job triggers on their way to engine slots: engine, slot, instant (R120) -/
  trigs : List (Nat × Nat × Nat) := []
  engs : List (Nat × Engine) := []
  ltiles : List (Nat × LeTile) := []
  /-- crossbar slots from 64 on: value, quality, sequence number (R128, R162) -/
  xslots : List (Nat × Int × Nat × Nat) := []
  /-- Pillow runs asked for and not begun, by occasion as PLW_STAT.LAST (R217, R218) -/
  plwAsked : List Nat := []
  /-- codewords that hold an uncorrectable error: class, instance, codeword number (R500) -/
  badCw : List (Nat × Nat × Nat) := []
  timers : List (Nat × Timer) := []
  /-- counted edges of the timer pins (R279) -/
  pinEdges : List (Nat × Nat) := []
  /-- read shadows by initiator number: register, upper half, and the instant of release (R292) -/
  shadows : List (Nat × Option (Nat × Nat × Nat)) := []
  /-- the last synchronised copy of device time that the CORE domain, 0, and the HOST domain, 1, read (R26) -/
  dtSeen : List (Nat × Nat) := []
  cores : List (Nat × Core) := []
  tcm : List (Nat × Mem) := []
  sram : Mem := []
  /-- the index of the draw that gave the hash key of the banks; the FAB cycle from which each bank is free, and that up to which cycles with a
  waiting access have been counted (R239 to R241) -/
  bankKey : Nat := 0
  bankFree : List (Nat × Nat) := []
  bankWait : Nat := 0
  /-- the warrant table, the base of its generations, and the index of the draw that gave the check key (R348, R349) -/
  wtab : List (Nat × WEntry) := []
  wgen : Nat := 0
  wkey : Nat := 0
  /-- the CORE cycle in which the warrant table is free of the last WDER or WREV (R361) -/
  wrtFree : Nat := 0
  /-- low halves held for writers of WRT_BIND_LO, by initiator (R366) -/
  bindLo : List (Nat × Option Nat) := []
  /-- the NVM array by byte offset of Table 22.1 -/
  nvm : Mem := []
  /-- the gating of R475, R476 and R478 holds every leg's outputs at their safe values -/
  gated : Bool := false
  nv : Nv := {}
  nvOp : Option NvOp := none
  prkOp : Option PrkOp := none
  plwRun : Option PlwRun := none
  /-- the placement in force -/
  place : Placement := {}
  /-- a patch between the start of its staging and its last apply point, and the engines that have not switched (R58, R60) -/
  patch : Option Image := none
  patchLeft : List Nat := []
  /-- the boot commit has ended, successfully or without a structure (R47, R414) -/
  bootEnded : Bool := false
  /-- picots of the loop that the last LOOP rejection names, in order (R251) -/
  loop : List Nat := []
  /-- Braid links of the ring that are up, by the seat whose B1 they join, and seats with a host link up (R219, R446) -/
  linksUp : List Nat := []
  hostSeats : List Nat := []
  dmas : List (Nat × DmaCh) := []
  /-- mutes, true, and unmutes on their way: channel and the device time from which they act (R253) -/
  mutes : List (Nat × Bool × Nat) := []
  /-- by channel, the storm window last counted in and its count (R252) -/
  ecWin : List (Nat × Nat × Nat) := []
  /-- picots whose filter counts: the cycle, by its device time, at whose end QF changes (R250) -/
  pfilt : List (Nat × Nat) := []
  /-- the Braid plan the ports train with: SEAT, RING, FOLLOWER, PORTS, GFIRST, GCOUNT; empty without one (R433, R437) -/
  bplan : List Nat := []
  bports : List (Nat × BPort) := []
  /-- the first alignment of device time is done (R440) -/
  aligned : Bool := false
  /-- ring samples: items waiting, and the last boundary released by index; global events waiting: channel and due device time -/
  ringItems : List RingItem := []
  ringLast : List (Nat × Nat) := []
  gItems : List (Nat × Nat) := []
  /-- queued posted writes to host memory, oldest first: the instant at which each leaves, its address and bytes (R323, R428) -/
  outq : List (Nat × Nat × List (BitVec 8)) := []
  /-- the last Latency Tolerance Reporting message, if one has been sent since the mechanism was enabled (R431) -/
  ltr : Option Bool := none
  /-- PERST_N is asserted; the limits of the training in progress or last done: speed code and width (R413, R414) -/
  perst : Bool := false
  linkMax : Nat × Nat := (5, 16)
  /-- the core PLL has lost lock and the cores stand still (R476) -/
  kpllOut : Bool := false
  punits : List (Nat × PUnit) := []
  /-- in Yard: the device time of entry (R468, R294) -/
  yard : Option Nat := none
  /-- low halves of PWR_QUIET held for the writing initiators (R470) -/
  quietLo : List (Nat × Option Nat) := []
  /-- leg commands that wait for a tile's exit: leg and action bits of Ln_CMD (R465) -/
  heldLeg : List (Nat × Nat) := []
  /-- host accesses that wait for an exit (R465, R470), oldest first -/
  heldAcc : List HostAcc := []
  supply : Supply := {}
  /-- function resets by function number, and the FAB cycle of the last command taken (R479, R482) -/
  frst : List (Nat × FnRst) := []
  frstAt : Option Nat := none
  /-- a PLL that relocks: the bound of its lock, with CREF then for the control PLL and whether the core PLL runs from AON then; the core
  PLL runs from AON; a CLKRET is being carried out (R475 to R477) -/
  cpll : Option (Nat × Nat) := none
  kpll : Option (Nat × Bool) := none
  kpllAon : Bool := false
  clkret : Bool := false
  tracer : Tracer := {}
  /-- general pins whose output or driver has changed, and the instant by which each has its new level as a reader sees it (R526) -/
  pinCh : Nat := 0
  pinAt : Nat := 0
  /-- STRAPLOCK of the option row as the last reset took it (R492, R507) -/
  strapLock : Bool := false
  tap : Tap := {}
  /-- the last run of the detached engine, for DBG_LRDATA (R516) -/
  dbgRun : Option ERun := none
  deriving DecidableEq, Repr

/-- The machine right after power-on reset (R14): every register at its reset value, every queue empty. -/
def State.reset : State := {}

end Sys2Proof.Machine
end

