-- ==== Sys2Proof/Machine/Fields.lean ====
section
/-!
DEFINITION. Every field of every documented register (the register tables of the chapters of spec/, under R12 to R15), one
named constant each: its number in the register store, its width and its reset value; then the register map, block by block
(R29 and the owning chapters): offset, repetition, and for each field its lowest bit and its access type (R12).
A field of a register with instances is read at an instance number; a register repeated inside a block has the instance
number (instance of the block) * (repetitions) + (index).
-/
namespace Sys2Proof.Machine
namespace F

/-- R34: SYS_ID PART, [31:16], RO, reset 0x9664. -/
def SYS_ID_PART : Field := ⟨0, 16, 38500⟩
/-- R34: SYS_ID STEP, [15:8], RO, reset 0xA1. -/
def SYS_ID_STEP : Field := ⟨1, 8, 161⟩
/-- R34: SYS_ID PFMT, [7:0], RO, reset 0x10. -/
def SYS_ID_PFMT : Field := ⟨2, 8, 16⟩
/-- R34: SYS_CFG SEAT, [11:9], RO, reset P (0 before the first commit). -/
def SYS_CFG_SEAT : Field := ⟨3, 3, 0⟩
/-- R34: SYS_CFG FOLLOWER, [8:8], RO, reset P (0 before the first commit). -/
def SYS_CFG_FOLLOWER : Field := ⟨4, 1, 0⟩
/-- R34: SYS_CFG SPLIT, [7:0], RO, reset 0. -/
def SYS_CFG_SPLIT : Field := ⟨5, 8, 0⟩
/-- R34: SYS_CLKSTAT KPLL_UNLOCK, [10:10], W1C, reset 0. -/
def SYS_CLKSTAT_KPLL_UNLOCK : Field := ⟨6, 1, 0⟩
/-- R34: SYS_CLKSTAT CPLL_UNLOCK, [9:9], W1C, reset 0. -/
def SYS_CLKSTAT_CPLL_UNLOCK : Field := ⟨7, 1, 0⟩
/-- R34: SYS_CLKSTAT XTAL_LOST, [8:8], W1C, reset 0. -/
def SYS_CLKSTAT_XTAL_LOST : Field := ⟨8, 1, 0⟩
/-- R34: SYS_CLKSTAT AON_LOCKED, [5:5], RO, reset 0. -/
def SYS_CLKSTAT_AON_LOCKED : Field := ⟨9, 1, 0⟩
/-- R34: SYS_CLKSTAT SSC, [4:4], RO, reset P (0 before the first commit). -/
def SYS_CLKSTAT_SSC : Field := ⟨10, 1, 0⟩
/-- R34: SYS_CLKSTAT CREF, [3:2], RO, reset 0b00. -/
def SYS_CLKSTAT_CREF : Field := ⟨11, 2, 0⟩
/-- R34: SYS_CLKSTAT KPLL_LOCK, [1:1], RO, reset 0. -/
def SYS_CLKSTAT_KPLL_LOCK : Field := ⟨12, 1, 0⟩
/-- R34: SYS_CLKSTAT CPLL_LOCK, [0:0], RO, reset 0. -/
def SYS_CLKSTAT_CPLL_LOCK : Field := ⟨13, 1, 0⟩
/-- R34: SYS_ADDRERR_ADDR ADDR, [31:0], RO, reset 0. -/
def SYS_ADDRERR_ADDR_ADDR : Field := ⟨14, 32, 0⟩
/-- R34: SYS_ADDRERR_INFO COUNT, [23:16], RO, reset 0. -/
def SYS_ADDRERR_INFO_COUNT : Field := ⟨15, 8, 0⟩
/-- R34: SYS_ADDRERR_INFO VALID, [15:15], W1C, reset 0. -/
def SYS_ADDRERR_INFO_VALID : Field := ⟨16, 1, 0⟩
/-- R34: SYS_ADDRERR_INFO KIND, [11:8], RO, reset 0. -/
def SYS_ADDRERR_INFO_KIND : Field := ⟨17, 4, 0⟩
/-- R34: SYS_ADDRERR_INFO INIT, [7:0], RO, reset 0. -/
def SYS_ADDRERR_INFO_INIT : Field := ⟨18, 8, 0⟩
/-- R65: PRK_CMD SLOT, [9:8], RW, reset 0. -/
def PRK_CMD_SLOT : Field := ⟨19, 2, 0⟩
/-- R65: PRK_CMD SVNUP, [6:6], W1P, reset 0. -/
def PRK_CMD_SVNUP : Field := ⟨20, 1, 0⟩
/-- R65: PRK_CMD ABORT, [5:5], W1P, reset 0. -/
def PRK_CMD_ABORT : Field := ⟨21, 1, 0⟩
/-- R65: PRK_CMD ERASE, [4:4], W1P, reset 0. -/
def PRK_CMD_ERASE : Field := ⟨22, 1, 0⟩
/-- R65: PRK_CMD ACTIVATE, [3:3], W1P, reset 0. -/
def PRK_CMD_ACTIVATE : Field := ⟨23, 1, 0⟩
/-- R65: PRK_CMD PATCH, [2:2], W1P, reset 0. -/
def PRK_CMD_PATCH : Field := ⟨24, 1, 0⟩
/-- R65: PRK_CMD COMMIT, [1:1], W1P, reset 0. -/
def PRK_CMD_COMMIT : Field := ⟨25, 1, 0⟩
/-- R65: PRK_CMD VERIFY, [0:0], W1P, reset 0. -/
def PRK_CMD_VERIFY : Field := ⟨26, 1, 0⟩
/-- R65: PRK_STATE LOCKED, [16:16], RO, reset 0. -/
def PRK_STATE_LOCKED : Field := ⟨27, 1, 0⟩
/-- R65: PRK_STATE SETDEF, [15:15], RO, reset 0. -/
def PRK_STATE_SETDEF : Field := ⟨28, 1, 0⟩
/-- R65: PRK_STATE FALLBACK, [14:14], RO, reset 0. -/
def PRK_STATE_FALLBACK : Field := ⟨29, 1, 0⟩
/-- R65: PRK_STATE SOURCE, [13:12], RO, reset 0. -/
def PRK_STATE_SOURCE : Field := ⟨30, 2, 0⟩
/-- R65: PRK_STATE ACTVALID, [10:10], RO, reset 0. -/
def PRK_STATE_ACTVALID : Field := ⟨31, 1, 0⟩
/-- R65: PRK_STATE ACTIVE, [9:8], RO, reset 0. -/
def PRK_STATE_ACTIVE : Field := ⟨32, 2, 0⟩
/-- R65: PRK_STATE OP, [7:4], RO, reset 0. -/
def PRK_STATE_OP : Field := ⟨33, 4, 0⟩
/-- R65: PRK_STATE STRUCT, [2:0], RO, reset 0. -/
def PRK_STATE_STRUCT : Field := ⟨34, 3, 0⟩
/-- R65: PRK_STATUS ERR, [29:29], W1C, reset 0. -/
def PRK_STATUS_ERR : Field := ⟨35, 1, 0⟩
/-- R65: PRK_STATUS DONE, [28:28], W1C, reset 0. -/
def PRK_STATUS_DONE : Field := ⟨36, 1, 0⟩
/-- R65: PRK_STATUS RECORD, [27:16], RO, reset 0. -/
def PRK_STATUS_RECORD : Field := ⟨37, 12, 0⟩
/-- R65: PRK_STATUS SECT, [15:8], RO, reset 0. -/
def PRK_STATUS_SECT : Field := ⟨38, 8, 0⟩
/-- R65: PRK_STATUS CODE, [7:0], RO, reset 0. -/
def PRK_STATUS_CODE : Field := ⟨39, 8, 0⟩
/-- R65: PRK_ERROFS OFS, [22:0], RO, reset 0. -/
def PRK_ERROFS_OFS : Field := ⟨40, 23, 0⟩
/-- R65: PRK_SERIAL SERIAL, [31:0], RO, reset 0. -/
def PRK_SERIAL_SERIAL : Field := ⟨41, 32, 0⟩
/-- R65: PRK_PSERIAL SERIAL, [31:0], RO, reset 0. -/
def PRK_PSERIAL_SERIAL : Field := ⟨42, 32, 0⟩
/-- R65: PRK_IEN LOCK_IE, [2:2], RW, reset 0. -/
def PRK_IEN_LOCK_IE : Field := ⟨43, 1, 0⟩
/-- R65: PRK_IEN ERR_IE, [1:1], RW, reset 0. -/
def PRK_IEN_ERR_IE : Field := ⟨44, 1, 0⟩
/-- R65: PRK_IEN DONE_IE, [0:0], RW, reset 0. -/
def PRK_IEN_DONE_IE : Field := ⟨45, 1, 0⟩
/-- R65: PRK_SLOT_INFO FALLBACK, [5:5], RO, reset 0. -/
def PRK_SLOT_INFO_FALLBACK : Field := ⟨46, 1, 0⟩
/-- R65: PRK_SLOT_INFO ACTIVE, [4:4], RO, reset 0. -/
def PRK_SLOT_INFO_ACTIVE : Field := ⟨47, 1, 0⟩
/-- R65: PRK_SLOT_INFO CONTENT, [1:0], RO, reset 0. -/
def PRK_SLOT_INFO_CONTENT : Field := ⟨48, 2, 0⟩
/-- R65: PRK_SLOT_SERIAL SERIAL, [31:0], RO, reset 0. -/
def PRK_SLOT_SERIAL_SERIAL : Field := ⟨49, 32, 0⟩
/-- R65: PRK_LOCKERR_ADDR ADDR, [31:0], RO, reset 0. -/
def PRK_LOCKERR_ADDR_ADDR : Field := ⟨50, 32, 0⟩
/-- R65: PRK_LOCKERR_INFO COUNT, [23:16], RO, reset 0. -/
def PRK_LOCKERR_INFO_COUNT : Field := ⟨51, 8, 0⟩
/-- R65: PRK_LOCKERR_INFO VALID, [15:15], W1C, reset 0. -/
def PRK_LOCKERR_INFO_VALID : Field := ⟨52, 1, 0⟩
/-- R65: PRK_LOCKERR_INFO INIT, [7:0], RO, reset 0. -/
def PRK_LOCKERR_INFO_INIT : Field := ⟨53, 8, 0⟩
/-- R65: PRK_KEYSTAT SVNMIN, [13:8], RO, reset 0. -/
def PRK_KEYSTAT_SVNMIN : Field := ⟨54, 6, 0⟩
/-- R65: PRK_KEYSTAT REVOKED, [7:4], RO, reset 0. -/
def PRK_KEYSTAT_REVOKED : Field := ⟨55, 4, 0⟩
/-- R65: PRK_KEYSTAT KEYVALID, [3:0], RO, reset 0. -/
def PRK_KEYSTAT_KEYVALID : Field := ⟨56, 4, 0⟩
/-- R65: PRK_ERRREC RECORD, [20:0], RO, reset 0. -/
def PRK_ERRREC_RECORD : Field := ⟨57, 21, 0⟩
/-- R96: MOD_CFG D, [24:16], WL, reset P (0 before the first commit). -/
def MOD_CFG_D : Field := ⟨58, 9, 0⟩
/-- R96: MOD_CFG RATE, [9:8], WL, reset P (0 before the first commit). -/
def MOD_CFG_RATE : Field := ⟨59, 2, 0⟩
/-- R96: MOD_CFG K, [6:4], WL, reset P (0 before the first commit). -/
def MOD_CFG_K : Field := ⟨60, 3, 0⟩
/-- R96: MOD_CFG FIR, [2:2], WL, reset P (0 before the first commit). -/
def MOD_CFG_FIR : Field := ⟨61, 1, 0⟩
/-- R96: MOD_CFG ILV, [1:1], WL, reset P (0 before the first commit). -/
def MOD_CFG_ILV : Field := ⟨62, 1, 0⟩
/-- R96: MOD_CFG EN, [0:0], WL, reset P (0 before the first commit). -/
def MOD_CFG_EN : Field := ⟨63, 1, 0⟩
/-- R96: MOD_CTL CMEN, [1:1], RW, reset 1. -/
def MOD_CTL_CMEN : Field := ⟨64, 1, 1⟩
/-- R96: MOD_CTL OWEN, [0:0], RW, reset 1. -/
def MOD_CTL_OWEN : Field := ⟨65, 1, 1⟩
/-- R96: MOD_WIN HYST, [30:28], RW, reset 0. -/
def MOD_WIN_HYST : Field := ⟨66, 3, 0⟩
/-- R96: MOD_WIN HI, [27:16], RW, reset 0x7FF. -/
def MOD_WIN_HI : Field := ⟨67, 12, 2047⟩
/-- R96: MOD_WIN LO, [11:0], RW, reset 0x800. -/
def MOD_WIN_LO : Field := ⟨68, 12, 2048⟩
/-- R96: MOD_CMWIN CMHI, [27:16], RW, reset 0x672. -/
def MOD_CMWIN_CMHI : Field := ⟨69, 12, 1650⟩
/-- R96: MOD_CMWIN CMLO, [11:0], RW, reset 0xF06. -/
def MOD_CMWIN_CMLO : Field := ⟨70, 12, 3846⟩
/-- R96: MOD_STAT SWAP, [10:8], RO, reset 0. -/
def MOD_STAT_SWAP : Field := ⟨71, 3, 0⟩
/-- R96: MOD_STAT UNIT, [7:7], RO, reset 0. -/
def MOD_STAT_UNIT : Field := ⟨72, 1, 0⟩
/-- R96: MOD_STAT OVL, [6:6], RO, reset 0. -/
def MOD_STAT_OVL : Field := ⟨73, 1, 0⟩
/-- R96: MOD_STAT CMBAD, [5:5], RO, reset 0. -/
def MOD_STAT_CMBAD : Field := ⟨74, 1, 0⟩
/-- R96: MOD_STAT OPEN, [4:4], RO, reset 0. -/
def MOD_STAT_OPEN : Field := ⟨75, 1, 0⟩
/-- R96: MOD_STAT CMPLO, [3:3], RO, reset 0. -/
def MOD_STAT_CMPLO : Field := ⟨76, 1, 0⟩
/-- R96: MOD_STAT CMPHI, [2:2], RO, reset 0. -/
def MOD_STAT_CMPHI : Field := ⟨77, 1, 0⟩
/-- R96: MOD_STAT SETTLED, [0:0], RO, reset 0. -/
def MOD_STAT_SETTLED : Field := ⟨78, 1, 0⟩
/-- R96: MOD_SAMPLE SEQ, [31:26], RO, reset 0. -/
def MOD_SAMPLE_SEQ : Field := ⟨79, 6, 0⟩
/-- R96: MOD_SAMPLE QUAL, [25:24], RO, reset 3. -/
def MOD_SAMPLE_QUAL : Field := ⟨80, 2, 3⟩
/-- R96: MOD_SAMPLE VALUE, [23:0], RO, reset 0. -/
def MOD_SAMPLE_VALUE : Field := ⟨81, 24, 0⟩
/-- R96: MOD_SCOUNT COUNT, [31:0], RO, reset 0. -/
def MOD_SCOUNT_COUNT : Field := ⟨82, 32, 0⟩
/-- R96: MOD_FAULT FLAGS, [10:0], W1C, reset 0. -/
def MOD_FAULT_FLAGS : Field := ⟨83, 11, 0⟩
/-- R96: MOD_FIEN IE, [10:0], RW, reset 0. -/
def MOD_FIEN_IE : Field := ⟨84, 11, 0⟩
/-- R96: MOD_TRIM GAIN, [31:16], RO, reset 0. -/
def MOD_TRIM_GAIN : Field := ⟨85, 16, 0⟩
/-- R96: MOD_TRIM OFFSET, [15:0], RO, reset 0. -/
def MOD_TRIM_OFFSET : Field := ⟨86, 16, 0⟩
/-- R96: MOD_SWAP CANCEL, [2:2], W1P, reset 0. -/
def MOD_SWAP_CANCEL : Field := ⟨87, 1, 0⟩
/-- R96: MOD_SWAP REPLACE, [1:1], W1P, reset 0. -/
def MOD_SWAP_REPLACE : Field := ⟨88, 1, 0⟩
/-- R96: MOD_SWAP SWAP, [0:0], W1P, reset 0. -/
def MOD_SWAP_SWAP : Field := ⟨89, 1, 0⟩
/-- R96: MOD_CMV CM, [11:0], RO, reset 0. -/
def MOD_CMV_CM : Field := ⟨90, 12, 0⟩
/-- R96: MOD_FIR TAPB, [31:16], WL, reset P (0 before the first commit). -/
def MOD_FIR_TAPB : Field := ⟨91, 16, 0⟩
/-- R96: MOD_FIR TAPA, [15:0], WL, reset P (0 before the first commit). -/
def MOD_FIR_TAPA : Field := ⟨92, 16, 0⟩
/-- R96: MODS_STAT FAILED, [11:11], RO, reset 0. -/
def MODS_STAT_FAILED : Field := ⟨93, 1, 0⟩
/-- R96: MODS_STAT PHASE, [10:8], RO, reset 0. -/
def MODS_STAT_PHASE : Field := ⟨94, 3, 0⟩
/-- R96: MODS_STAT BUSY, [7:7], RO, reset 0. -/
def MODS_STAT_BUSY : Field := ⟨95, 1, 0⟩
/-- R96: MODS_STAT ROLE, [5:0], RO, reset 0. -/
def MODS_STAT_ROLE : Field := ⟨96, 6, 0⟩
/-- R96: TILE_SWAPSTAT LASTMOD, [26:24], RO, reset 0. -/
def TILE_SWAPSTAT_LASTMOD : Field := ⟨97, 3, 0⟩
/-- R96: TILE_SWAPSTAT LASTCODE, [23:16], RO, reset 0. -/
def TILE_SWAPSTAT_LASTCODE : Field := ⟨98, 8, 0⟩
/-- R96: TILE_SWAPSTAT NOSPARE, [12:12], RO, reset 0. -/
def TILE_SWAPSTAT_NOSPARE : Field := ⟨99, 1, 0⟩
/-- R96: TILE_SWAPSTAT ACTIVE, [11:11], RO, reset 0. -/
def TILE_SWAPSTAT_ACTIVE : Field := ⟨100, 1, 0⟩
/-- R96: TILE_SWAPSTAT CURRENT, [10:8], RO, reset 0. -/
def TILE_SWAPSTAT_CURRENT : Field := ⟨101, 3, 0⟩
/-- R96: TILE_SWAPSTAT QDEPTH, [3:0], RO, reset 0. -/
def TILE_SWAPSTAT_QDEPTH : Field := ⟨102, 4, 0⟩
/-- R96: TILE_SWAPLIM LIMIT, [23:0], RW, reset 0x01_0000. -/
def TILE_SWAPLIM_LIMIT : Field := ⟨103, 24, 65536⟩
/-- R96: TILE_CAL AUTO, [8:8], RW, reset 0. -/
def TILE_CAL_AUTO : Field := ⟨104, 1, 0⟩
/-- R96: TILE_CAL MC, [3:0], RW, reset 0. -/
def TILE_CAL_MC : Field := ⟨105, 4, 0⟩
/-- R117: MC_CFG MODE, [16:16], WL, reset P (0 before the first commit). -/
def MC_CFG_MODE : Field := ⟨106, 1, 0⟩
/-- R117: MC_CFG MASK, [15:0], WL, reset P (0 before the first commit). -/
def MC_CFG_MASK : Field := ⟨107, 16, 0⟩
/-- R117: MC_PERIOD PERIOD, [31:0], WL, reset P (0 before the first commit). -/
def MC_PERIOD_PERIOD : Field := ⟨108, 32, 0⟩
/-- R117: MC_CTL XCEN, [2:2], RW, reset 1. -/
def MC_CTL_XCEN : Field := ⟨109, 1, 1⟩
/-- R117: MC_CTL ONE, [1:1], W1P, reset 0. -/
def MC_CTL_ONE : Field := ⟨110, 1, 0⟩
/-- R117: MC_CTL RUN, [0:0], RW, reset 1. -/
def MC_CTL_RUN : Field := ⟨111, 1, 1⟩
/-- R117: MC_STAT LEVEL, [20:16], RO, reset 0. -/
def MC_STAT_LEVEL : Field := ⟨112, 5, 0⟩
/-- R117: MC_STAT CUR, [15:12], RO, reset 0. -/
def MC_STAT_CUR : Field := ⟨113, 4, 0⟩
/-- R117: MC_STAT OVR, [5:5], W1C, reset 0. -/
def MC_STAT_OVR : Field := ⟨114, 1, 0⟩
/-- R117: MC_STAT NOSYNC, [4:4], RO, reset 0. -/
def MC_STAT_NOSYNC : Field := ⟨115, 1, 0⟩
/-- R117: MC_STAT CALBUSY, [3:3], RO, reset 0. -/
def MC_STAT_CALBUSY : Field := ⟨116, 1, 0⟩
/-- R117: MC_STAT XCBUSY, [2:2], RO, reset 0. -/
def MC_STAT_XCBUSY : Field := ⟨117, 1, 0⟩
/-- R117: MC_STAT INSET, [1:1], RO, reset 0. -/
def MC_STAT_INSET : Field := ⟨118, 1, 0⟩
/-- R117: MC_STAT SCANNING, [0:0], RO, reset 0. -/
def MC_STAT_SCANNING : Field := ⟨119, 1, 0⟩
/-- R117: MC_SEL SELB, [31:16], WL, reset P (0 before the first commit). -/
def MC_SEL_SELB : Field := ⟨120, 16, 0⟩
/-- R117: MC_SEL SELA, [15:0], WL, reset P (0 before the first commit). -/
def MC_SEL_SELA : Field := ⟨121, 16, 0⟩
/-- R117: MC_RES VALID, [31:31], RL, reset 0. -/
def MC_RES_VALID : Field := ⟨122, 1, 0⟩
/-- R117: MC_RES GAP, [30:30], RL, reset 0. -/
def MC_RES_GAP : Field := ⟨123, 1, 0⟩
/-- R117: MC_RES CLAMP, [29:29], RL, reset 0. -/
def MC_RES_CLAMP : Field := ⟨124, 1, 0⟩
/-- R117: MC_RES NOSYNC, [28:28], RL, reset 0. -/
def MC_RES_NOSYNC : Field := ⟨125, 1, 0⟩
/-- R117: MC_RES INPUT, [27:24], RL, reset 0. -/
def MC_RES_INPUT : Field := ⟨126, 4, 0⟩
/-- R117: MC_RES VALUE, [23:0], RL, reset 0. -/
def MC_RES_VALUE : Field := ⟨127, 24, 0⟩
/-- R117: MC_RTIME_LO TIME, [31:0], RO, reset 0. -/
def MC_RTIME_LO_TIME : Field := ⟨128, 32, 0⟩
/-- R117: MC_RTIME_HI TIME, [31:0], RO, reset 0. -/
def MC_RTIME_HI_TIME : Field := ⟨129, 32, 0⟩
/-- R117: MC_FAULT FLAGS, [6:0], W1C, reset 0. -/
def MC_FAULT_FLAGS : Field := ⟨130, 7, 0⟩
/-- R117: MC_FIEN IE, [6:0], RW, reset 0. -/
def MC_FIEN_IE : Field := ⟨131, 7, 0⟩
/-- R117: MC_MAINSPER PER, [31:0], RO, reset 0. -/
def MC_MAINSPER_PER : Field := ⟨132, 32, 0⟩
/-- R117: MC_XCLIM GAINLIM, [31:16], RW, reset 0x0148. -/
def MC_XCLIM_GAINLIM : Field := ⟨133, 16, 328⟩
/-- R117: MC_XCLIM OFFLIM, [15:0], RW, reset 0x1000. -/
def MC_XCLIM_OFFLIM : Field := ⟨134, 16, 4096⟩
/-- R117: MC_XCSTAT FAILMOD, [29:24], RO, reset 0. -/
def MC_XCSTAT_FAILMOD : Field := ⟨135, 6, 0⟩
/-- R117: MC_XCSTAT LASTMOD, [21:16], RO, reset 0. -/
def MC_XCSTAT_LASTMOD : Field := ⟨136, 6, 0⟩
/-- R117: MC_XCSTAT COUNT, [6:0], RO, reset 0. -/
def MC_XCSTAT_COUNT : Field := ⟨137, 7, 0⟩
/-- R117: MC_LOST LOST, [31:0], RO, reset 0. -/
def MC_LOST_LOST : Field := ⟨138, 32, 0⟩
/-- R117: MC_LAST VALID, [31:31], RO, reset 0. -/
def MC_LAST_VALID : Field := ⟨139, 1, 0⟩
/-- R117: MC_LAST CLAMP, [29:29], RO, reset 0. -/
def MC_LAST_CLAMP : Field := ⟨140, 1, 0⟩
/-- R117: MC_LAST NOSYNC, [28:28], RO, reset 0. -/
def MC_LAST_NOSYNC : Field := ⟨141, 1, 0⟩
/-- R117: MC_LAST VALUE, [23:0], RO, reset 0. -/
def MC_LAST_VALUE : Field := ⟨142, 24, 0⟩
/-- R151: LE_STAT SWAP, [11:9], RO, reset 0. -/
def LE_STAT_SWAP : Field := ⟨143, 3, 0⟩
/-- R151: LE_STAT UNIT, [8:8], RO, reset 0. -/
def LE_STAT_UNIT : Field := ⟨144, 1, 0⟩
/-- R151: LE_STAT RUNSLOT, [7:5], RO, reset 0. -/
def LE_STAT_RUNSLOT : Field := ⟨145, 3, 0⟩
/-- R151: LE_STAT STATE, [2:0], RO, reset 0. -/
def LE_STAT_STATE : Field := ⟨146, 3, 0⟩
/-- R151: LE_CMD ENABLE, [2:2], W1P, reset 0. -/
def LE_CMD_ENABLE : Field := ⟨147, 1, 0⟩
/-- R151: LE_CMD HDISABLE, [1:1], W1P, reset 0. -/
def LE_CMD_HDISABLE : Field := ⟨148, 1, 0⟩
/-- R151: LE_CMD DISABLE, [0:0], W1P, reset 0. -/
def LE_CMD_DISABLE : Field := ⟨149, 1, 0⟩
/-- R151: LE_FAULT FLAGS, [14:0], W1C, reset 0. -/
def LE_FAULT_FLAGS : Field := ⟨150, 15, 0⟩
/-- R151: LE_FIEN IE, [14:0], RW, reset 0. -/
def LE_FIEN_IE : Field := ⟨151, 15, 0⟩
/-- R151: LE_FINFO CODE, [31:24], RO, reset 0. -/
def LE_FINFO_CODE : Field := ⟨152, 8, 0⟩
/-- R151: LE_FINFO SLOT, [23:21], RO, reset 0. -/
def LE_FINFO_SLOT : Field := ⟨153, 3, 0⟩
/-- R151: LE_FINFO INJOB, [20:20], RO, reset 0. -/
def LE_FINFO_INJOB : Field := ⟨154, 1, 0⟩
/-- R151: LE_FINFO ADDR, [11:0], RO, reset 0. -/
def LE_FINFO_ADDR : Field := ⟨155, 12, 0⟩
/-- R151: LE_FBLIM LIMIT, [31:0], RW, reset 0x0001_0000. -/
def LE_FBLIM_LIMIT : Field := ⟨156, 32, 65536⟩
/-- R151: LE_ECC SCORR, [31:16], RO, reset 0. -/
def LE_ECC_SCORR : Field := ⟨157, 16, 0⟩
/-- R151: LE_ECC DCORR, [15:0], RO, reset 0. -/
def LE_ECC_DCORR : Field := ⟨158, 16, 0⟩
/-- R151: LE_SWAP CANCEL, [2:2], W1P, reset 0. -/
def LE_SWAP_CANCEL : Field := ⟨159, 1, 0⟩
/-- R151: LE_SWAP REPLACE, [1:1], W1P, reset 0. -/
def LE_SWAP_REPLACE : Field := ⟨160, 1, 0⟩
/-- R151: LE_SWAP SWAP, [0:0], W1P, reset 0. -/
def LE_SWAP_SWAP : Field := ⟨161, 1, 0⟩
/-- R151: LE_MBOX_DATA VALUE, [31:0], RW, reset 0. -/
def LE_MBOX_DATA_VALUE : Field := ⟨162, 32, 0⟩
/-- R151: LE_MBOX_PUSH PUSH, [31:31], W1P, reset 0. -/
def LE_MBOX_PUSH_PUSH : Field := ⟨163, 1, 0⟩
/-- R151: LE_MBOX_PUSH SLOT, [11:9], RW, reset 0. -/
def LE_MBOX_PUSH_SLOT : Field := ⟨164, 3, 0⟩
/-- R151: LE_MBOX_PUSH HOLD, [8:8], RW, reset 0. -/
def LE_MBOX_PUSH_HOLD : Field := ⟨165, 1, 0⟩
/-- R151: LE_MBOX_PUSH INDEX, [5:0], RW, reset 0. -/
def LE_MBOX_PUSH_INDEX : Field := ⟨166, 6, 0⟩
/-- R151: LE_MBOX_STAT DROPPED, [31:16], RO, reset 0. -/
def LE_MBOX_STAT_DROPPED : Field := ⟨167, 16, 0⟩
/-- R151: LE_MBOX_STAT FULLERR, [15:15], W1C, reset 0. -/
def LE_MBOX_STAT_FULLERR : Field := ⟨168, 1, 0⟩
/-- R151: LE_MBOX_STAT GROUP, [4:4], RO, reset 0. -/
def LE_MBOX_STAT_GROUP : Field := ⟨169, 1, 0⟩
/-- R151: LE_MBOX_STAT LEVEL, [3:0], RO, reset 0. -/
def LE_MBOX_STAT_LEVEL : Field := ⟨170, 4, 0⟩
/-- R151: LE_SLOT_JOB VALID, [31:31], WL, reset P (0 before the first commit). -/
def LE_SLOT_JOB_VALID : Field := ⟨171, 1, 0⟩
/-- R151: LE_SLOT_JOB TRIG, [30:30], WL, reset P (0 before the first commit). -/
def LE_SLOT_JOB_TRIG : Field := ⟨172, 1, 0⟩
/-- R151: LE_SLOT_JOB SRC, [25:16], WL, reset P (0 before the first commit). -/
def LE_SLOT_JOB_SRC : Field := ⟨173, 10, 0⟩
/-- R151: LE_SLOT_JOB JOB, [8:0], WL, reset P (0 before the first commit). -/
def LE_SLOT_JOB_JOB : Field := ⟨174, 9, 0⟩
/-- R151: LE_SLOT_CODE ENTRY, [27:16], WL, reset P (0 before the first commit). -/
def LE_SLOT_CODE_ENTRY : Field := ⟨175, 12, 0⟩
/-- R151: LE_SLOT_CODE IMAGE, [15:0], WL, reset P (0 before the first commit). -/
def LE_SLOT_CODE_IMAGE : Field := ⟨176, 16, 0⟩
/-- R151: LE_SLOT_BUDGET U, [31:16], WL, reset P (0 before the first commit). -/
def LE_SLOT_BUDGET_U : Field := ⟨177, 16, 0⟩
/-- R151: LE_SLOT_BUDGET BUDGET, [15:0], WL, reset P (0 before the first commit). -/
def LE_SLOT_BUDGET_BUDGET : Field := ⟨178, 16, 0⟩
/-- R151: LE_SLOT_PERIOD PERIOD, [31:0], WL, reset P (0 before the first commit). -/
def LE_SLOT_PERIOD_PERIOD : Field := ⟨179, 32, 0⟩
/-- R151: LE_SLOT_LEGSLO LEGS, [31:0], WL, reset P (0 before the first commit). -/
def LE_SLOT_LEGSLO_LEGS : Field := ⟨180, 32, 0⟩
/-- R151: LE_SLOT_LEGSHI LEGS, [15:0], WL, reset P (0 before the first commit). -/
def LE_SLOT_LEGSHI_LEGS : Field := ⟨181, 16, 0⟩
/-- R151: LE_SLOT_STAT PENDING, [31:31], RO, reset 0. -/
def LE_SLOT_STAT_PENDING : Field := ⟨182, 1, 0⟩
/-- R151: LE_SLOT_STAT WAITMAX, [30:24], RO, reset 0. -/
def LE_SLOT_STAT_WAITMAX : Field := ⟨183, 7, 0⟩
/-- R151: LE_SLOT_STAT LOST, [23:16], RO, reset 0. -/
def LE_SLOT_STAT_LOST : Field := ⟨184, 8, 0⟩
/-- R151: LE_SLOT_STAT MAXSTEPS, [15:0], RO, reset 0. -/
def LE_SLOT_STAT_MAXSTEPS : Field := ⟨185, 16, 0⟩
/-- R151: LE_SLOT_CPATH MAXCP, [31:16], RO, reset 0. -/
def LE_SLOT_CPATH_MAXCP : Field := ⟨186, 16, 0⟩
/-- R151: LE_SLOT_CPATH LASTCP, [15:0], RO, reset 0. -/
def LE_SLOT_CPATH_LASTCP : Field := ⟨187, 16, 0⟩
/-- R151: LE_RAW_CFG EN, [31:31], RO, reset 0. -/
def LE_RAW_CFG_EN : Field := ⟨188, 1, 0⟩
/-- R151: LE_RAW_CFG SLOT, [30:28], RO, reset 0. -/
def LE_RAW_CFG_SLOT : Field := ⟨189, 3, 0⟩
/-- R151: LE_RAW_CFG LEAK, [27:24], RO, reset 0. -/
def LE_RAW_CFG_LEAK : Field := ⟨190, 4, 0⟩
/-- R151: LE_RAW_CFG HIACT, [23:22], RO, reset 0. -/
def LE_RAW_CFG_HIACT : Field := ⟨191, 2, 0⟩
/-- R151: LE_RAW_CFG LOACT, [21:20], RO, reset 0. -/
def LE_RAW_CFG_LOACT : Field := ⟨192, 2, 0⟩
/-- R151: LE_RAW_CFG LEG, [19:14], RO, reset 0. -/
def LE_RAW_CFG_LEG : Field := ⟨193, 6, 0⟩
/-- R151: LE_RAW_CFG MOD, [13:8], RO, reset 0. -/
def LE_RAW_CFG_MOD : Field := ⟨194, 6, 0⟩
/-- R151: LE_RAW_CFG BLANK, [7:0], RO, reset 0. -/
def LE_RAW_CFG_BLANK : Field := ⟨195, 8, 0⟩
/-- R151: LE_RAW_TH HI, [31:16], RO, reset 0. -/
def LE_RAW_TH_HI : Field := ⟨196, 16, 0⟩
/-- R151: LE_RAW_TH LO, [15:0], RO, reset 0. -/
def LE_RAW_TH_LO : Field := ⟨197, 16, 0⟩
/-- R151: LE_RAW_ACC REQS, [31:16], RO, reset 0. -/
def LE_RAW_ACC_REQS : Field := ⟨198, 16, 0⟩
/-- R151: LE_RAW_ACC ACC, [15:0], RO, reset 0. -/
def LE_RAW_ACC_ACC : Field := ⟨199, 16, 0⟩
/-- R151: LES_STAT QDEPTH, [15:12], RO, reset 0. -/
def LES_STAT_QDEPTH : Field := ⟨200, 4, 0⟩
/-- R151: LES_STAT FAILED, [11:11], RO, reset 0. -/
def LES_STAT_FAILED : Field := ⟨201, 1, 0⟩
/-- R151: LES_STAT PHASE, [10:8], RO, reset 0. -/
def LES_STAT_PHASE : Field := ⟨202, 3, 0⟩
/-- R151: LES_STAT BUSY, [7:7], RO, reset 0. -/
def LES_STAT_BUSY : Field := ⟨203, 1, 0⟩
/-- R151: LES_STAT DETACHED, [6:6], RO, reset 0. -/
def LES_STAT_DETACHED : Field := ⟨204, 1, 0⟩
/-- R151: LES_STAT ROLE, [5:0], RO, reset 0. -/
def LES_STAT_ROLE : Field := ⟨205, 6, 0⟩
/-- R202: L_CFG DTF, [31:20], RW, reset 0. -/
def L_CFG_DTF : Field := ⟨206, 12, 0⟩
/-- R202: L_CFG DTR, [19:8], RW, reset 0. -/
def L_CFG_DTR : Field := ⟨207, 12, 0⟩
/-- R202: L_CFG LSDEFER, [6:6], RW, reset 0. -/
def L_CFG_LSDEFER : Field := ⟨208, 1, 0⟩
/-- R202: L_CFG SYNC, [5:5], RW, reset 0. -/
def L_CFG_SYNC : Field := ⟨209, 1, 0⟩
/-- R202: L_CFG RBSTOP, [4:4], RW, reset 0. -/
def L_CFG_RBSTOP : Field := ⟨210, 1, 0⟩
/-- R202: L_CFG MODE, [1:0], RW, reset 0. -/
def L_CFG_MODE : Field := ⟨211, 2, 0⟩
/-- R202: L_SAFE SAFE, [8:8], WL, reset P (0 before the first commit). -/
def L_SAFE_SAFE : Field := ⟨212, 1, 0⟩
/-- R202: L_SAFE STOP, [1:0], WL, reset P (0 before the first commit). -/
def L_SAFE_STOP : Field := ⟨213, 2, 0⟩
/-- R202: L_CMD CLRCLAMP, [3:3], W1P, reset 0. -/
def L_CMD_CLRCLAMP : Field := ⟨214, 1, 0⟩
/-- R202: L_CMD STOPNOW, [2:2], W1P, reset 0. -/
def L_CMD_STOPNOW : Field := ⟨215, 1, 0⟩
/-- R202: L_CMD STOP, [1:1], W1P, reset 0. -/
def L_CMD_STOP : Field := ⟨216, 1, 0⟩
/-- R202: L_CMD ENABLE, [0:0], W1P, reset 0. -/
def L_CMD_ENABLE : Field := ⟨217, 1, 0⟩
/-- R202: L_STAT LATECNT, [31:24], RO, reset 0. -/
def L_STAT_LATECNT : Field := ⟨218, 8, 0⟩
/-- R202: L_STAT CMDERR, [22:20], RO, reset 0. -/
def L_STAT_CMDERR : Field := ⟨219, 3, 0⟩
/-- R202: L_STAT WERR, [19:19], W1C, reset 0. -/
def L_STAT_WERR : Field := ⟨220, 1, 0⟩
/-- R202: L_STAT SLOPE, [18:18], RO, reset 0. -/
def L_STAT_SLOPE : Field := ⟨221, 1, 0⟩
/-- R202: L_STAT HOUT, [17:17], RO, reset 0. -/
def L_STAT_HOUT : Field := ⟨222, 1, 0⟩
/-- R202: L_STAT LOUT, [16:16], RO, reset 0. -/
def L_STAT_LOUT : Field := ⟨223, 1, 0⟩
/-- R202: L_STAT TRIP, [3:3], RO, reset 0. -/
def L_STAT_TRIP : Field := ⟨224, 1, 0⟩
/-- R202: L_STAT STATE, [2:0], RO, reset 0. -/
def L_STAT_STATE : Field := ⟨225, 3, 0⟩
/-- R202: L_PERIOD_LO PERIOD, [31:0], RW, reset 0. -/
def L_PERIOD_LO_PERIOD : Field := ⟨226, 32, 0⟩
/-- R202: L_PERIOD_HI PERIOD, [7:0], RW, reset 0. -/
def L_PERIOD_HI_PERIOD : Field := ⟨227, 8, 0⟩
/-- R202: L_PHASE_LO PHASE, [31:0], RW, reset 0. -/
def L_PHASE_LO_PHASE : Field := ⟨228, 32, 0⟩
/-- R202: L_PHASE_HI PHASE, [7:0], RW, reset 0. -/
def L_PHASE_HI_PHASE : Field := ⟨229, 8, 0⟩
/-- R202: L_EDGE TIME, [31:0], RW, reset 0. -/
def L_EDGE_TIME : Field := ⟨230, 32, 0⟩
/-- R202: L_SDUTY VALUE, [23:0], RO, reset 0. -/
def L_SDUTY_VALUE : Field := ⟨231, 24, 0⟩
/-- R202: L_SSLOPE VALUE, [23:0], RO, reset 0. -/
def L_SSLOPE_VALUE : Field := ⟨232, 24, 0⟩
/-- R202: L_MINON MINON, [15:0], RW, reset 0. -/
def L_MINON_MINON : Field := ⟨233, 16, 0⟩
/-- R202: L_MAXON MAXON, [31:0], RW, reset 0xFFFF_FFFF. -/
def L_MAXON_MAXON : Field := ⟨234, 32, 4294967295⟩
/-- R202: L_FAULT FLAGS, [6:0], W1C, reset 0. -/
def L_FAULT_FLAGS : Field := ⟨235, 7, 0⟩
/-- R202: L_FIEN IE, [6:0], RW, reset 0. -/
def L_FIEN_IE : Field := ⟨236, 7, 0⟩
/-- R202: L_FINFO CODE, [31:24], RO, reset 0. -/
def L_FINFO_CODE : Field := ⟨237, 8, 0⟩
/-- R202: L_FINFO OUT, [23:23], RO, reset 0. -/
def L_FINFO_OUT : Field := ⟨238, 1, 0⟩
/-- R202: L_FINFO DEV, [15:0], RO, reset 0. -/
def L_FINFO_DEV : Field := ⟨239, 16, 0⟩
/-- R202: L_OTR SETTLE, [27:16], RW, reset 0x050. -/
def L_OTR_SETTLE : Field := ⟨240, 12, 80⟩
/-- R202: L_OTR LOWFILT, [15:8], RW, reset 0x10. -/
def L_OTR_LOWFILT : Field := ⟨241, 8, 16⟩
/-- R202: L_OTR ENL, [1:1], RW, reset 0. -/
def L_OTR_ENL : Field := ⟨242, 1, 0⟩
/-- R202: L_OTR ENH, [0:0], RW, reset 0. -/
def L_OTR_ENH : Field := ⟨243, 1, 0⟩
/-- R202: L_OTRSTAT LOWL, [13:13], RO, reset 0. -/
def L_OTRSTAT_LOWL : Field := ⟨244, 1, 0⟩
/-- R202: L_OTRSTAT LOWH, [12:12], RO, reset 0. -/
def L_OTRSTAT_LOWH : Field := ⟨245, 1, 0⟩
/-- R202: L_OTRSTAT LISTENL, [11:11], RO, reset 0. -/
def L_OTRSTAT_LISTENL : Field := ⟨246, 1, 0⟩
/-- R202: L_OTRSTAT LISTENH, [10:10], RO, reset 0. -/
def L_OTRSTAT_LISTENH : Field := ⟨247, 1, 0⟩
/-- R202: L_OTRSTAT CLAMPL, [9:9], RO, reset 0. -/
def L_OTRSTAT_CLAMPL : Field := ⟨248, 1, 0⟩
/-- R202: L_OTRSTAT CLAMPH, [8:8], RO, reset 0. -/
def L_OTRSTAT_CLAMPH : Field := ⟨249, 1, 0⟩
/-- R202: L_OTRSTAT CLASSL, [6:4], RO, reset 0. -/
def L_OTRSTAT_CLASSL : Field := ⟨250, 3, 0⟩
/-- R202: L_OTRSTAT CLASSH, [2:0], RO, reset 0. -/
def L_OTRSTAT_CLASSH : Field := ⟨251, 3, 0⟩
/-- R202: L_RB FAILS, [31:16], RO, reset 0. -/
def L_RB_FAILS : Field := ⟨252, 16, 0⟩
/-- R202: L_RB TOL, [7:0], RW, reset 0x0A. -/
def L_RB_TOL : Field := ⟨253, 8, 10⟩
/-- R202: L_RBDEV DEVL, [31:16], RO, reset 0. -/
def L_RBDEV_DEVL : Field := ⟨254, 16, 0⟩
/-- R202: L_RBDEV DEVH, [15:0], RO, reset 0. -/
def L_RBDEV_DEVH : Field := ⟨255, 16, 0⟩
/-- R242: PLW_STAT RUNS, [31:24], RO, reset 0. -/
def PLW_STAT_RUNS : Field := ⟨256, 8, 0⟩
/-- R242: PLW_STAT OVER, [23:15], RO, reset 0. -/
def PLW_STAT_OVER : Field := ⟨257, 9, 0⟩
/-- R242: PLW_STAT LAST, [14:12], RO, reset 0. -/
def PLW_STAT_LAST : Field := ⟨258, 3, 0⟩
/-- R242: PLW_STAT BUSY, [11:11], RO, reset 0. -/
def PLW_STAT_BUSY : Field := ⟨259, 1, 0⟩
/-- R242: PLW_STAT OVERF, [10:10], W1C, reset 0. -/
def PLW_STAT_OVERF : Field := ⟨260, 1, 0⟩
/-- R242: PLW_REJ CODE, [31:24], RO, reset 0. -/
def PLW_REJ_CODE : Field := ⟨261, 8, 0⟩
/-- R242: PLW_REJ REASON, [23:20], RO, reset 0. -/
def PLW_REJ_REASON : Field := ⟨262, 4, 0⟩
/-- R242: PLW_REJ JOB, [8:0], RO, reset 0. -/
def PLW_REJ_JOB : Field := ⟨263, 9, 0⟩
/-- R242: PLW_REJ_BOUND PS, [31:0], RO, reset 0. -/
def PLW_REJ_BOUND_PS : Field := ⟨264, 32, 0⟩
/-- R242: PLW_REJ_TARGET PS, [31:0], RO, reset 0. -/
def PLW_REJ_TARGET_PS : Field := ⟨265, 32, 0⟩
/-- R242: PLW_TIME CYCLES, [31:0], RO, reset 0. -/
def PLW_TIME_CYCLES : Field := ⟨266, 32, 0⟩
/-- R242: PLW_HASHGEN GEN, [31:0], RO, reset 0. -/
def PLW_HASHGEN_GEN : Field := ⟨267, 32, 0⟩
/-- R242: PLW_BANKACC COUNT, [31:0], RO, reset 0. -/
def PLW_BANKACC_COUNT : Field := ⟨268, 32, 0⟩
/-- R242: PLW_BANKCONF COUNT, [31:0], RO, reset 0. -/
def PLW_BANKCONF_COUNT : Field := ⟨269, 32, 0⟩
/-- R242: PLW_CTL BANKCLR, [0:0], W1P, reset 0. -/
def PLW_CTL_BANKCLR : Field := ⟨270, 1, 0⟩
/-- R242: PLW_JSEL JOB, [8:0], RW, reset 0. -/
def PLW_JSEL_JOB : Field := ⟨271, 9, 0⟩
/-- R242: PLW_JINFO VALID, [31:31], RO, reset 0. -/
def PLW_JINFO_VALID : Field := ⟨272, 1, 0⟩
/-- R242: PLW_JINFO PINNED, [30:30], RO, reset 0. -/
def PLW_JINFO_PINNED : Field := ⟨273, 1, 0⟩
/-- R242: PLW_JINFO CLASS, [29:28], RO, reset 0. -/
def PLW_JINFO_CLASS : Field := ⟨274, 2, 0⟩
/-- R242: PLW_JINFO SLOT, [27:25], RO, reset 0. -/
def PLW_JINFO_SLOT : Field := ⟨275, 3, 0⟩
/-- R242: PLW_JINFO X, [24:22], RO, reset 0. -/
def PLW_JINFO_X : Field := ⟨276, 3, 0⟩
/-- R242: PLW_JINFO FREM, [21:21], RO, reset 0. -/
def PLW_JINFO_FREM : Field := ⟨277, 1, 0⟩
/-- R242: PLW_JINFO PREM, [20:20], RO, reset 0. -/
def PLW_JINFO_PREM : Field := ⟨278, 1, 0⟩
/-- R242: PLW_JINFO ENGINE, [19:14], RO, reset 0. -/
def PLW_JINFO_ENGINE : Field := ⟨279, 6, 0⟩
/-- R242: PLW_JBOUND PS, [31:0], RO, reset 0. -/
def PLW_JBOUND_PS : Field := ⟨280, 32, 0⟩
/-- R242: PLW_JSLACK PS, [31:0], RO, reset 0. -/
def PLW_JSLACK_PS : Field := ⟨281, 32, 0⟩
/-- R242: PLW_ESEL ENGINE, [5:0], RW, reset 0. -/
def PLW_ESEL_ENGINE : Field := ⟨282, 6, 0⟩
/-- R242: PLW_EINFO USED, [31:31], RO, reset 0. -/
def PLW_EINFO_USED : Field := ⟨283, 1, 0⟩
/-- R242: PLW_EINFO TGT, [30:30], RO, reset 0. -/
def PLW_EINFO_TGT : Field := ⟨284, 1, 0⟩
/-- R242: PLW_EINFO VACANT, [29:29], RO, reset 0. -/
def PLW_EINFO_VACANT : Field := ⟨285, 1, 0⟩
/-- R242: PLW_EINFO NSLOTS, [24:21], RO, reset 0. -/
def PLW_EINFO_NSLOTS : Field := ⟨286, 4, 0⟩
/-- R242: PLW_EINFO IMAGE, [15:0], RO, reset 0. -/
def PLW_EINFO_IMAGE : Field := ⟨287, 16, 0⟩
/-- R242: PLW_ELOAD HOLD, [31:16], RO, reset 0. -/
def PLW_ELOAD_HOLD : Field := ⟨288, 16, 0⟩
/-- R242: PLW_ELOAD W, [15:0], RO, reset 0. -/
def PLW_ELOAD_W : Field := ⟨289, 16, 0⟩
/-- R242: PLW_EUTIL UTIL, [16:0], RO, reset 0. -/
def PLW_EUTIL_UTIL : Field := ⟨290, 17, 0⟩
/-- R242: PLW_TSEL ID, [15:0], RW, reset 0. -/
def PLW_TSEL_ID : Field := ⟨291, 16, 0⟩
/-- R242: PLW_TBASE VALUE, [31:0], RO, reset 0. -/
def PLW_TBASE_VALUE : Field := ⟨292, 32, 0⟩
/-- R242: PLW_CSEL STREAM, [7:0], RW, reset 0. -/
def PLW_CSEL_STREAM : Field := ⟨293, 8, 0⟩
/-- R242: PLW_CROUTE VALID, [31:31], RO, reset 0. -/
def PLW_CROUTE_VALID : Field := ⟨294, 1, 0⟩
/-- R242: PLW_CROUTE ROUTE, [25:24], RO, reset 0. -/
def PLW_CROUTE_ROUTE : Field := ⟨295, 2, 0⟩
/-- R242: PLW_CROUTE RATE, [23:0], RO, reset 0. -/
def PLW_CROUTE_RATE : Field := ⟨296, 24, 0⟩
/-- R242: PLW_RSEL SAMPLE, [7:0], RW, reset 0. -/
def PLW_RSEL_SAMPLE : Field := ⟨297, 8, 0⟩
/-- R242: PLW_RPATH VALID, [31:31], RO, reset 0. -/
def PLW_RPATH_VALID : Field := ⟨298, 1, 0⟩
/-- R242: PLW_RPATH NOPATH, [30:30], RO, reset 0. -/
def PLW_RPATH_NOPATH : Field := ⟨299, 1, 0⟩
/-- R242: PLW_RPATH PORT, [29:28], RO, reset 0. -/
def PLW_RPATH_PORT : Field := ⟨300, 2, 0⟩
/-- R242: PLW_RPATH X, [27:25], RO, reset 0. -/
def PLW_RPATH_X : Field := ⟨301, 3, 0⟩
/-- R242: PLW_RPATH SEAT, [24:22], RO, reset 0. -/
def PLW_RPATH_SEAT : Field := ⟨302, 3, 0⟩
/-- R261: GND_STAT MUTED, [23:16], RO, reset 0. -/
def GND_STAT_MUTED : Field := ⟨303, 8, 0⟩
/-- R261: GND_STAT LOOPLEN, [8:0], RO, reset 0. -/
def GND_STAT_LOOPLEN : Field := ⟨304, 9, 0⟩
/-- R261: GND_FAULT FLAGS, [2:0], W1C, reset 0. -/
def GND_FAULT_FLAGS : Field := ⟨305, 3, 0⟩
/-- R261: GND_FIEN IE, [2:0], RW, reset 0. -/
def GND_FIEN_IE : Field := ⟨306, 3, 0⟩
/-- R261: GND_STORMCH EC, [9:0], RO, reset 0. -/
def GND_STORMCH_EC : Field := ⟨307, 10, 0⟩
/-- R261: GND_PUBERR COUNT, [31:24], RO, reset 0. -/
def GND_PUBERR_COUNT : Field := ⟨308, 8, 0⟩
/-- R261: GND_PUBERR CORE, [23:20], RO, reset 0. -/
def GND_PUBERR_CORE : Field := ⟨309, 4, 0⟩
/-- R261: GND_PUBERR EC, [9:0], RO, reset 0. -/
def GND_PUBERR_EC : Field := ⟨310, 10, 0⟩
/-- R261: GND_LOOPSEL PAGE, [3:0], RW, reset 0. -/
def GND_LOOPSEL_PAGE : Field := ⟨311, 4, 0⟩
/-- R261: GND_LOOP PICOTB, [23:16], RO, reset 0. -/
def GND_LOOP_PICOTB : Field := ⟨312, 8, 0⟩
/-- R261: GND_LOOP PICOTA, [7:0], RO, reset 0. -/
def GND_LOOP_PICOTA : Field := ⟨313, 8, 0⟩
/-- R261: GND_EVCNT COUNT, [31:0], RO, reset 0. -/
def GND_EVCNT_COUNT : Field := ⟨314, 32, 0⟩
/-- R261: GND_EVOVF OVF, [31:0], W1C, reset 0. -/
def GND_EVOVF_OVF : Field := ⟨315, 32, 0⟩
/-- R261: EC_CFG CONS, [31:16], WL, reset P (0 before the first commit). -/
def EC_CFG_CONS : Field := ⟨316, 16, 0⟩
/-- R261: EC_CFG PROD, [15:0], WL, reset P (0 before the first commit). -/
def EC_CFG_PROD : Field := ⟨317, 16, 0⟩
/-- R261: EC_STORM WINDOW, [12:8], WL, reset P (0 before the first commit). -/
def EC_STORM_WINDOW : Field := ⟨318, 5, 0⟩
/-- R261: EC_STORM LIMIT, [7:0], WL, reset P (0 before the first commit). -/
def EC_STORM_LIMIT : Field := ⟨319, 8, 0⟩
/-- R261: EC_CTL LOG, [2:2], RW, reset 0. -/
def EC_CTL_LOG : Field := ⟨320, 1, 0⟩
/-- R261: EC_CTL MUTE, [1:1], W1P, reset 0. -/
def EC_CTL_MUTE : Field := ⟨321, 1, 0⟩
/-- R261: EC_CTL UNMUTE, [0:0], W1P, reset 0. -/
def EC_CTL_UNMUTE : Field := ⟨322, 1, 0⟩
/-- R261: EC_STAT MUTED, [31:31], RO, reset 0. -/
def EC_STAT_MUTED : Field := ⟨323, 1, 0⟩
/-- R261: EC_STAT USED, [30:30], RO, reset 0. -/
def EC_STAT_USED : Field := ⟨324, 1, 0⟩
/-- R261: EC_STAT DROP, [29:16], RO, reset 0. -/
def EC_STAT_DROP : Field := ⟨325, 14, 0⟩
/-- R261: EC_STAT COUNT, [15:0], RO, reset 0. -/
def EC_STAT_COUNT : Field := ⟨326, 16, 0⟩
/-- R261: PICOT_CFG FLEN, [31:24], WL, reset P (0 before the first commit). -/
def PICOT_CFG_FLEN : Field := ⟨327, 8, 0⟩
/-- R261: PICOT_CFG FILT, [17:17], WL, reset P (0 before the first commit). -/
def PICOT_CFG_FILT : Field := ⟨328, 1, 0⟩
/-- R261: PICOT_CFG FF, [16:16], WL, reset P (0 before the first commit). -/
def PICOT_CFG_FF : Field := ⟨329, 1, 0⟩
/-- R261: PICOT_CFG LUT, [15:0], WL, reset P (0 before the first commit). -/
def PICOT_CFG_LUT : Field := ⟨330, 16, 0⟩
/-- R261: PICOT_STAT OUTCNT, [31:16], RO, reset 0. -/
def PICOT_STAT_OUTCNT : Field := ⟨331, 16, 0⟩
/-- R261: PICOT_STAT QF, [1:1], RO, reset 0. -/
def PICOT_STAT_QF : Field := ⟨332, 1, 0⟩
/-- R261: PICOT_STAT Q, [0:0], RO, reset 0. -/
def PICOT_STAT_Q : Field := ⟨333, 1, 0⟩
/-- R277: SPR_LATCH0 LATCH, [31:0], RO, reset 0. -/
def SPR_LATCH0_LATCH : Field := ⟨334, 32, 0⟩
/-- R277: SPR_LATCH1 LATCH, [15:0], RO, reset 0. -/
def SPR_LATCH1_LATCH : Field := ⟨335, 16, 0⟩
/-- R277: SPR_ACTIVE0 ACTIVE, [31:0], RO, reset 0. -/
def SPR_ACTIVE0_ACTIVE : Field := ⟨336, 32, 0⟩
/-- R277: SPR_ACTIVE1 ACTIVE, [15:0], RO, reset 0. -/
def SPR_ACTIVE1_ACTIVE : Field := ⟨337, 16, 0⟩
/-- R277: SPR_REL GO, [31:31], W1P, reset 0. -/
def SPR_REL_GO : Field := ⟨338, 1, 0⟩
/-- R277: SPR_REL LEG, [5:0], RW, reset 0. -/
def SPR_REL_LEG : Field := ⟨339, 6, 0⟩
/-- R277: SPR_RELSTAT INIT, [23:16], RO, reset 0. -/
def SPR_RELSTAT_INIT : Field := ⟨340, 8, 0⟩
/-- R277: SPR_RELSTAT LEG, [13:8], RO, reset 0. -/
def SPR_RELSTAT_LEG : Field := ⟨341, 6, 0⟩
/-- R277: SPR_RELSTAT RESULT, [1:0], RO, reset 0. -/
def SPR_RELSTAT_RESULT : Field := ⟨342, 2, 0⟩
/-- R277: SPR_FAULT FLAGS, [1:0], W1C, reset 0. -/
def SPR_FAULT_FLAGS : Field := ⟨343, 2, 0⟩
/-- R277: SPR_FIEN IE, [1:0], RW, reset 0. -/
def SPR_FIEN_IE : Field := ⟨344, 2, 0⟩
/-- R277: SPR_L_CAUSE VALID, [31:31], RO, reset 0. -/
def SPR_L_CAUSE_VALID : Field := ⟨345, 1, 0⟩
/-- R277: SPR_L_CAUSE MORE, [30:30], RO, reset 0. -/
def SPR_L_CAUSE_MORE : Field := ⟨346, 1, 0⟩
/-- R277: SPR_L_CAUSE SOURCE, [15:0], RO, reset 0. -/
def SPR_L_CAUSE_SOURCE : Field := ⟨347, 16, 0⟩
/-- R277: SPR_L_TIME_LO TIME, [31:0], RO, reset 0. -/
def SPR_L_TIME_LO_TIME : Field := ⟨348, 32, 0⟩
/-- R277: SPR_L_TIME_HI TIME, [31:0], RO, reset 0. -/
def SPR_L_TIME_HI_TIME : Field := ⟨349, 32, 0⟩
/-- R277: SPR_L_COUNT COUNT, [15:0], RO, reset 0. -/
def SPR_L_COUNT_COUNT : Field := ⟨350, 16, 0⟩
/-- R277: SPR_MAP_LO MASK, [31:0], WL, reset P (0 before the first commit). -/
def SPR_MAP_LO_MASK : Field := ⟨351, 32, 0⟩
/-- R277: SPR_MAP_HI MASK, [15:0], WL, reset 0. -/
def SPR_MAP_HI_MASK : Field := ⟨352, 16, 0⟩
/-- R299: GT_CFG N, [31:16], WL, reset P (0 before the first commit). -/
def GT_CFG_N : Field := ⟨353, 16, 0⟩
/-- R299: GT_CFG F, [15:8], WL, reset P (0 before the first commit). -/
def GT_CFG_F : Field := ⟨354, 8, 0⟩
/-- R299: GT_CFG TPIN, [7:4], WL, reset P (0 before the first commit). -/
def GT_CFG_TPIN : Field := ⟨355, 4, 0⟩
/-- R299: GT_CFG SRC, [1:0], WL, reset P (0 before the first commit). -/
def GT_CFG_SRC : Field := ⟨356, 2, 0⟩
/-- R299: GT_LINK PUBV, [31:31], WL, reset P (0 before the first commit). -/
def GT_LINK_PUBV : Field := ⟨357, 1, 0⟩
/-- R299: GT_LINK PUBEC, [25:16], WL, reset P (0 before the first commit). -/
def GT_LINK_PUBEC : Field := ⟨358, 10, 0⟩
/-- R299: GT_LINK MASTER, [13:8], WL, reset P (0 before the first commit). -/
def GT_LINK_MASTER : Field := ⟨359, 6, 0⟩
/-- R299: GT_LINK MEV, [2:2], WL, reset P (0 before the first commit). -/
def GT_LINK_MEV : Field := ⟨360, 1, 0⟩
/-- R299: GT_LINK SLAVE, [1:0], WL, reset P (0 before the first commit). -/
def GT_LINK_SLAVE : Field := ⟨361, 2, 0⟩
/-- R299: GT_CMD ARM, [0:0], W1P, reset 0. -/
def GT_CMD_ARM : Field := ⟨362, 1, 0⟩
/-- R299: GT_STAT OLDPLAN, [18:18], RO, reset 0. -/
def GT_STAT_OLDPLAN : Field := ⟨363, 1, 0⟩
/-- R299: GT_STAT STATE, [17:16], RO, reset 0. -/
def GT_STAT_STATE : Field := ⟨364, 2, 0⟩
/-- R299: GT_STAT ARMED, [5:5], RO, reset 0. -/
def GT_STAT_ARMED : Field := ⟨365, 1, 0⟩
/-- R299: GT_STAT OVR, [4:4], W1C, reset 0. -/
def GT_STAT_OVR : Field := ⟨366, 1, 0⟩
/-- R299: GT_STAT PEND, [3:3], RO, reset 0. -/
def GT_STAT_PEND : Field := ⟨367, 1, 0⟩
/-- R299: GT_STAT LATE, [2:2], W1C, reset 0. -/
def GT_STAT_LATE : Field := ⟨368, 1, 0⟩
/-- R299: GT_STAT END, [1:1], W1C, reset 0. -/
def GT_STAT_END : Field := ⟨369, 1, 0⟩
/-- R299: GT_STAT MATCH, [0:0], W1C, reset 0. -/
def GT_STAT_MATCH : Field := ⟨370, 1, 0⟩
/-- R299: GT_IEN OVR_IE, [2:2], RW, reset 0. -/
def GT_IEN_OVR_IE : Field := ⟨371, 1, 0⟩
/-- R299: GT_IEN END_IE, [1:1], RW, reset 0. -/
def GT_IEN_END_IE : Field := ⟨372, 1, 0⟩
/-- R299: GT_IEN MATCH_IE, [0:0], RW, reset 0. -/
def GT_IEN_MATCH_IE : Field := ⟨373, 1, 0⟩
/-- R299: GT_COUNT_LO COUNT, [31:0], RL, reset 0. -/
def GT_COUNT_LO_COUNT : Field := ⟨374, 32, 0⟩
/-- R299: GT_COUNT_HI COUNT, [31:0], RO, reset 0. -/
def GT_COUNT_HI_COUNT : Field := ⟨375, 32, 0⟩
/-- R299: GT_CMP_LO CMP, [31:0], RW, reset 0xFFFF_FFFF. -/
def GT_CMP_LO_CMP : Field := ⟨376, 32, 4294967295⟩
/-- R299: GT_CMP_HI CMP, [31:0], RW, reset 0xFFFF_FFFF. -/
def GT_CMP_HI_CMP : Field := ⟨377, 32, 4294967295⟩
/-- R299: GT_END_LO END, [31:0], RW, reset 0xFFFF_FFFF. -/
def GT_END_LO_END : Field := ⟨378, 32, 4294967295⟩
/-- R299: GT_END_HI END, [31:0], RW, reset 0xFFFF_FFFF. -/
def GT_END_HI_END : Field := ⟨379, 32, 4294967295⟩
/-- R299: GT_CAP_LO CAP, [31:0], RL, reset 0. -/
def GT_CAP_LO_CAP : Field := ⟨380, 32, 0⟩
/-- R299: GT_CAP_HI CAP, [31:0], RO, reset 0. -/
def GT_CAP_HI_CAP : Field := ⟨381, 32, 0⟩
/-- R299: TG_IRQ FLT, [17:16], RO, reset 0. -/
def TG_IRQ_FLT : Field := ⟨382, 2, 0⟩
/-- R299: TG_IRQ TMR, [15:0], RO, reset 0. -/
def TG_IRQ_TMR : Field := ⟨383, 16, 0⟩
/-- R299: TG_ARM ARM, [15:0], W1P, reset 0. -/
def TG_ARM_ARM : Field := ⟨384, 16, 0⟩
/-- R299: TG_FAULT FLAGS, [1:0], W1C, reset 0. -/
def TG_FAULT_FLAGS : Field := ⟨385, 2, 0⟩
/-- R299: TG_FIEN IE, [1:0], RW, reset 0. -/
def TG_FIEN_IE : Field := ⟨386, 2, 0⟩
/-- R299: TG_DTIME_LO TIME, [31:0], RL, reset 0. -/
def TG_DTIME_LO_TIME : Field := ⟨387, 32, 0⟩
/-- R299: TG_DTIME_HI TIME, [31:0], RO, reset 0. -/
def TG_DTIME_HI_TIME : Field := ⟨388, 32, 0⟩
/-- R299: TG_DTSTAT UNCORR, [31:31], RO, reset 0. -/
def TG_DTSTAT_UNCORR : Field := ⟨389, 1, 0⟩
/-- R299: TG_DTSTAT STEP, [27:0], RO, reset 0. -/
def TG_DTSTAT_STEP : Field := ⟨390, 28, 0⟩
/-- R368: WRT_STAT ROOTRET, [29:29], RO, reset 0. -/
def WRT_STAT_ROOTRET : Field := ⟨391, 1, 0⟩
/-- R368: WRT_STAT BUSY, [28:28], RO, reset 0. -/
def WRT_STAT_BUSY : Field := ⟨392, 1, 0⟩
/-- R368: WRT_STAT RETIRED, [27:16], RO, reset 0. -/
def WRT_STAT_RETIRED : Field := ⟨393, 12, 0⟩
/-- R368: WRT_STAT FREE, [12:0], RO, reset 0. -/
def WRT_STAT_FREE : Field := ⟨394, 13, 0⟩
/-- R368: WRT_REFUSE_ADDR ADDR, [31:0], RO, reset 0. -/
def WRT_REFUSE_ADDR_ADDR : Field := ⟨395, 32, 0⟩
/-- R368: WRT_REFUSE_INFO COUNT, [31:24], RO, reset 0. -/
def WRT_REFUSE_INFO_COUNT : Field := ⟨396, 8, 0⟩
/-- R368: WRT_REFUSE_INFO VALID, [23:23], W1C, reset 0. -/
def WRT_REFUSE_INFO_VALID : Field := ⟨397, 1, 0⟩
/-- R368: WRT_REFUSE_INFO CAUSE, [22:20], RO, reset 0. -/
def WRT_REFUSE_INFO_CAUSE : Field := ⟨398, 3, 0⟩
/-- R368: WRT_REFUSE_INFO KIND, [19:16], RO, reset 0. -/
def WRT_REFUSE_INFO_KIND : Field := ⟨399, 4, 0⟩
/-- R368: WRT_REFUSE_INFO RIGHTS, [15:8], RO, reset 0. -/
def WRT_REFUSE_INFO_RIGHTS : Field := ⟨400, 8, 0⟩
/-- R368: WRT_REFUSE_INFO INIT, [7:0], RO, reset 0. -/
def WRT_REFUSE_INFO_INIT : Field := ⟨401, 8, 0⟩
/-- R368: WRT_ESEL INDEX, [11:0], RW, reset 0. -/
def WRT_ESEL_INDEX : Field := ⟨402, 12, 0⟩
/-- R368: WRT_EINFO ALLOC, [31:31], RO, reset 0. -/
def WRT_EINFO_ALLOC : Field := ⟨403, 1, 0⟩
/-- R368: WRT_EINFO RETIRED, [30:30], RO, reset 0. -/
def WRT_EINFO_RETIRED : Field := ⟨404, 1, 0⟩
/-- R368: WRT_EINFO ENTRYW, [29:29], RO, reset 0. -/
def WRT_EINFO_ENTRYW : Field := ⟨405, 1, 0⟩
/-- R368: WRT_EINFO ROOT, [28:28], RO, reset 0. -/
def WRT_EINFO_ROOT : Field := ⟨406, 1, 0⟩
/-- R368: WRT_EINFO KIND, [27:24], RO, reset 0. -/
def WRT_EINFO_KIND : Field := ⟨407, 4, 0⟩
/-- R368: WRT_EINFO RIGHTS, [23:16], RO, reset 0. -/
def WRT_EINFO_RIGHTS : Field := ⟨408, 8, 0⟩
/-- R368: WRT_EINFO PARENT, [11:0], RO, reset 0. -/
def WRT_EINFO_PARENT : Field := ⟨409, 12, 0⟩
/-- R368: WRT_EGEN GEN, [19:0], RO, reset 0. -/
def WRT_EGEN_GEN : Field := ⟨410, 20, 0⟩
/-- R368: WRT_EBASE VALUE, [31:0], RO, reset 0. -/
def WRT_EBASE_VALUE : Field := ⟨411, 32, 0⟩
/-- R368: WRT_ELIMIT VALUE, [31:0], RO, reset 0. -/
def WRT_ELIMIT_VALUE : Field := ⟨412, 32, 0⟩
/-- R368: WRT_BINDSEL SLOT, [10:8], RW, reset 0. -/
def WRT_BINDSEL_SLOT : Field := ⟨413, 3, 0⟩
/-- R368: WRT_BINDSEL FN, [5:0], RW, reset 0. -/
def WRT_BINDSEL_FN : Field := ⟨414, 6, 0⟩
/-- R368: WRT_BIND_LO HANDLE, [31:0], RW, reset 0. -/
def WRT_BIND_LO_HANDLE : Field := ⟨415, 32, 0⟩
/-- R368: WRT_BIND_HI HANDLE, [31:0], RW, reset 0. -/
def WRT_BIND_HI_HANDLE : Field := ⟨416, 32, 0⟩
/-- R368: WRT_BINDSTAT ERR, [8:8], W1C, reset 0. -/
def WRT_BINDSTAT_ERR : Field := ⟨417, 1, 0⟩
/-- R368: WRT_BINDSTAT VALID, [7:0], RO, reset 0. -/
def WRT_BINDSTAT_VALID : Field := ⟨418, 8, 0⟩
/-- R385: CP_STAT REPLAYS, [31:24], RO, reset 0. -/
def CP_STAT_REPLAYS : Field := ⟨419, 8, 0⟩
/-- R385: CP_STAT CMPFAIL, [10:10], RO, reset 0. -/
def CP_STAT_CMPFAIL : Field := ⟨420, 1, 0⟩
/-- R385: CP_STAT LOGOVF, [9:9], RO, reset 0. -/
def CP_STAT_LOGOVF : Field := ⟨421, 1, 0⟩
/-- R385: CP_STAT JVOID, [8:8], RO, reset 0. -/
def CP_STAT_JVOID : Field := ⟨422, 1, 0⟩
/-- R385: CP_STAT SPLIT, [4:4], RO, reset 0. -/
def CP_STAT_SPLIT : Field := ⟨423, 1, 0⟩
/-- R385: CP_STAT STATE, [2:0], RO, reset 0. -/
def CP_STAT_STATE : Field := ⟨424, 3, 0⟩
/-- R385: CP_EVEC EVEC, [31:0], RW, reset 0. -/
def CP_EVEC_EVEC : Field := ⟨425, 32, 0⟩
/-- R385: CP_IEN EVIN, [23:16], RW, reset 0. -/
def CP_IEN_EVIN : Field := ⟨426, 8, 0⟩
/-- R385: CP_IEN LINE, [15:0], RW, reset 0. -/
def CP_IEN_LINE : Field := ⟨427, 16, 0⟩
/-- R385: CP_FAULT FLAGS, [6:0], W1C, reset 0. -/
def CP_FAULT_FLAGS : Field := ⟨428, 7, 0⟩
/-- R385: CP_FIEN IE, [6:0], RW, reset 0. -/
def CP_FIEN_IE : Field := ⟨429, 7, 0⟩
/-- R385: CP_TASKENTRY PC, [31:0], RW, reset P (0 before the first commit). -/
def CP_TASKENTRY_PC : Field := ⟨430, 32, 0⟩
/-- R385: CP_JLEVEL JUSED, [25:16], RO, reset 0. -/
def CP_JLEVEL_JUSED : Field := ⟨431, 10, 0⟩
/-- R385: CP_JLEVEL LUSED, [6:0], RO, reset 0. -/
def CP_JLEVEL_LUSED : Field := ⟨432, 7, 0⟩
/-- R385: CP_MMINFO TOTAL, [31:24], RO, reset 0. -/
def CP_MMINFO_TOTAL : Field := ⟨433, 8, 0⟩
/-- R385: CP_MMINFO SINCE, [9:8], RO, reset 0. -/
def CP_MMINFO_SINCE : Field := ⟨434, 2, 0⟩
/-- R385: CP_MMINFO GROUP, [3:0], RO, reset 0. -/
def CP_MMINFO_GROUP : Field := ⟨435, 4, 0⟩
/-- R385: CP_MMPC VALUE, [31:0], RO, reset 0. -/
def CP_MMPC_VALUE : Field := ⟨436, 32, 0⟩
/-- R385: CP_CMD CMPTEST, [0:0], W1P, reset 0. -/
def CP_CMD_CMPTEST : Field := ⟨437, 1, 0⟩
/-- R385: CP_CMPRES DONE, [31:31], RO, reset 0. -/
def CP_CMPRES_DONE : Field := ⟨438, 1, 0⟩
/-- R385: CP_CMPRES RUN, [30:30], RO, reset 0. -/
def CP_CMPRES_RUN : Field := ⟨439, 1, 0⟩
/-- R385: CP_CMPRES BUSY, [29:29], W1C, reset 0. -/
def CP_CMPRES_BUSY : Field := ⟨440, 1, 0⟩
/-- R385: CP_CMPRES PASS, [11:0], RO, reset 0. -/
def CP_CMPRES_PASS : Field := ⟨441, 12, 0⟩
/-- R385: CP_IJHIT COUNT, [31:0], RO, reset 0. -/
def CP_IJHIT_COUNT : Field := ⟨442, 32, 0⟩
/-- R385: CP_SQUASH COUNT, [31:0], RO, reset 0. -/
def CP_SQUASH_COUNT : Field := ⟨443, 32, 0⟩
/-- R385: CP_SLOG_INFO VALID, [31:31], RO, reset 0. -/
def CP_SLOG_INFO_VALID : Field := ⟨444, 1, 0⟩
/-- R385: CP_SLOG_INFO KIND, [27:24], RO, reset 0. -/
def CP_SLOG_INFO_KIND : Field := ⟨445, 4, 0⟩
/-- R385: CP_SLOG_INFO DETAIL, [15:0], RO, reset 0. -/
def CP_SLOG_INFO_DETAIL : Field := ⟨446, 16, 0⟩
/-- R385: CP_SLOG_ADDR VALUE, [31:0], RO, reset 0. -/
def CP_SLOG_ADDR_VALUE : Field := ⟨447, 32, 0⟩
/-- R385: CP_SLOG_DATA VALUE, [31:0], RO, reset 0. -/
def CP_SLOG_DATA_VALUE : Field := ⟨448, 32, 0⟩
/-- R411: DMA_STAT BUSY, [11:11], RO, reset 0. -/
def DMA_STAT_BUSY : Field := ⟨449, 1, 0⟩
/-- R411: DMA_STAT RUNCH, [10:8], RO, reset 0. -/
def DMA_STAT_RUNCH : Field := ⟨450, 3, 0⟩
/-- R411: DMA_STAT DONE, [7:0], RO, reset 0. -/
def DMA_STAT_DONE : Field := ⟨451, 8, 0⟩
/-- R411: DMA_FAULT FLAGS, [3:0], W1C, reset 0. -/
def DMA_FAULT_FLAGS : Field := ⟨452, 4, 0⟩
/-- R411: DMA_FIEN IE, [3:0], RW, reset 0. -/
def DMA_FIEN_IE : Field := ⟨453, 4, 0⟩
/-- R411: DMA_FINFO CODE, [31:24], RO, reset 0. -/
def DMA_FINFO_CODE : Field := ⟨454, 8, 0⟩
/-- R411: DMA_FINFO CH, [2:0], RO, reset 0. -/
def DMA_FINFO_CH : Field := ⟨455, 3, 0⟩
/-- R411: DMAC_CTL FREE, [31:31], RW, reset 0. -/
def DMAC_CTL_FREE : Field := ⟨456, 1, 0⟩
/-- R411: DMAC_CTL RETRY, [30:28], RW, reset 0. -/
def DMAC_CTL_RETRY : Field := ⟨457, 3, 0⟩
/-- R411: DMAC_CTL SWAP, [27:26], RW, reset 0. -/
def DMAC_CTL_SWAP : Field := ⟨458, 2, 0⟩
/-- R411: DMAC_CTL SINC, [25:25], RW, reset 0. -/
def DMAC_CTL_SINC : Field := ⟨459, 1, 0⟩
/-- R411: DMAC_CTL DINC, [24:24], RW, reset 0. -/
def DMAC_CTL_DINC : Field := ⟨460, 1, 0⟩
/-- R411: DMAC_CTL DONEIE, [23:23], RW, reset 0. -/
def DMAC_CTL_DONEIE : Field := ⟨461, 1, 0⟩
/-- R411: DMAC_CTL TCMCORE, [19:16], RW, reset 0. -/
def DMAC_CTL_TCMCORE : Field := ⟨462, 4, 0⟩
/-- R411: DMAC_CTL USIZE, [14:8], RW, reset 0. -/
def DMAC_CTL_USIZE : Field := ⟨463, 7, 0⟩
/-- R411: DMAC_CMD INC, [31:16], RW, reset 0. -/
def DMAC_CMD_INC : Field := ⟨464, 16, 0⟩
/-- R411: DMAC_CMD ADDLVL, [3:3], W1P, reset 0. -/
def DMAC_CMD_ADDLVL : Field := ⟨465, 1, 0⟩
/-- R411: DMAC_CMD RESUME, [2:2], W1P, reset 0. -/
def DMAC_CMD_RESUME : Field := ⟨466, 1, 0⟩
/-- R411: DMAC_CMD STOP, [1:1], W1P, reset 0. -/
def DMAC_CMD_STOP : Field := ⟨467, 1, 0⟩
/-- R411: DMAC_CMD START, [0:0], W1P, reset 0. -/
def DMAC_CMD_START : Field := ⟨468, 1, 0⟩
/-- R411: DMAC_STAT WERR, [19:19], W1C, reset 0. -/
def DMAC_STAT_WERR : Field := ⟨469, 1, 0⟩
/-- R411: DMAC_STAT DONEF, [18:18], W1C, reset 0. -/
def DMAC_STAT_DONEF : Field := ⟨470, 1, 0⟩
/-- R411: DMAC_STAT REASON, [11:8], RO, reset 0. -/
def DMAC_STAT_REASON : Field := ⟨471, 4, 0⟩
/-- R411: DMAC_STAT STATE, [2:0], RO, reset 0. -/
def DMAC_STAT_STATE : Field := ⟨472, 3, 0⟩
/-- R411: DMAC_SRC VALUE, [31:0], RW, reset 0. -/
def DMAC_SRC_VALUE : Field := ⟨473, 32, 0⟩
/-- R411: DMAC_DST VALUE, [31:0], RW, reset 0. -/
def DMAC_DST_VALUE : Field := ⟨474, 32, 0⟩
/-- R411: DMAC_COUNT VALUE, [31:0], RW, reset 0. -/
def DMAC_COUNT_VALUE : Field := ⟨475, 32, 0⟩
/-- R411: DMAC_REMAIN VALUE, [31:0], RO, reset 0. -/
def DMAC_REMAIN_VALUE : Field := ⟨476, 32, 0⟩
/-- R411: DMAC_CURSRC VALUE, [31:0], RO, reset 0. -/
def DMAC_CURSRC_VALUE : Field := ⟨477, 32, 0⟩
/-- R411: DMAC_CURDST VALUE, [31:0], RO, reset 0. -/
def DMAC_CURDST_VALUE : Field := ⟨478, 32, 0⟩
/-- R411: DMAC_PACE PIDX, [31:24], RW, reset 0. -/
def DMAC_PACE_PIDX : Field := ⟨479, 8, 0⟩
/-- R411: DMAC_PACE PSEL, [17:16], RW, reset 0. -/
def DMAC_PACE_PSEL : Field := ⟨480, 2, 0⟩
/-- R411: DMAC_PACEMK HIGH, [31:16], RW, reset 0. -/
def DMAC_PACEMK_HIGH : Field := ⟨481, 16, 0⟩
/-- R411: DMAC_PACEMK LOW, [15:0], RW, reset 0. -/
def DMAC_PACEMK_LOW : Field := ⟨482, 16, 0⟩
/-- R411: DMAC_SWLVL LEVEL, [15:0], RO, reset 0. -/
def DMAC_SWLVL_LEVEL : Field := ⟨483, 16, 0⟩
/-- R411: DMAC_WSRC_LO HANDLE, [31:0], RW, reset 0. -/
def DMAC_WSRC_LO_HANDLE : Field := ⟨484, 32, 0⟩
/-- R411: DMAC_WSRC_HI HANDLE, [31:0], RW, reset 0. -/
def DMAC_WSRC_HI_HANDLE : Field := ⟨485, 32, 0⟩
/-- R411: DMAC_WDST_LO HANDLE, [31:0], RW, reset 0. -/
def DMAC_WDST_LO_HANDLE : Field := ⟨486, 32, 0⟩
/-- R411: DMAC_WDST_HI HANDLE, [31:0], RW, reset 0. -/
def DMAC_WDST_HI_HANDLE : Field := ⟨487, 32, 0⟩
/-- R411: CAP_CTL FLUSH, [31:16], RW, reset 0. -/
def CAP_CTL_FLUSH : Field := ⟨488, 16, 0⟩
/-- R411: CAP_CTL THAW, [2:2], W1P, reset 0. -/
def CAP_CTL_THAW : Field := ⟨489, 1, 0⟩
/-- R411: CAP_CTL MODE, [1:1], RW, reset 0. -/
def CAP_CTL_MODE : Field := ⟨490, 1, 0⟩
/-- R411: CAP_CTL EN, [0:0], RW, reset 0. -/
def CAP_CTL_EN : Field := ⟨491, 1, 0⟩
/-- R411: CAP_STAT TRACKED, [26:16], RO, reset 0. -/
def CAP_STAT_TRACKED : Field := ⟨492, 11, 0⟩
/-- R411: CAP_STAT WERR, [15:15], W1C, reset 0. -/
def CAP_STAT_WERR : Field := ⟨493, 1, 0⟩
/-- R411: CAP_STAT FROZEN, [3:3], RO, reset 0. -/
def CAP_STAT_FROZEN : Field := ⟨494, 1, 0⟩
/-- R411: CAP_STAT TRIGGERED, [2:2], RO, reset 0. -/
def CAP_STAT_TRIGGERED : Field := ⟨495, 1, 0⟩
/-- R411: CAP_STAT ARMED, [1:1], RO, reset 0. -/
def CAP_STAT_ARMED : Field := ⟨496, 1, 0⟩
/-- R411: CAP_STAT ACTIVE, [0:0], RO, reset 0. -/
def CAP_STAT_ACTIVE : Field := ⟨497, 1, 0⟩
/-- R411: CAP_RINGPAGES VALUE, [16:0], RW, reset 0. -/
def CAP_RINGPAGES_VALUE : Field := ⟨498, 17, 0⟩
/-- R411: CAP_WRIDX VALUE, [31:0], RO, reset 0. -/
def CAP_WRIDX_VALUE : Field := ⟨499, 32, 0⟩
/-- R411: CAP_RDIDX VALUE, [31:0], RW, reset 0. -/
def CAP_RDIDX_VALUE : Field := ⟨500, 32, 0⟩
/-- R411: CAP_WBADDR_LO VALUE, [31:3], RW, reset 0. -/
def CAP_WBADDR_LO_VALUE : Field := ⟨501, 29, 0⟩
/-- R411: CAP_WBADDR_HI VALUE, [31:0], RW, reset 0. -/
def CAP_WBADDR_HI_VALUE : Field := ⟨502, 32, 0⟩
/-- R411: CAP_WBINT VALUE, [15:0], RW, reset 0. -/
def CAP_WBINT_VALUE : Field := ⟨503, 16, 0⟩
/-- R411: CAP_SNAP ARM, [31:31], W1P, reset 0. -/
def CAP_SNAP_ARM : Field := ⟨504, 1, 0⟩
/-- R411: CAP_SNAP POST, [24:0], RW, reset 0. -/
def CAP_SNAP_POST : Field := ⟨505, 25, 0⟩
/-- R411: CAP_SNAPIDX VALUE, [31:0], RO, reset 0. -/
def CAP_SNAPIDX_VALUE : Field := ⟨506, 32, 0⟩
/-- R411: CAP_SNAPTIME_LO VALUE, [31:0], RO, reset 0. -/
def CAP_SNAPTIME_LO_VALUE : Field := ⟨507, 32, 0⟩
/-- R411: CAP_SNAPTIME_HI VALUE, [31:0], RO, reset 0. -/
def CAP_SNAPTIME_HI_VALUE : Field := ⟨508, 32, 0⟩
/-- R411: CAP_FAULT FLAGS, [6:0], W1C, reset 0. -/
def CAP_FAULT_FLAGS : Field := ⟨509, 7, 0⟩
/-- R411: CAP_FIEN IE, [6:0], RW, reset 0. -/
def CAP_FIEN_IE : Field := ⟨510, 7, 0⟩
/-- R411: CAP_FINFO CODE, [31:24], RO, reset 0. -/
def CAP_FINFO_CODE : Field := ⟨511, 8, 0⟩
/-- R411: CAP_FINFO WHICH, [15:0], RO, reset 0. -/
def CAP_FINFO_WHICH : Field := ⟨512, 16, 0⟩
/-- R411: CAP_FWDDROP COUNT, [31:0], RO, reset 0. -/
def CAP_FWDDROP_COUNT : Field := ⟨513, 32, 0⟩
/-- R411: CAP_OWNDROP COUNT, [31:0], RO, reset 0. -/
def CAP_OWNDROP_COUNT : Field := ⟨514, 32, 0⟩
/-- R411: CAP_S_CFG KIND, [27:24], WL, reset P (0 before the first commit). -/
def CAP_S_CFG_KIND : Field := ⟨515, 4, 0⟩
/-- R411: CAP_S_CFG SOURCE, [21:12], WL, reset P (0 before the first commit). -/
def CAP_S_CFG_SOURCE : Field := ⟨516, 10, 0⟩
/-- R411: CAP_S_CFG ROUTE, [9:8], RO, reset 0. -/
def CAP_S_CFG_ROUTE : Field := ⟨517, 2, 0⟩
/-- R411: CAP_S_CFG VALID, [0:0], RO, reset 0. -/
def CAP_S_CFG_VALID : Field := ⟨518, 1, 0⟩
/-- R411: CAP_S_DIV VALUE, [31:0], WL, reset P (0 before the first commit). -/
def CAP_S_DIV_VALUE : Field := ⟨519, 32, 0⟩
/-- R411: CAP_S_CTL RPOFF, [2:2], W1P, reset 0. -/
def CAP_S_CTL_RPOFF : Field := ⟨520, 1, 0⟩
/-- R411: CAP_S_CTL RPON, [1:1], W1P, reset 0. -/
def CAP_S_CTL_RPON : Field := ⟨521, 1, 0⟩
/-- R411: CAP_S_CTL RUN, [0:0], RW, reset P (0 before the first commit). -/
def CAP_S_CTL_RUN : Field := ⟨522, 1, 0⟩
/-- R411: CAP_S_STAT RPERR, [31:28], RO, reset 0. -/
def CAP_S_STAT_RPERR : Field := ⟨523, 4, 0⟩
/-- R411: CAP_S_STAT RPACT, [27:27], RO, reset 0. -/
def CAP_S_STAT_RPACT : Field := ⟨524, 1, 0⟩
/-- R411: CAP_S_STAT RPPEND, [26:26], RO, reset 0. -/
def CAP_S_STAT_RPPEND : Field := ⟨525, 1, 0⟩
/-- R411: CAP_S_STAT STOPPED, [25:25], RO, reset 0. -/
def CAP_S_STAT_STOPPED : Field := ⟨526, 1, 0⟩
/-- R411: CAP_S_STAT RPWERR, [24:24], W1C, reset 0. -/
def CAP_S_STAT_RPWERR : Field := ⟨527, 1, 0⟩
/-- R411: CAP_S_SEQ COUNT, [31:0], RO, reset 0. -/
def CAP_S_SEQ_COUNT : Field := ⟨528, 32, 0⟩
/-- R411: CAP_S_DROP COUNT, [31:0], RO, reset 0. -/
def CAP_S_DROP_COUNT : Field := ⟨529, 32, 0⟩
/-- R411: CAP_S_RPBASE VALUE, [31:0], RW, reset 0. -/
def CAP_S_RPBASE_VALUE : Field := ⟨530, 32, 0⟩
/-- R411: CAP_S_RPSIZE VALUE, [31:0], RW, reset 0. -/
def CAP_S_RPSIZE_VALUE : Field := ⟨531, 32, 0⟩
/-- R411: CAP_S_RPWR VALUE, [31:0], RW, reset 0. -/
def CAP_S_RPWR_VALUE : Field := ⟨532, 32, 0⟩
/-- R411: CAP_S_RPRD VALUE, [31:0], RO, reset 0. -/
def CAP_S_RPRD_VALUE : Field := ⟨533, 32, 0⟩
/-- R411: CAPPT_LO ADDR, [31:21], RW, reset 0. -/
def CAPPT_LO_ADDR : Field := ⟨534, 11, 0⟩
/-- R411: CAPPT_LO V, [0:0], RW, reset 0. -/
def CAPPT_LO_V : Field := ⟨535, 1, 0⟩
/-- R411: CAPPT_HI ADDR, [31:0], RW, reset 0. -/
def CAPPT_HI_ADDR : Field := ⟨536, 32, 0⟩
/-- R432: PCIE_LINK POLINV, [31:16], RO, reset 0. -/
def PCIE_LINK_POLINV : Field := ⟨537, 16, 0⟩
/-- R432: PCIE_LINK REV, [15:15], RO, reset 0. -/
def PCIE_LINK_REV : Field := ⟨538, 1, 0⟩
/-- R432: PCIE_LINK WIDTH, [10:6], RO, reset 0. -/
def PCIE_LINK_WIDTH : Field := ⟨539, 5, 0⟩
/-- R432: PCIE_LINK SPEED, [5:3], RO, reset 0. -/
def PCIE_LINK_SPEED : Field := ⟨540, 3, 0⟩
/-- R432: PCIE_LINK LSTATE, [2:0], RO, reset 0. -/
def PCIE_LINK_LSTATE : Field := ⟨541, 3, 0⟩
/-- R432: PCIE_FAULT FLAGS, [4:0], W1C, reset 0. -/
def PCIE_FAULT_FLAGS : Field := ⟨542, 5, 0⟩
/-- R432: PCIE_FIEN IE, [4:0], RW, reset 0. -/
def PCIE_FIEN_IE : Field := ⟨543, 5, 0⟩
/-- R432: PCIE_FINFO CODE, [31:24], RO, reset 0. -/
def PCIE_FINFO_CODE : Field := ⟨544, 8, 0⟩
/-- R432: PCIE_FINFO FN, [5:0], RO, reset 0. -/
def PCIE_FINFO_FN : Field := ⟨545, 6, 0⟩
/-- R432: PCIE_SWIRQ GO, [31:31], W1P, reset 0. -/
def PCIE_SWIRQ_GO : Field := ⟨546, 1, 0⟩
/-- R432: PCIE_SWIRQ VECTOR, [12:8], RW, reset 0. -/
def PCIE_SWIRQ_VECTOR : Field := ⟨547, 5, 0⟩
/-- R432: PCIE_SWIRQ FN, [5:0], RW, reset 0. -/
def PCIE_SWIRQ_FN : Field := ⟨548, 6, 0⟩
/-- R432: PCIE_FLR0 FLR, [31:0], W1C, reset 0. -/
def PCIE_FLR0_FLR : Field := ⟨549, 32, 0⟩
/-- R432: PCIE_FLR1 FLR, [31:0], W1C, reset 0. -/
def PCIE_FLR1_FLR : Field := ⟨550, 32, 0⟩
/-- R432: PCIE_ISEL VF, [5:0], RW, reset 0. -/
def PCIE_ISEL_VF : Field := ⟨551, 6, 0⟩
/-- R432: PCIE_ISTAT ACCEPTED, [31:16], RO, reset 0. -/
def PCIE_ISTAT_ACCEPTED : Field := ⟨552, 16, 0⟩
/-- R432: PCIE_ISTAT REFUSED, [15:8], RO, reset 0. -/
def PCIE_ISTAT_REFUSED : Field := ⟨553, 8, 0⟩
/-- R432: PCIE_ISTAT QLEVEL, [7:5], RO, reset 0. -/
def PCIE_ISTAT_QLEVEL : Field := ⟨554, 3, 0⟩
/-- R432: PCIE_ISTAT REASON, [3:0], RO, reset 0. -/
def PCIE_ISTAT_REASON : Field := ⟨555, 4, 0⟩
/-- R432: PCIE_OW_LO BASE, [31:27], RW, reset 0. -/
def PCIE_OW_LO_BASE : Field := ⟨556, 5, 0⟩
/-- R432: PCIE_OW_LO FN, [1:1], RW, reset 0. -/
def PCIE_OW_LO_FN : Field := ⟨557, 1, 0⟩
/-- R432: PCIE_OW_LO V, [0:0], RW, reset 0. -/
def PCIE_OW_LO_V : Field := ⟨558, 1, 0⟩
/-- R432: PCIE_OW_HI BASE, [31:0], RW, reset 0. -/
def PCIE_OW_HI_BASE : Field := ⟨559, 32, 0⟩
/-- R448: B_STAT ALIGNED, [31:31], RO, reset 0. -/
def B_STAT_ALIGNED : Field := ⟨560, 1, 0⟩
/-- R448: B_STAT REF, [30:30], RO, reset 0. -/
def B_STAT_REF : Field := ⟨561, 1, 0⟩
/-- R448: B_STAT NLOCK, [29:29], RO, reset 0. -/
def B_STAT_NLOCK : Field := ⟨562, 1, 0⟩
/-- R448: B_STAT NRING, [26:24], RO, reset 0. -/
def B_STAT_NRING : Field := ⟨563, 3, 0⟩
/-- R448: B_STAT NSEAT, [22:20], RO, reset 0. -/
def B_STAT_NSEAT : Field := ⟨564, 3, 0⟩
/-- R448: B_STAT STATE, [2:0], RO, reset 0. -/
def B_STAT_STATE : Field := ⟨565, 3, 0⟩
/-- R448: B_CTL DOWN, [1:1], RW, reset 0. -/
def B_CTL_DOWN : Field := ⟨566, 1, 0⟩
/-- R448: B_CTL RETRAIN, [0:0], W1P, reset 0. -/
def B_CTL_RETRAIN : Field := ⟨567, 1, 0⟩
/-- R448: B_FAULT FLAGS, [5:0], W1C, reset 0. -/
def B_FAULT_FLAGS : Field := ⟨568, 6, 0⟩
/-- R448: B_FIEN IE, [5:0], RW, reset 0. -/
def B_FIEN_IE : Field := ⟨569, 6, 0⟩
/-- R448: B_FINFO CODE, [31:24], RO, reset 0. -/
def B_FINFO_CODE : Field := ⟨570, 8, 0⟩
/-- R448: B_FINFO DETAIL, [23:16], RO, reset 0. -/
def B_FINFO_DETAIL : Field := ⟨571, 8, 0⟩
/-- R448: B_FINFO EC, [9:0], RO, reset 0. -/
def B_FINFO_EC : Field := ⟨572, 10, 0⟩
/-- R448: B_LANES MAP, [15:8], RO, reset 0. -/
def B_LANES_MAP : Field := ⟨573, 8, 0⟩
/-- R448: B_LANES POLINV, [3:0], RO, reset 0. -/
def B_LANES_POLINV : Field := ⟨574, 4, 0⟩
/-- R448: B_TOFS PS, [31:0], RO, reset 0. -/
def B_TOFS_PS : Field := ⟨575, 32, 0⟩
/-- R448: B_DELAY PS, [31:0], RO, reset 0. -/
def B_DELAY_PS : Field := ⟨576, 32, 0⟩
/-- R448: B_LATE COUNT, [31:0], RO, reset 0. -/
def B_LATE_COUNT : Field := ⟨577, 32, 0⟩
/-- R448: B_CRCERR COUNT, [31:0], RO, reset 0. -/
def B_CRCERR_COUNT : Field := ⟨578, 32, 0⟩
/-- R448: B_FWDLOST COUNT, [31:0], RO, reset 0. -/
def B_FWDLOST_COUNT : Field := ⟨579, 32, 0⟩
/-- R472: PWR_STAT QUIET, [31:31], RO, reset 0. -/
def PWR_STAT_QUIET : Field := ⟨580, 1, 0⟩
/-- R472: PWR_STAT YARDOK, [30:30], RO, reset 0. -/
def PWR_STAT_YARDOK : Field := ⟨581, 1, 0⟩
/-- R472: PWR_STAT CLUSTER, [17:16], RO, reset 0. -/
def PWR_STAT_CLUSTER : Field := ⟨582, 2, 0⟩
/-- R472: PWR_STAT TILE, [15:0], RO, reset 0. -/
def PWR_STAT_TILE : Field := ⟨583, 16, 0⟩
/-- R472: PWR_CTL YARDEN, [18:18], RW, reset 0. -/
def PWR_CTL_YARDEN : Field := ⟨584, 1, 0⟩
/-- R472: PWR_CTL CBED, [17:17], RW, reset 1. -/
def PWR_CTL_CBED : Field := ⟨585, 1, 1⟩
/-- R472: PWR_CTL CBROWSE, [16:16], RW, reset 1. -/
def PWR_CTL_CBROWSE : Field := ⟨586, 1, 1⟩
/-- R472: PWR_CTL TBED, [15:8], RW, reset 0xFF. -/
def PWR_CTL_TBED : Field := ⟨587, 8, 255⟩
/-- R472: PWR_CTL TBROWSE, [7:0], RW, reset 0xFF. -/
def PWR_CTL_TBROWSE : Field := ⟨588, 8, 255⟩
/-- R472: PWR_GUARD0 BED, [31:16], RW, reset 0x00A0. -/
def PWR_GUARD0_BED : Field := ⟨589, 16, 160⟩
/-- R472: PWR_GUARD0 BROWSE, [15:0], RW, reset 0x0010. -/
def PWR_GUARD0_BROWSE : Field := ⟨590, 16, 16⟩
/-- R472: PWR_GUARD1 YARD, [15:0], RW, reset 0x01F4. -/
def PWR_GUARD1_YARD : Field := ⟨591, 16, 500⟩
/-- R472: PWR_QUIET_LO END, [31:0], RW, reset 0. -/
def PWR_QUIET_LO_END : Field := ⟨592, 32, 0⟩
/-- R472: PWR_QUIET_HI END, [31:0], RW, reset 0. -/
def PWR_QUIET_HI_END : Field := ⟨593, 32, 0⟩
/-- R472: PWR_WAKE YARDS, [31:24], RO, reset 0. -/
def PWR_WAKE_YARDS : Field := ⟨594, 8, 0⟩
/-- R472: PWR_WAKE LAST, [23:20], RO, reset 0. -/
def PWR_WAKE_LAST : Field := ⟨595, 4, 0⟩
/-- R472: PWR_WAKE WPIN, [3:3], RW, reset 1. -/
def PWR_WAKE_WPIN : Field := ⟨596, 1, 1⟩
/-- R472: PWR_WAKE WB1, [2:2], RW, reset 1. -/
def PWR_WAKE_WB1 : Field := ⟨597, 1, 1⟩
/-- R472: PWR_WAKE WB0, [1:1], RW, reset 1. -/
def PWR_WAKE_WB0 : Field := ⟨598, 1, 1⟩
/-- R472: PWR_WAKE WPCIE, [0:0], RW, reset 1. -/
def PWR_WAKE_WPCIE : Field := ⟨599, 1, 1⟩
/-- R472: PWR_VIN IIN, [31:16], RO, reset 0. -/
def PWR_VIN_IIN : Field := ⟨600, 16, 0⟩
/-- R472: PWR_VIN VIN, [15:0], RO, reset 0. -/
def PWR_VIN_VIN : Field := ⟨601, 16, 0⟩
/-- R472: PWR_PIN PIN, [23:0], RO, reset 0. -/
def PWR_PIN_PIN : Field := ⟨602, 24, 0⟩
/-- R472: PWR_ENERGY_LO ENERGY, [31:0], RL, reset 0. -/
def PWR_ENERGY_LO_ENERGY : Field := ⟨603, 32, 0⟩
/-- R472: PWR_ENERGY_HI ENERGY, [31:0], RO, reset 0. -/
def PWR_ENERGY_HI_ENERGY : Field := ⟨604, 32, 0⟩
/-- R472: PWR_AUXCTL YARDOFF, [4:4], RW, reset 0. -/
def PWR_AUXCTL_YARDOFF : Field := ⟨605, 1, 0⟩
/-- R472: PWR_AUXCTL STOP5, [3:3], RW, reset 1. -/
def PWR_AUXCTL_STOP5 : Field := ⟨606, 1, 1⟩
/-- R472: PWR_AUXCTL STOP12, [2:2], RW, reset 1. -/
def PWR_AUXCTL_STOP12 : Field := ⟨607, 1, 1⟩
/-- R472: PWR_AUXCTL AUX5EN, [1:1], RW, reset 1. -/
def PWR_AUXCTL_AUX5EN : Field := ⟨608, 1, 1⟩
/-- R472: PWR_AUXCTL AUX12EN, [0:0], RW, reset 1. -/
def PWR_AUXCTL_AUX12EN : Field := ⟨609, 1, 1⟩
/-- R472: PWR_AUXSTAT I12, [31:20], RO, reset 0. -/
def PWR_AUXSTAT_I12 : Field := ⟨610, 12, 0⟩
/-- R472: PWR_AUXSTAT I5, [19:8], RO, reset 0. -/
def PWR_AUXSTAT_I5 : Field := ⟨611, 12, 0⟩
/-- R472: PWR_AUXSTAT WERR, [4:4], W1C, reset 0. -/
def PWR_AUXSTAT_WERR : Field := ⟨612, 1, 0⟩
/-- R472: PWR_AUXSTAT HIC5, [3:3], RO, reset 0. -/
def PWR_AUXSTAT_HIC5 : Field := ⟨613, 1, 0⟩
/-- R472: PWR_AUXSTAT HIC12, [2:2], RO, reset 0. -/
def PWR_AUXSTAT_HIC12 : Field := ⟨614, 1, 0⟩
/-- R472: PWR_AUXSTAT PG5, [1:1], RO, reset 0. -/
def PWR_AUXSTAT_PG5 : Field := ⟨615, 1, 0⟩
/-- R472: PWR_AUXSTAT PG12, [0:0], RO, reset 0. -/
def PWR_AUXSTAT_PG12 : Field := ⟨616, 1, 0⟩
/-- R472: PWR_FAULT FLAGS, [8:0], W1C, reset 0. -/
def PWR_FAULT_FLAGS : Field := ⟨617, 9, 0⟩
/-- R472: PWR_FIEN IE, [8:0], RW, reset 0. -/
def PWR_FIEN_IE : Field := ⟨618, 9, 0⟩
/-- R472: PWR_FINFO CODE, [31:24], RO, reset 0. -/
def PWR_FINFO_CODE : Field := ⟨619, 8, 0⟩
/-- R472: PWR_FINFO VALUE, [15:0], RO, reset 0. -/
def PWR_FINFO_VALUE : Field := ⟨620, 16, 0⟩
/-- R484: FRST_CMD GO, [31:31], W1P, reset 0. -/
def FRST_CMD_GO : Field := ⟨621, 1, 0⟩
/-- R484: FRST_CMD ACTION, [30:28], RW, reset 0. -/
def FRST_CMD_ACTION : Field := ⟨622, 3, 0⟩
/-- R484: FRST_CMD FUNC, [8:0], RW, reset 0. -/
def FRST_CMD_FUNC : Field := ⟨623, 9, 0⟩
/-- R484: FRST_STAT BUSY, [31:31], RO, reset 0. -/
def FRST_STAT_BUSY : Field := ⟨624, 1, 0⟩
/-- R484: FRST_STAT ERR, [30:30], W1C, reset 0. -/
def FRST_STAT_ERR : Field := ⟨625, 1, 0⟩
/-- R484: FRST_STAT LASTERR, [27:24], RO, reset 0. -/
def FRST_STAT_LASTERR : Field := ⟨626, 4, 0⟩
/-- R484: FRST_STAT INIT, [23:16], RO, reset 0. -/
def FRST_STAT_INIT : Field := ⟨627, 8, 0⟩
/-- R484: FRST_STAT FUNC, [8:0], RO, reset 0. -/
def FRST_STAT_FUNC : Field := ⟨628, 9, 0⟩
/-- R484: FRST_DEVRST KEY, [31:0], RW, reset 0. -/
def FRST_DEVRST_KEY : Field := ⟨629, 32, 0⟩
/-- R484: FRST_CAUSE COUNT, [31:24], RO, reset 0. -/
def FRST_CAUSE_COUNT : Field := ⟨630, 8, 0⟩
/-- R484: FRST_CAUSE CAUSE, [15:8], RO, reset 0. -/
def FRST_CAUSE_CAUSE : Field := ⟨631, 8, 0⟩
/-- R484: FRST_CAUSE LEVEL, [1:0], RO, reset 1. -/
def FRST_CAUSE_LEVEL : Field := ⟨632, 2, 1⟩
/-- R484: FRST_CTL CLKRET, [0:0], W1P, reset 0. -/
def FRST_CTL_CLKRET : Field := ⟨633, 1, 0⟩
/-- R484: FRST_SYSSTAT GATED, [2:2], RO, reset 0. -/
def FRST_SYSSTAT_GATED : Field := ⟨634, 1, 0⟩
/-- R484: FRST_SYSSTAT FALLBACK, [1:1], RO, reset 0. -/
def FRST_SYSSTAT_FALLBACK : Field := ⟨635, 1, 0⟩
/-- R484: FRST_SYSSTAT REFOK, [0:0], RO, reset 0. -/
def FRST_SYSSTAT_REFOK : Field := ⟨636, 1, 0⟩
/-- R484: FRST_SYSFAULT FLAGS, [3:0], W1C, reset 0. -/
def FRST_SYSFAULT_FLAGS : Field := ⟨637, 4, 0⟩
/-- R484: FRST_SYSFIEN IE, [3:0], RW, reset 0. -/
def FRST_SYSFIEN_IE : Field := ⟨638, 4, 0⟩
/-- R484: FRST_HELD HELD, [31:0], RO, reset 0. -/
def FRST_HELD_HELD : Field := ⟨639, 32, 0⟩
/-- R506: NVM_STAT BUSY, [31:31], RO, reset 0. -/
def NVM_STAT_BUSY : Field := ⟨640, 1, 0⟩
/-- R506: NVM_STAT OP, [30:28], RO, reset 0. -/
def NVM_STAT_OP : Field := ⟨641, 3, 0⟩
/-- R506: NVM_STAT DONE, [27:27], W1C, reset 0. -/
def NVM_STAT_DONE : Field := ⟨642, 1, 0⟩
/-- R506: NVM_STAT DONEIE, [26:26], RW, reset 0. -/
def NVM_STAT_DONEIE : Field := ⟨643, 1, 0⟩
/-- R506: NVM_STAT PWERR, [25:25], W1C, reset 0. -/
def NVM_STAT_PWERR : Field := ⟨644, 1, 0⟩
/-- R506: NVM_CMD GO, [31:31], W1P, reset 0. -/
def NVM_CMD_GO : Field := ⟨645, 1, 0⟩
/-- R506: NVM_CMD OP, [30:28], RW, reset 0. -/
def NVM_CMD_OP : Field := ⟨646, 3, 0⟩
/-- R506: NVM_CMD COUNT, [21:16], RW, reset 0. -/
def NVM_CMD_COUNT : Field := ⟨647, 6, 0⟩
/-- R506: NVM_ARG ARG, [24:0], RW, reset 0. -/
def NVM_ARG_ARG : Field := ⟨648, 25, 0⟩
/-- R506: NVM_RESULT INIT, [23:16], RO, reset 0. -/
def NVM_RESULT_INIT : Field := ⟨649, 8, 0⟩
/-- R506: NVM_RESULT OP, [6:4], RO, reset 0. -/
def NVM_RESULT_OP : Field := ⟨650, 3, 0⟩
/-- R506: NVM_RESULT CODE, [3:0], RO, reset 0. -/
def NVM_RESULT_CODE : Field := ⟨651, 4, 0⟩
/-- R506: NVM_CLAIM CLAIM, [31:31], W1P, reset 0. -/
def NVM_CLAIM_CLAIM : Field := ⟨652, 1, 0⟩
/-- R506: NVM_CLAIM RELEASE, [30:30], W1P, reset 0. -/
def NVM_CLAIM_RELEASE : Field := ⟨653, 1, 0⟩
/-- R506: NVM_CLAIM HELD, [8:8], RO, reset 0. -/
def NVM_CLAIM_HELD : Field := ⟨654, 1, 0⟩
/-- R506: NVM_CLAIM OWNER, [7:0], RO, reset 0. -/
def NVM_CLAIM_OWNER : Field := ⟨655, 8, 0⟩
/-- R506: NVM_SETINFO IMAGE, [31:30], RO, reset 0. -/
def NVM_SETINFO_IMAGE : Field := ⟨656, 2, 0⟩
/-- R506: NVM_SETINFO FREE, [28:16], RO, reset 0. -/
def NVM_SETINFO_FREE : Field := ⟨657, 13, 0⟩
/-- R506: NVM_SETINFO SKIP, [15:0], RO, reset 0. -/
def NVM_SETINFO_SKIP : Field := ⟨658, 16, 0⟩
/-- R506: NVM_SETGEN VALUE, [31:0], RO, reset 0. -/
def NVM_SETGEN_VALUE : Field := ⟨659, 32, 0⟩
/-- R506: NVM_STRAP STRAPLOCK, [16:16], RO, reset 0. -/
def NVM_STRAP_STRAPLOCK : Field := ⟨660, 1, 0⟩
/-- R506: NVM_STRAP SPLITOPT, [15:8], RO, reset 0. -/
def NVM_STRAP_SPLITOPT : Field := ⟨661, 8, 0⟩
/-- R506: NVM_STRAP BADMODE, [4:4], RO, reset 0. -/
def NVM_STRAP_BADMODE : Field := ⟨662, 1, 0⟩
/-- R506: NVM_STRAP BOOTMODE, [2:1], RO, reset 0. -/
def NVM_STRAP_BOOTMODE : Field := ⟨663, 2, 0⟩
/-- R506: NVM_STRAP SPLITEN, [0:0], RO, reset 0. -/
def NVM_STRAP_SPLITEN : Field := ⟨664, 1, 0⟩
/-- R506: NVM_PWSLOT SLOT, [1:0], RW, reset 0. -/
def NVM_PWSLOT_SLOT : Field := ⟨665, 2, 0⟩
/-- R506: NVM_FAULT FLAGS, [3:0], W1C, reset 0. -/
def NVM_FAULT_FLAGS : Field := ⟨666, 4, 0⟩
/-- R506: NVM_FIEN IE, [3:0], RW, reset 0. -/
def NVM_FIEN_IE : Field := ⟨667, 4, 0⟩
/-- R506: NVM_ECCLOG_ADDR ADDR, [31:0], RO, reset 0. -/
def NVM_ECCLOG_ADDR_ADDR : Field := ⟨668, 32, 0⟩
/-- R506: NVM_ECCLOG_INFO COUNT, [31:24], RO, reset 0. -/
def NVM_ECCLOG_INFO_COUNT : Field := ⟨669, 8, 0⟩
/-- R506: NVM_ECCLOG_INFO VALID, [23:23], W1C, reset 0. -/
def NVM_ECCLOG_INFO_VALID : Field := ⟨670, 1, 0⟩
/-- R506: NVM_ECCLOG_INFO SCRUB, [22:22], RO, reset 0. -/
def NVM_ECCLOG_INFO_SCRUB : Field := ⟨671, 1, 0⟩
/-- R506: NVM_ECCLOG_INFO CLASS, [21:19], RO, reset 0. -/
def NVM_ECCLOG_INFO_CLASS : Field := ⟨672, 3, 0⟩
/-- R506: NVM_ECCLOG_INFO INST, [7:0], RO, reset 0. -/
def NVM_ECCLOG_INFO_INST : Field := ⟨673, 8, 0⟩
/-- R506: NVM_ECCCNT UNCORR, [31:16], RO, reset 0. -/
def NVM_ECCCNT_UNCORR : Field := ⟨674, 16, 0⟩
/-- R506: NVM_ECCCNT CORR, [15:0], RO, reset 0. -/
def NVM_ECCCNT_CORR : Field := ⟨675, 16, 0⟩
/-- R506: NVM_STBUF DATA, [31:0], RW, reset 0. -/
def NVM_STBUF_DATA : Field := ⟨676, 32, 0⟩
/-- R520: DBG_CTL DAPEN, [0:0], RW, reset 0. -/
def DBG_CTL_DAPEN : Field := ⟨677, 1, 0⟩
/-- R520: DBG_STAT JREF, [0:0], W1C, reset 0. -/
def DBG_STAT_JREF : Field := ⟨678, 1, 0⟩
/-- R520: DBG_TCTL DEST, [16:16], RW, reset 0. -/
def DBG_TCTL_DEST : Field := ⟨679, 1, 0⟩
/-- R520: DBG_TCTL EN, [15:0], RW, reset 0. -/
def DBG_TCTL_EN : Field := ⟨680, 16, 0⟩
/-- R520: DBG_TBASE VALUE, [31:0], RW, reset 0. -/
def DBG_TBASE_VALUE : Field := ⟨681, 32, 0⟩
/-- R520: DBG_TSIZE VALUE, [31:0], RW, reset 0. -/
def DBG_TSIZE_VALUE : Field := ⟨682, 32, 0⟩
/-- R520: DBG_TWR VALUE, [31:0], RO, reset 0. -/
def DBG_TWR_VALUE : Field := ⟨683, 32, 0⟩
/-- R520: DBG_TDROP VALUE, [31:0], RO, reset 0. -/
def DBG_TDROP_VALUE : Field := ⟨684, 32, 0⟩
/-- R520: DBG_LCTL DETACH, [31:31], W1P, reset 0. -/
def DBG_LCTL_DETACH : Field := ⟨685, 1, 0⟩
/-- R520: DBG_LCTL ATTACH, [30:30], W1P, reset 0. -/
def DBG_LCTL_ATTACH : Field := ⟨686, 1, 0⟩
/-- R520: DBG_LCTL DISPATCH, [29:29], W1P, reset 0. -/
def DBG_LCTL_DISPATCH : Field := ⟨687, 1, 0⟩
/-- R520: DBG_LCTL STEP, [28:28], W1P, reset 0. -/
def DBG_LCTL_STEP : Field := ⟨688, 1, 0⟩
/-- R520: DBG_LCTL CONT, [27:27], W1P, reset 0. -/
def DBG_LCTL_CONT : Field := ⟨689, 1, 0⟩
/-- R520: DBG_LCTL FB, [26:26], RW, reset 0. -/
def DBG_LCTL_FB : Field := ⟨690, 1, 0⟩
/-- R520: DBG_LCTL BPEN, [25:25], RW, reset 0. -/
def DBG_LCTL_BPEN : Field := ⟨691, 1, 0⟩
/-- R520: DBG_LCTL SLOT, [24:22], RW, reset 0. -/
def DBG_LCTL_SLOT : Field := ⟨692, 3, 0⟩
/-- R520: DBG_LCTL LE, [21:16], RW, reset 0. -/
def DBG_LCTL_LE : Field := ⟨693, 6, 0⟩
/-- R520: DBG_LCTL BPADDR, [11:0], RW, reset 0. -/
def DBG_LCTL_BPADDR : Field := ⟨694, 12, 0⟩
/-- R520: DBG_LSTAT DETACHED, [31:31], RO, reset 0. -/
def DBG_LSTAT_DETACHED : Field := ⟨695, 1, 0⟩
/-- R520: DBG_LSTAT INRUN, [30:30], RO, reset 0. -/
def DBG_LSTAT_INRUN : Field := ⟨696, 1, 0⟩
/-- R520: DBG_LSTAT BPHIT, [29:29], RO, reset 0. -/
def DBG_LSTAT_BPHIT : Field := ⟨697, 1, 0⟩
/-- R520: DBG_LSTAT WERR, [28:28], W1C, reset 0. -/
def DBG_LSTAT_WERR : Field := ⟨698, 1, 0⟩
/-- R520: DBG_LSTAT FCODE, [23:16], RO, reset 0. -/
def DBG_LSTAT_FCODE : Field := ⟨699, 8, 0⟩
/-- R520: DBG_LSTAT ADDR, [11:0], RO, reset 0. -/
def DBG_LSTAT_ADDR : Field := ⟨700, 12, 0⟩
/-- R520: DBG_LRSEL SEL, [5:0], RW, reset 0. -/
def DBG_LRSEL_SEL : Field := ⟨701, 6, 0⟩
/-- R520: DBG_LRDATA VALUE, [31:0], RO, reset 0. -/
def DBG_LRDATA_VALUE : Field := ⟨702, 32, 0⟩
/-- R520: DBG_C_CTL HALTRST, [5:5], RW, reset 0. -/
def DBG_C_CTL_HALTRST : Field := ⟨703, 1, 0⟩
/-- R520: DBG_C_CTL MASKINT, [4:4], RW, reset 0. -/
def DBG_C_CTL_MASKINT : Field := ⟨704, 1, 0⟩
/-- R520: DBG_C_CTL BRKCLAIM, [3:3], RW, reset 0. -/
def DBG_C_CTL_BRKCLAIM : Field := ⟨705, 1, 0⟩
/-- R520: DBG_C_CTL RESUME, [2:2], W1P, reset 0. -/
def DBG_C_CTL_RESUME : Field := ⟨706, 1, 0⟩
/-- R520: DBG_C_CTL STEP, [1:1], W1P, reset 0. -/
def DBG_C_CTL_STEP : Field := ⟨707, 1, 0⟩
/-- R520: DBG_C_CTL HALT, [0:0], W1P, reset 0. -/
def DBG_C_CTL_HALT : Field := ⟨708, 1, 0⟩
/-- R520: DBG_C_STAT WERR, [5:5], W1C, reset 0. -/
def DBG_C_STAT_WERR : Field := ⟨709, 1, 0⟩
/-- R520: DBG_C_STAT HALTED, [4:4], RO, reset 0. -/
def DBG_C_STAT_HALTED : Field := ⟨710, 1, 0⟩
/-- R520: DBG_C_STAT CAUSE, [2:0], RO, reset 0. -/
def DBG_C_STAT_CAUSE : Field := ⟨711, 3, 0⟩
/-- R520: DBG_C_RSEL SEL, [9:0], RW, reset 0. -/
def DBG_C_RSEL_SEL : Field := ⟨712, 10, 0⟩
/-- R520: DBG_C_RDATA VALUE, [31:0], RW, reset 0. -/
def DBG_C_RDATA_VALUE : Field := ⟨713, 32, 0⟩
/-- R520: DBG_C_BP EN, [31:31], RW, reset 0. -/
def DBG_C_BP_EN : Field := ⟨714, 1, 0⟩
/-- R520: DBG_C_BP ADDR, [17:0], RW, reset 0. -/
def DBG_C_BP_ADDR : Field := ⟨715, 18, 0⟩
/-- R533: PIN_GPIO_IN IN, [31:0], RO, reset 0. -/
def PIN_GPIO_IN_IN : Field := ⟨716, 32, 0⟩
/-- R533: PIN_GPIO_OUT OUT, [31:0], RW, reset 0. -/
def PIN_GPIO_OUT_OUT : Field := ⟨717, 32, 0⟩
/-- R533: PIN_GPIO_OE OE, [31:0], RW, reset 0. -/
def PIN_GPIO_OE_OE : Field := ⟨718, 32, 0⟩
/-- R533: PIN_TPIN_IN IN, [15:0], RO, reset 0. -/
def PIN_TPIN_IN_IN : Field := ⟨719, 16, 0⟩
/-- R533: PIN_MISC WAKE, [2:2], RO, reset 0. -/
def PIN_MISC_WAKE : Field := ⟨720, 1, 0⟩
/-- R533: PIN_MISC CLKREQ, [1:1], RO, reset 0. -/
def PIN_MISC_CLKREQ : Field := ⟨721, 1, 0⟩
/-- R533: PIN_MISC PERST, [0:0], RO, reset 0. -/
def PIN_MISC_PERST : Field := ⟨722, 1, 0⟩
/-- R533: PIN_EOGRP EVER, [15:8], W1C, reset 0. -/
def PIN_EOGRP_EVER : Field := ⟨723, 8, 0⟩
/-- R533: PIN_EOGRP CUT, [7:0], RO, reset 0. -/
def PIN_EOGRP_CUT : Field := ⟨724, 8, 0⟩
/-- R533: PIN_VIOSTAT G, [17:16], RO, reset 0. -/
def PIN_VIOSTAT_G : Field := ⟨725, 2, 0⟩
/-- R533: PIN_VIOSTAT E, [15:0], RO, reset 0. -/
def PIN_VIOSTAT_E : Field := ⟨726, 16, 0⟩
/-- R533: PIN_CFG OPT, [15:8], WL, reset P (0 before the first commit). -/
def PIN_CFG_OPT : Field := ⟨727, 8, 0⟩
/-- R533: PIN_CFG FUNC, [7:0], WL, reset P (0 before the first commit). -/
def PIN_CFG_FUNC : Field := ⟨728, 8, 0⟩
/-- R151: LES_ECC SCORR, [31:16], RO, reset 0. -/
def LES_ECC_SCORR : Field := ⟨729, 16, 0⟩
/-- R151: LES_ECC DCORR, [15:0], RO, reset 0. -/
def LES_ECC_DCORR : Field := ⟨730, 16, 0⟩
/-- R96: MODS_TRIM GAIN, [31:16], RO, reset 0. -/
def MODS_TRIM_GAIN : Field := ⟨731, 16, 0⟩
/-- R96: MODS_TRIM OFFSET, [15:0], RO, reset 0. -/
def MODS_TRIM_OFFSET : Field := ⟨732, 16, 0⟩

end F

open F

/-- The registers of block SYS. -/
def regsSYS : List RegRow :=
  [
  ⟨0, 1, 0, [⟨SYS_ID_PART, 16, .ro⟩, ⟨SYS_ID_STEP, 8, .ro⟩, ⟨SYS_ID_PFMT, 0, .ro⟩]⟩,
  ⟨4, 1, 0, [⟨SYS_CFG_SEAT, 9, .ro⟩, ⟨SYS_CFG_FOLLOWER, 8, .ro⟩, ⟨SYS_CFG_SPLIT, 0, .ro⟩]⟩,
  ⟨8, 1, 0, [⟨SYS_CLKSTAT_KPLL_UNLOCK, 10, .w1c⟩, ⟨SYS_CLKSTAT_CPLL_UNLOCK, 9, .w1c⟩, ⟨SYS_CLKSTAT_XTAL_LOST, 8, .w1c⟩, ⟨SYS_CLKSTAT_AON_LOCKED, 5, .ro⟩, ⟨SYS_CLKSTAT_SSC, 4, .ro⟩, ⟨SYS_CLKSTAT_CREF, 2, .ro⟩, ⟨SYS_CLKSTAT_KPLL_LOCK, 1, .ro⟩, ⟨SYS_CLKSTAT_CPLL_LOCK, 0, .ro⟩]⟩,
  ⟨16, 1, 0, [⟨SYS_ADDRERR_ADDR_ADDR, 0, .ro⟩]⟩,
  ⟨20, 1, 0, [⟨SYS_ADDRERR_INFO_COUNT, 16, .ro⟩, ⟨SYS_ADDRERR_INFO_VALID, 15, .w1c⟩, ⟨SYS_ADDRERR_INFO_KIND, 8, .ro⟩, ⟨SYS_ADDRERR_INFO_INIT, 0, .ro⟩]⟩
  ]

/-- The registers of block PRK. -/
def regsPRK : List RegRow :=
  [
  ⟨0, 1, 0, [⟨PRK_CMD_SLOT, 8, .rw⟩, ⟨PRK_CMD_SVNUP, 6, .w1p⟩, ⟨PRK_CMD_ABORT, 5, .w1p⟩, ⟨PRK_CMD_ERASE, 4, .w1p⟩, ⟨PRK_CMD_ACTIVATE, 3, .w1p⟩, ⟨PRK_CMD_PATCH, 2, .w1p⟩, ⟨PRK_CMD_COMMIT, 1, .w1p⟩, ⟨PRK_CMD_VERIFY, 0, .w1p⟩]⟩,
  ⟨4, 1, 0, [⟨PRK_STATE_LOCKED, 16, .ro⟩, ⟨PRK_STATE_SETDEF, 15, .ro⟩, ⟨PRK_STATE_FALLBACK, 14, .ro⟩, ⟨PRK_STATE_SOURCE, 12, .ro⟩, ⟨PRK_STATE_ACTVALID, 10, .ro⟩, ⟨PRK_STATE_ACTIVE, 8, .ro⟩, ⟨PRK_STATE_OP, 4, .ro⟩, ⟨PRK_STATE_STRUCT, 0, .ro⟩]⟩,
  ⟨8, 1, 0, [⟨PRK_STATUS_ERR, 29, .w1c⟩, ⟨PRK_STATUS_DONE, 28, .w1c⟩, ⟨PRK_STATUS_RECORD, 16, .ro⟩, ⟨PRK_STATUS_SECT, 8, .ro⟩, ⟨PRK_STATUS_CODE, 0, .ro⟩]⟩,
  ⟨12, 1, 0, [⟨PRK_ERROFS_OFS, 0, .ro⟩]⟩,
  ⟨16, 1, 0, [⟨PRK_SERIAL_SERIAL, 0, .ro⟩]⟩,
  ⟨20, 1, 0, [⟨PRK_PSERIAL_SERIAL, 0, .ro⟩]⟩,
  ⟨24, 1, 0, [⟨PRK_IEN_LOCK_IE, 2, .rw⟩, ⟨PRK_IEN_ERR_IE, 1, .rw⟩, ⟨PRK_IEN_DONE_IE, 0, .rw⟩]⟩,
  ⟨32, 3, 8, [⟨PRK_SLOT_INFO_FALLBACK, 5, .ro⟩, ⟨PRK_SLOT_INFO_ACTIVE, 4, .ro⟩, ⟨PRK_SLOT_INFO_CONTENT, 0, .ro⟩]⟩,
  ⟨36, 3, 8, [⟨PRK_SLOT_SERIAL_SERIAL, 0, .ro⟩]⟩,
  ⟨64, 1, 0, [⟨PRK_LOCKERR_ADDR_ADDR, 0, .ro⟩]⟩,
  ⟨68, 1, 0, [⟨PRK_LOCKERR_INFO_COUNT, 16, .ro⟩, ⟨PRK_LOCKERR_INFO_VALID, 15, .w1c⟩, ⟨PRK_LOCKERR_INFO_INIT, 0, .ro⟩]⟩,
  ⟨72, 1, 0, [⟨PRK_KEYSTAT_SVNMIN, 8, .ro⟩, ⟨PRK_KEYSTAT_REVOKED, 4, .ro⟩, ⟨PRK_KEYSTAT_KEYVALID, 0, .ro⟩]⟩,
  ⟨76, 1, 0, [⟨PRK_ERRREC_RECORD, 0, .ro⟩]⟩
  ]

/-- The registers of block MOD. -/
def regsMOD : List RegRow :=
  [
  ⟨0, 1, 0, [⟨MOD_CFG_D, 16, .wl⟩, ⟨MOD_CFG_RATE, 8, .wl⟩, ⟨MOD_CFG_K, 4, .wl⟩, ⟨MOD_CFG_FIR, 2, .wl⟩, ⟨MOD_CFG_ILV, 1, .wl⟩, ⟨MOD_CFG_EN, 0, .wl⟩]⟩,
  ⟨4, 1, 0, [⟨MOD_CTL_CMEN, 1, .rw⟩, ⟨MOD_CTL_OWEN, 0, .rw⟩]⟩,
  ⟨8, 1, 0, [⟨MOD_WIN_HYST, 28, .rw⟩, ⟨MOD_WIN_HI, 16, .rw⟩, ⟨MOD_WIN_LO, 0, .rw⟩]⟩,
  ⟨12, 1, 0, [⟨MOD_CMWIN_CMHI, 16, .rw⟩, ⟨MOD_CMWIN_CMLO, 0, .rw⟩]⟩,
  ⟨16, 1, 0, [⟨MOD_STAT_SWAP, 8, .ro⟩, ⟨MOD_STAT_UNIT, 7, .ro⟩, ⟨MOD_STAT_OVL, 6, .ro⟩, ⟨MOD_STAT_CMBAD, 5, .ro⟩, ⟨MOD_STAT_OPEN, 4, .ro⟩, ⟨MOD_STAT_CMPLO, 3, .ro⟩, ⟨MOD_STAT_CMPHI, 2, .ro⟩, ⟨MOD_STAT_SETTLED, 0, .ro⟩]⟩,
  ⟨20, 1, 0, [⟨MOD_SAMPLE_SEQ, 26, .ro⟩, ⟨MOD_SAMPLE_QUAL, 24, .ro⟩, ⟨MOD_SAMPLE_VALUE, 0, .ro⟩]⟩,
  ⟨24, 1, 0, [⟨MOD_SCOUNT_COUNT, 0, .ro⟩]⟩,
  ⟨28, 1, 0, [⟨MOD_FAULT_FLAGS, 0, .w1c⟩]⟩,
  ⟨32, 1, 0, [⟨MOD_FIEN_IE, 0, .rw⟩]⟩,
  ⟨36, 1, 0, [⟨MOD_TRIM_GAIN, 16, .ro⟩, ⟨MOD_TRIM_OFFSET, 0, .ro⟩]⟩,
  ⟨40, 1, 0, [⟨MOD_SWAP_CANCEL, 2, .w1p⟩, ⟨MOD_SWAP_REPLACE, 1, .w1p⟩, ⟨MOD_SWAP_SWAP, 0, .w1p⟩]⟩,
  ⟨44, 1, 0, [⟨MOD_CMV_CM, 0, .ro⟩]⟩,
  ⟨64, 8, 4, [⟨MOD_FIR_TAPB, 16, .wl⟩, ⟨MOD_FIR_TAPA, 0, .wl⟩]⟩
  ]

/-- The registers of block MODS. -/
def regsMODS : List RegRow :=
  [
  ⟨16, 1, 0, [⟨MODS_STAT_FAILED, 11, .ro⟩, ⟨MODS_STAT_PHASE, 8, .ro⟩, ⟨MODS_STAT_BUSY, 7, .ro⟩, ⟨MODS_STAT_ROLE, 0, .ro⟩]⟩,
  ⟨36, 1, 0, [⟨MODS_TRIM_GAIN, 16, .ro⟩, ⟨MODS_TRIM_OFFSET, 0, .ro⟩]⟩
  ]

/-- The registers of block TILE. -/
def regsTILE : List RegRow :=
  [
  ⟨0, 1, 0, [⟨TILE_SWAPSTAT_LASTMOD, 24, .ro⟩, ⟨TILE_SWAPSTAT_LASTCODE, 16, .ro⟩, ⟨TILE_SWAPSTAT_NOSPARE, 12, .ro⟩, ⟨TILE_SWAPSTAT_ACTIVE, 11, .ro⟩, ⟨TILE_SWAPSTAT_CURRENT, 8, .ro⟩, ⟨TILE_SWAPSTAT_QDEPTH, 0, .ro⟩]⟩,
  ⟨4, 1, 0, [⟨TILE_SWAPLIM_LIMIT, 0, .rw⟩]⟩,
  ⟨8, 1, 0, [⟨TILE_CAL_AUTO, 8, .rw⟩, ⟨TILE_CAL_MC, 0, .rw⟩]⟩
  ]

/-- The registers of block MC. -/
def regsMC : List RegRow :=
  [
  ⟨0, 1, 0, [⟨MC_CFG_MODE, 16, .wl⟩, ⟨MC_CFG_MASK, 0, .wl⟩]⟩,
  ⟨4, 1, 0, [⟨MC_PERIOD_PERIOD, 0, .wl⟩]⟩,
  ⟨8, 1, 0, [⟨MC_CTL_XCEN, 2, .rw⟩, ⟨MC_CTL_ONE, 1, .w1p⟩, ⟨MC_CTL_RUN, 0, .rw⟩]⟩,
  ⟨12, 1, 0, [⟨MC_STAT_LEVEL, 16, .ro⟩, ⟨MC_STAT_CUR, 12, .ro⟩, ⟨MC_STAT_OVR, 5, .w1c⟩, ⟨MC_STAT_NOSYNC, 4, .ro⟩, ⟨MC_STAT_CALBUSY, 3, .ro⟩, ⟨MC_STAT_XCBUSY, 2, .ro⟩, ⟨MC_STAT_INSET, 1, .ro⟩, ⟨MC_STAT_SCANNING, 0, .ro⟩]⟩,
  ⟨16, 8, 4, [⟨MC_SEL_SELB, 16, .wl⟩, ⟨MC_SEL_SELA, 0, .wl⟩]⟩,
  ⟨48, 1, 0, [⟨MC_RES_VALID, 31, .rl⟩, ⟨MC_RES_GAP, 30, .rl⟩, ⟨MC_RES_CLAMP, 29, .rl⟩, ⟨MC_RES_NOSYNC, 28, .rl⟩, ⟨MC_RES_INPUT, 24, .rl⟩, ⟨MC_RES_VALUE, 0, .rl⟩]⟩,
  ⟨52, 1, 0, [⟨MC_RTIME_LO_TIME, 0, .ro⟩]⟩,
  ⟨56, 1, 0, [⟨MC_RTIME_HI_TIME, 0, .ro⟩]⟩,
  ⟨60, 1, 0, [⟨MC_FAULT_FLAGS, 0, .w1c⟩]⟩,
  ⟨64, 1, 0, [⟨MC_FIEN_IE, 0, .rw⟩]⟩,
  ⟨68, 1, 0, [⟨MC_MAINSPER_PER, 0, .ro⟩]⟩,
  ⟨72, 1, 0, [⟨MC_XCLIM_GAINLIM, 16, .rw⟩, ⟨MC_XCLIM_OFFLIM, 0, .rw⟩]⟩,
  ⟨76, 1, 0, [⟨MC_XCSTAT_FAILMOD, 24, .ro⟩, ⟨MC_XCSTAT_LASTMOD, 16, .ro⟩, ⟨MC_XCSTAT_COUNT, 0, .ro⟩]⟩,
  ⟨80, 1, 0, [⟨MC_LOST_LOST, 0, .ro⟩]⟩,
  ⟨128, 16, 4, [⟨MC_LAST_VALID, 31, .ro⟩, ⟨MC_LAST_CLAMP, 29, .ro⟩, ⟨MC_LAST_NOSYNC, 28, .ro⟩, ⟨MC_LAST_VALUE, 0, .ro⟩]⟩
  ]

/-- The registers of block LE. -/
def regsLE : List RegRow :=
  [
  ⟨0, 1, 0, [⟨LE_STAT_SWAP, 9, .ro⟩, ⟨LE_STAT_UNIT, 8, .ro⟩, ⟨LE_STAT_RUNSLOT, 5, .ro⟩, ⟨LE_STAT_STATE, 0, .ro⟩]⟩,
  ⟨4, 1, 0, [⟨LE_CMD_ENABLE, 2, .w1p⟩, ⟨LE_CMD_HDISABLE, 1, .w1p⟩, ⟨LE_CMD_DISABLE, 0, .w1p⟩]⟩,
  ⟨8, 1, 0, [⟨LE_FAULT_FLAGS, 0, .w1c⟩]⟩,
  ⟨12, 1, 0, [⟨LE_FIEN_IE, 0, .rw⟩]⟩,
  ⟨16, 1, 0, [⟨LE_FINFO_CODE, 24, .ro⟩, ⟨LE_FINFO_SLOT, 21, .ro⟩, ⟨LE_FINFO_INJOB, 20, .ro⟩, ⟨LE_FINFO_ADDR, 0, .ro⟩]⟩,
  ⟨20, 1, 0, [⟨LE_FBLIM_LIMIT, 0, .rw⟩]⟩,
  ⟨24, 1, 0, [⟨LE_ECC_SCORR, 16, .ro⟩, ⟨LE_ECC_DCORR, 0, .ro⟩]⟩,
  ⟨28, 1, 0, [⟨LE_SWAP_CANCEL, 2, .w1p⟩, ⟨LE_SWAP_REPLACE, 1, .w1p⟩, ⟨LE_SWAP_SWAP, 0, .w1p⟩]⟩,
  ⟨32, 1, 0, [⟨LE_MBOX_DATA_VALUE, 0, .rw⟩]⟩,
  ⟨36, 1, 0, [⟨LE_MBOX_PUSH_PUSH, 31, .w1p⟩, ⟨LE_MBOX_PUSH_SLOT, 9, .rw⟩, ⟨LE_MBOX_PUSH_HOLD, 8, .rw⟩, ⟨LE_MBOX_PUSH_INDEX, 0, .rw⟩]⟩,
  ⟨40, 1, 0, [⟨LE_MBOX_STAT_DROPPED, 16, .ro⟩, ⟨LE_MBOX_STAT_FULLERR, 15, .w1c⟩, ⟨LE_MBOX_STAT_GROUP, 4, .ro⟩, ⟨LE_MBOX_STAT_LEVEL, 0, .ro⟩]⟩,
  ⟨256, 8, 32, [⟨LE_SLOT_JOB_VALID, 31, .wl⟩, ⟨LE_SLOT_JOB_TRIG, 30, .wl⟩, ⟨LE_SLOT_JOB_SRC, 16, .wl⟩, ⟨LE_SLOT_JOB_JOB, 0, .wl⟩]⟩,
  ⟨260, 8, 32, [⟨LE_SLOT_CODE_ENTRY, 16, .wl⟩, ⟨LE_SLOT_CODE_IMAGE, 0, .wl⟩]⟩,
  ⟨264, 8, 32, [⟨LE_SLOT_BUDGET_U, 16, .wl⟩, ⟨LE_SLOT_BUDGET_BUDGET, 0, .wl⟩]⟩,
  ⟨268, 8, 32, [⟨LE_SLOT_PERIOD_PERIOD, 0, .wl⟩]⟩,
  ⟨272, 8, 32, [⟨LE_SLOT_LEGSLO_LEGS, 0, .wl⟩]⟩,
  ⟨276, 8, 32, [⟨LE_SLOT_LEGSHI_LEGS, 0, .wl⟩]⟩,
  ⟨280, 8, 32, [⟨LE_SLOT_STAT_PENDING, 31, .ro⟩, ⟨LE_SLOT_STAT_WAITMAX, 24, .ro⟩, ⟨LE_SLOT_STAT_LOST, 16, .ro⟩, ⟨LE_SLOT_STAT_MAXSTEPS, 0, .ro⟩]⟩,
  ⟨284, 8, 32, [⟨LE_SLOT_CPATH_MAXCP, 16, .ro⟩, ⟨LE_SLOT_CPATH_LASTCP, 0, .ro⟩]⟩,
  ⟨512, 4, 16, [⟨LE_RAW_CFG_EN, 31, .ro⟩, ⟨LE_RAW_CFG_SLOT, 28, .ro⟩, ⟨LE_RAW_CFG_LEAK, 24, .ro⟩, ⟨LE_RAW_CFG_HIACT, 22, .ro⟩, ⟨LE_RAW_CFG_LOACT, 20, .ro⟩, ⟨LE_RAW_CFG_LEG, 14, .ro⟩, ⟨LE_RAW_CFG_MOD, 8, .ro⟩, ⟨LE_RAW_CFG_BLANK, 0, .ro⟩]⟩,
  ⟨516, 4, 16, [⟨LE_RAW_TH_HI, 16, .ro⟩, ⟨LE_RAW_TH_LO, 0, .ro⟩]⟩,
  ⟨520, 4, 16, [⟨LE_RAW_ACC_REQS, 16, .ro⟩, ⟨LE_RAW_ACC_ACC, 0, .ro⟩]⟩
  ]

/-- The registers of block LES. -/
def regsLES : List RegRow :=
  [
  ⟨0, 1, 0, [⟨LES_STAT_QDEPTH, 12, .ro⟩, ⟨LES_STAT_FAILED, 11, .ro⟩, ⟨LES_STAT_PHASE, 8, .ro⟩, ⟨LES_STAT_BUSY, 7, .ro⟩, ⟨LES_STAT_DETACHED, 6, .ro⟩, ⟨LES_STAT_ROLE, 0, .ro⟩]⟩,
  ⟨24, 1, 0, [⟨LES_ECC_SCORR, 16, .ro⟩, ⟨LES_ECC_DCORR, 0, .ro⟩]⟩
  ]

/-- The registers of block L. -/
def regsL : List RegRow :=
  [
  ⟨0, 1, 0, [⟨L_CFG_DTF, 20, .rw⟩, ⟨L_CFG_DTR, 8, .rw⟩, ⟨L_CFG_LSDEFER, 6, .rw⟩, ⟨L_CFG_SYNC, 5, .rw⟩, ⟨L_CFG_RBSTOP, 4, .rw⟩, ⟨L_CFG_MODE, 0, .rw⟩]⟩,
  ⟨4, 1, 0, [⟨L_SAFE_SAFE, 8, .wl⟩, ⟨L_SAFE_STOP, 0, .wl⟩]⟩,
  ⟨8, 1, 0, [⟨L_CMD_CLRCLAMP, 3, .w1p⟩, ⟨L_CMD_STOPNOW, 2, .w1p⟩, ⟨L_CMD_STOP, 1, .w1p⟩, ⟨L_CMD_ENABLE, 0, .w1p⟩]⟩,
  ⟨12, 1, 0, [⟨L_STAT_LATECNT, 24, .ro⟩, ⟨L_STAT_CMDERR, 20, .ro⟩, ⟨L_STAT_WERR, 19, .w1c⟩, ⟨L_STAT_SLOPE, 18, .ro⟩, ⟨L_STAT_HOUT, 17, .ro⟩, ⟨L_STAT_LOUT, 16, .ro⟩, ⟨L_STAT_TRIP, 3, .ro⟩, ⟨L_STAT_STATE, 0, .ro⟩]⟩,
  ⟨16, 1, 0, [⟨L_PERIOD_LO_PERIOD, 0, .rw⟩]⟩,
  ⟨20, 1, 0, [⟨L_PERIOD_HI_PERIOD, 0, .rw⟩]⟩,
  ⟨24, 1, 0, [⟨L_PHASE_LO_PHASE, 0, .rw⟩]⟩,
  ⟨28, 1, 0, [⟨L_PHASE_HI_PHASE, 0, .rw⟩]⟩,
  ⟨32, 4, 4, [⟨L_EDGE_TIME, 0, .rw⟩]⟩,
  ⟨48, 1, 0, [⟨L_SDUTY_VALUE, 0, .ro⟩]⟩,
  ⟨52, 1, 0, [⟨L_SSLOPE_VALUE, 0, .ro⟩]⟩,
  ⟨56, 1, 0, [⟨L_MINON_MINON, 0, .rw⟩]⟩,
  ⟨60, 1, 0, [⟨L_MAXON_MAXON, 0, .rw⟩]⟩,
  ⟨64, 1, 0, [⟨L_FAULT_FLAGS, 0, .w1c⟩]⟩,
  ⟨68, 1, 0, [⟨L_FIEN_IE, 0, .rw⟩]⟩,
  ⟨72, 1, 0, [⟨L_FINFO_CODE, 24, .ro⟩, ⟨L_FINFO_OUT, 23, .ro⟩, ⟨L_FINFO_DEV, 0, .ro⟩]⟩,
  ⟨76, 1, 0, [⟨L_OTR_SETTLE, 16, .rw⟩, ⟨L_OTR_LOWFILT, 8, .rw⟩, ⟨L_OTR_ENL, 1, .rw⟩, ⟨L_OTR_ENH, 0, .rw⟩]⟩,
  ⟨80, 1, 0, [⟨L_OTRSTAT_LOWL, 13, .ro⟩, ⟨L_OTRSTAT_LOWH, 12, .ro⟩, ⟨L_OTRSTAT_LISTENL, 11, .ro⟩, ⟨L_OTRSTAT_LISTENH, 10, .ro⟩, ⟨L_OTRSTAT_CLAMPL, 9, .ro⟩, ⟨L_OTRSTAT_CLAMPH, 8, .ro⟩, ⟨L_OTRSTAT_CLASSL, 4, .ro⟩, ⟨L_OTRSTAT_CLASSH, 0, .ro⟩]⟩,
  ⟨84, 1, 0, [⟨L_RB_FAILS, 16, .ro⟩, ⟨L_RB_TOL, 0, .rw⟩]⟩,
  ⟨88, 1, 0, [⟨L_RBDEV_DEVL, 16, .ro⟩, ⟨L_RBDEV_DEVH, 0, .ro⟩]⟩
  ]

/-- The registers of block PLW. -/
def regsPLW : List RegRow :=
  [
  ⟨0, 1, 0, [⟨PLW_STAT_RUNS, 24, .ro⟩, ⟨PLW_STAT_OVER, 15, .ro⟩, ⟨PLW_STAT_LAST, 12, .ro⟩, ⟨PLW_STAT_BUSY, 11, .ro⟩, ⟨PLW_STAT_OVERF, 10, .w1c⟩]⟩,
  ⟨4, 1, 0, [⟨PLW_REJ_CODE, 24, .ro⟩, ⟨PLW_REJ_REASON, 20, .ro⟩, ⟨PLW_REJ_JOB, 0, .ro⟩]⟩,
  ⟨8, 1, 0, [⟨PLW_REJ_BOUND_PS, 0, .ro⟩]⟩,
  ⟨12, 1, 0, [⟨PLW_REJ_TARGET_PS, 0, .ro⟩]⟩,
  ⟨16, 1, 0, [⟨PLW_TIME_CYCLES, 0, .ro⟩]⟩,
  ⟨20, 1, 0, [⟨PLW_HASHGEN_GEN, 0, .ro⟩]⟩,
  ⟨24, 1, 0, [⟨PLW_BANKACC_COUNT, 0, .ro⟩]⟩,
  ⟨28, 1, 0, [⟨PLW_BANKCONF_COUNT, 0, .ro⟩]⟩,
  ⟨32, 1, 0, [⟨PLW_CTL_BANKCLR, 0, .w1p⟩]⟩,
  ⟨64, 1, 0, [⟨PLW_JSEL_JOB, 0, .rw⟩]⟩,
  ⟨68, 1, 0, [⟨PLW_JINFO_VALID, 31, .ro⟩, ⟨PLW_JINFO_PINNED, 30, .ro⟩, ⟨PLW_JINFO_CLASS, 28, .ro⟩, ⟨PLW_JINFO_SLOT, 25, .ro⟩, ⟨PLW_JINFO_X, 22, .ro⟩, ⟨PLW_JINFO_FREM, 21, .ro⟩, ⟨PLW_JINFO_PREM, 20, .ro⟩, ⟨PLW_JINFO_ENGINE, 14, .ro⟩]⟩,
  ⟨72, 1, 0, [⟨PLW_JBOUND_PS, 0, .ro⟩]⟩,
  ⟨76, 1, 0, [⟨PLW_JSLACK_PS, 0, .ro⟩]⟩,
  ⟨80, 1, 0, [⟨PLW_ESEL_ENGINE, 0, .rw⟩]⟩,
  ⟨84, 1, 0, [⟨PLW_EINFO_USED, 31, .ro⟩, ⟨PLW_EINFO_TGT, 30, .ro⟩, ⟨PLW_EINFO_VACANT, 29, .ro⟩, ⟨PLW_EINFO_NSLOTS, 21, .ro⟩, ⟨PLW_EINFO_IMAGE, 0, .ro⟩]⟩,
  ⟨88, 1, 0, [⟨PLW_ELOAD_HOLD, 16, .ro⟩, ⟨PLW_ELOAD_W, 0, .ro⟩]⟩,
  ⟨92, 1, 0, [⟨PLW_EUTIL_UTIL, 0, .ro⟩]⟩,
  ⟨96, 1, 0, [⟨PLW_TSEL_ID, 0, .rw⟩]⟩,
  ⟨100, 1, 0, [⟨PLW_TBASE_VALUE, 0, .ro⟩]⟩,
  ⟨104, 1, 0, [⟨PLW_CSEL_STREAM, 0, .rw⟩]⟩,
  ⟨108, 1, 0, [⟨PLW_CROUTE_VALID, 31, .ro⟩, ⟨PLW_CROUTE_ROUTE, 24, .ro⟩, ⟨PLW_CROUTE_RATE, 0, .ro⟩]⟩,
  ⟨112, 1, 0, [⟨PLW_RSEL_SAMPLE, 0, .rw⟩]⟩,
  ⟨116, 1, 0, [⟨PLW_RPATH_VALID, 31, .ro⟩, ⟨PLW_RPATH_NOPATH, 30, .ro⟩, ⟨PLW_RPATH_PORT, 28, .ro⟩, ⟨PLW_RPATH_X, 25, .ro⟩, ⟨PLW_RPATH_SEAT, 22, .ro⟩]⟩
  ]

/-- The registers of block GND. -/
def regsGND : List RegRow :=
  [
  ⟨0, 1, 0, [⟨GND_STAT_MUTED, 16, .ro⟩, ⟨GND_STAT_LOOPLEN, 0, .ro⟩]⟩,
  ⟨4, 1, 0, [⟨GND_FAULT_FLAGS, 0, .w1c⟩]⟩,
  ⟨8, 1, 0, [⟨GND_FIEN_IE, 0, .rw⟩]⟩,
  ⟨12, 1, 0, [⟨GND_STORMCH_EC, 0, .ro⟩]⟩,
  ⟨16, 1, 0, [⟨GND_PUBERR_COUNT, 24, .ro⟩, ⟨GND_PUBERR_CORE, 20, .ro⟩, ⟨GND_PUBERR_EC, 0, .ro⟩]⟩,
  ⟨20, 1, 0, [⟨GND_LOOPSEL_PAGE, 0, .rw⟩]⟩,
  ⟨32, 8, 4, [⟨GND_LOOP_PICOTB, 16, .ro⟩, ⟨GND_LOOP_PICOTA, 0, .ro⟩]⟩,
  ⟨256, 16, 4, [⟨GND_EVCNT_COUNT, 0, .ro⟩]⟩,
  ⟨320, 4, 4, [⟨GND_EVOVF_OVF, 0, .w1c⟩]⟩
  ]

/-- The registers of block EC. -/
def regsEC : List RegRow :=
  [
  ⟨0, 1, 0, [⟨EC_CFG_CONS, 16, .wl⟩, ⟨EC_CFG_PROD, 0, .wl⟩]⟩,
  ⟨4, 1, 0, [⟨EC_STORM_WINDOW, 8, .wl⟩, ⟨EC_STORM_LIMIT, 0, .wl⟩]⟩,
  ⟨8, 1, 0, [⟨EC_CTL_LOG, 2, .rw⟩, ⟨EC_CTL_MUTE, 1, .w1p⟩, ⟨EC_CTL_UNMUTE, 0, .w1p⟩]⟩,
  ⟨12, 1, 0, [⟨EC_STAT_MUTED, 31, .ro⟩, ⟨EC_STAT_USED, 30, .ro⟩, ⟨EC_STAT_DROP, 16, .ro⟩, ⟨EC_STAT_COUNT, 0, .ro⟩]⟩
  ]

/-- The registers of block PICOT. -/
def regsPICOT : List RegRow :=
  [
  ⟨0, 1, 0, [⟨PICOT_CFG_FLEN, 24, .wl⟩, ⟨PICOT_CFG_FILT, 17, .wl⟩, ⟨PICOT_CFG_FF, 16, .wl⟩, ⟨PICOT_CFG_LUT, 0, .wl⟩]⟩,
  ⟨4, 1, 0, [⟨PICOT_STAT_OUTCNT, 16, .ro⟩, ⟨PICOT_STAT_QF, 1, .ro⟩, ⟨PICOT_STAT_Q, 0, .ro⟩]⟩
  ]

/-- The registers of block SPR. -/
def regsSPR : List RegRow :=
  [
  ⟨0, 1, 0, [⟨SPR_LATCH0_LATCH, 0, .ro⟩]⟩,
  ⟨4, 1, 0, [⟨SPR_LATCH1_LATCH, 0, .ro⟩]⟩,
  ⟨8, 1, 0, [⟨SPR_ACTIVE0_ACTIVE, 0, .ro⟩]⟩,
  ⟨12, 1, 0, [⟨SPR_ACTIVE1_ACTIVE, 0, .ro⟩]⟩,
  ⟨16, 1, 0, [⟨SPR_REL_GO, 31, .w1p⟩, ⟨SPR_REL_LEG, 0, .rw⟩]⟩,
  ⟨20, 1, 0, [⟨SPR_RELSTAT_INIT, 16, .ro⟩, ⟨SPR_RELSTAT_LEG, 8, .ro⟩, ⟨SPR_RELSTAT_RESULT, 0, .ro⟩]⟩,
  ⟨24, 1, 0, [⟨SPR_FAULT_FLAGS, 0, .w1c⟩]⟩,
  ⟨28, 1, 0, [⟨SPR_FIEN_IE, 0, .rw⟩]⟩,
  ⟨256, 48, 16, [⟨SPR_L_CAUSE_VALID, 31, .ro⟩, ⟨SPR_L_CAUSE_MORE, 30, .ro⟩, ⟨SPR_L_CAUSE_SOURCE, 0, .ro⟩]⟩,
  ⟨260, 48, 16, [⟨SPR_L_TIME_LO_TIME, 0, .ro⟩]⟩,
  ⟨264, 48, 16, [⟨SPR_L_TIME_HI_TIME, 0, .ro⟩]⟩,
  ⟨268, 48, 16, [⟨SPR_L_COUNT_COUNT, 0, .ro⟩]⟩,
  ⟨2048, 224, 8, [⟨SPR_MAP_LO_MASK, 0, .wl⟩]⟩,
  ⟨2052, 224, 8, [⟨SPR_MAP_HI_MASK, 0, .wl⟩]⟩
  ]

/-- The registers of block GT. -/
def regsGT : List RegRow :=
  [
  ⟨0, 1, 0, [⟨GT_CFG_N, 16, .wl⟩, ⟨GT_CFG_F, 8, .wl⟩, ⟨GT_CFG_TPIN, 4, .wl⟩, ⟨GT_CFG_SRC, 0, .wl⟩]⟩,
  ⟨4, 1, 0, [⟨GT_LINK_PUBV, 31, .wl⟩, ⟨GT_LINK_PUBEC, 16, .wl⟩, ⟨GT_LINK_MASTER, 8, .wl⟩, ⟨GT_LINK_MEV, 2, .wl⟩, ⟨GT_LINK_SLAVE, 0, .wl⟩]⟩,
  ⟨8, 1, 0, [⟨GT_CMD_ARM, 0, .w1p⟩]⟩,
  ⟨12, 1, 0, [⟨GT_STAT_OLDPLAN, 18, .ro⟩, ⟨GT_STAT_STATE, 16, .ro⟩, ⟨GT_STAT_ARMED, 5, .ro⟩, ⟨GT_STAT_OVR, 4, .w1c⟩, ⟨GT_STAT_PEND, 3, .ro⟩, ⟨GT_STAT_LATE, 2, .w1c⟩, ⟨GT_STAT_END, 1, .w1c⟩, ⟨GT_STAT_MATCH, 0, .w1c⟩]⟩,
  ⟨16, 1, 0, [⟨GT_IEN_OVR_IE, 2, .rw⟩, ⟨GT_IEN_END_IE, 1, .rw⟩, ⟨GT_IEN_MATCH_IE, 0, .rw⟩]⟩,
  ⟨20, 1, 0, [⟨GT_COUNT_LO_COUNT, 0, .rl⟩]⟩,
  ⟨24, 1, 0, [⟨GT_COUNT_HI_COUNT, 0, .ro⟩]⟩,
  ⟨28, 1, 0, [⟨GT_CMP_LO_CMP, 0, .rw⟩]⟩,
  ⟨32, 1, 0, [⟨GT_CMP_HI_CMP, 0, .rw⟩]⟩,
  ⟨36, 1, 0, [⟨GT_END_LO_END, 0, .rw⟩]⟩,
  ⟨40, 1, 0, [⟨GT_END_HI_END, 0, .rw⟩]⟩,
  ⟨44, 1, 0, [⟨GT_CAP_LO_CAP, 0, .rl⟩]⟩,
  ⟨48, 1, 0, [⟨GT_CAP_HI_CAP, 0, .ro⟩]⟩
  ]

/-- The registers of block TG. -/
def regsTG : List RegRow :=
  [
  ⟨0, 1, 0, [⟨TG_IRQ_FLT, 16, .ro⟩, ⟨TG_IRQ_TMR, 0, .ro⟩]⟩,
  ⟨4, 1, 0, [⟨TG_ARM_ARM, 0, .w1p⟩]⟩,
  ⟨8, 1, 0, [⟨TG_FAULT_FLAGS, 0, .w1c⟩]⟩,
  ⟨12, 1, 0, [⟨TG_FIEN_IE, 0, .rw⟩]⟩,
  ⟨16, 1, 0, [⟨TG_DTIME_LO_TIME, 0, .rl⟩]⟩,
  ⟨20, 1, 0, [⟨TG_DTIME_HI_TIME, 0, .ro⟩]⟩,
  ⟨24, 1, 0, [⟨TG_DTSTAT_UNCORR, 31, .ro⟩, ⟨TG_DTSTAT_STEP, 0, .ro⟩]⟩
  ]

/-- The registers of block WRT. -/
def regsWRT : List RegRow :=
  [
  ⟨0, 1, 0, [⟨WRT_STAT_ROOTRET, 29, .ro⟩, ⟨WRT_STAT_BUSY, 28, .ro⟩, ⟨WRT_STAT_RETIRED, 16, .ro⟩, ⟨WRT_STAT_FREE, 0, .ro⟩]⟩,
  ⟨4, 1, 0, [⟨WRT_REFUSE_ADDR_ADDR, 0, .ro⟩]⟩,
  ⟨8, 1, 0, [⟨WRT_REFUSE_INFO_COUNT, 24, .ro⟩, ⟨WRT_REFUSE_INFO_VALID, 23, .w1c⟩, ⟨WRT_REFUSE_INFO_CAUSE, 20, .ro⟩, ⟨WRT_REFUSE_INFO_KIND, 16, .ro⟩, ⟨WRT_REFUSE_INFO_RIGHTS, 8, .ro⟩, ⟨WRT_REFUSE_INFO_INIT, 0, .ro⟩]⟩,
  ⟨16, 1, 0, [⟨WRT_ESEL_INDEX, 0, .rw⟩]⟩,
  ⟨20, 1, 0, [⟨WRT_EINFO_ALLOC, 31, .ro⟩, ⟨WRT_EINFO_RETIRED, 30, .ro⟩, ⟨WRT_EINFO_ENTRYW, 29, .ro⟩, ⟨WRT_EINFO_ROOT, 28, .ro⟩, ⟨WRT_EINFO_KIND, 24, .ro⟩, ⟨WRT_EINFO_RIGHTS, 16, .ro⟩, ⟨WRT_EINFO_PARENT, 0, .ro⟩]⟩,
  ⟨24, 1, 0, [⟨WRT_EGEN_GEN, 0, .ro⟩]⟩,
  ⟨28, 1, 0, [⟨WRT_EBASE_VALUE, 0, .ro⟩]⟩,
  ⟨32, 1, 0, [⟨WRT_ELIMIT_VALUE, 0, .ro⟩]⟩,
  ⟨48, 1, 0, [⟨WRT_BINDSEL_SLOT, 8, .rw⟩, ⟨WRT_BINDSEL_FN, 0, .rw⟩]⟩,
  ⟨52, 1, 0, [⟨WRT_BIND_LO_HANDLE, 0, .rw⟩]⟩,
  ⟨56, 1, 0, [⟨WRT_BIND_HI_HANDLE, 0, .rw⟩]⟩,
  ⟨60, 1, 0, [⟨WRT_BINDSTAT_ERR, 8, .w1c⟩, ⟨WRT_BINDSTAT_VALID, 0, .ro⟩]⟩
  ]

/-- The registers of block CP. -/
def regsCP : List RegRow :=
  [
  ⟨0, 1, 0, [⟨CP_STAT_REPLAYS, 24, .ro⟩, ⟨CP_STAT_CMPFAIL, 10, .ro⟩, ⟨CP_STAT_LOGOVF, 9, .ro⟩, ⟨CP_STAT_JVOID, 8, .ro⟩, ⟨CP_STAT_SPLIT, 4, .ro⟩, ⟨CP_STAT_STATE, 0, .ro⟩]⟩,
  ⟨4, 1, 0, [⟨CP_EVEC_EVEC, 0, .rw⟩]⟩,
  ⟨8, 1, 0, [⟨CP_IEN_EVIN, 16, .rw⟩, ⟨CP_IEN_LINE, 0, .rw⟩]⟩,
  ⟨12, 1, 0, [⟨CP_FAULT_FLAGS, 0, .w1c⟩]⟩,
  ⟨16, 1, 0, [⟨CP_FIEN_IE, 0, .rw⟩]⟩,
  ⟨20, 1, 0, [⟨CP_TASKENTRY_PC, 0, .rw⟩]⟩,
  ⟨24, 1, 0, [⟨CP_JLEVEL_JUSED, 16, .ro⟩, ⟨CP_JLEVEL_LUSED, 0, .ro⟩]⟩,
  ⟨28, 1, 0, [⟨CP_MMINFO_TOTAL, 24, .ro⟩, ⟨CP_MMINFO_SINCE, 8, .ro⟩, ⟨CP_MMINFO_GROUP, 0, .ro⟩]⟩,
  ⟨32, 1, 0, [⟨CP_MMPC_VALUE, 0, .ro⟩]⟩,
  ⟨36, 1, 0, [⟨CP_CMD_CMPTEST, 0, .w1p⟩]⟩,
  ⟨40, 1, 0, [⟨CP_CMPRES_DONE, 31, .ro⟩, ⟨CP_CMPRES_RUN, 30, .ro⟩, ⟨CP_CMPRES_BUSY, 29, .w1c⟩, ⟨CP_CMPRES_PASS, 0, .ro⟩]⟩,
  ⟨44, 1, 0, [⟨CP_IJHIT_COUNT, 0, .ro⟩]⟩,
  ⟨48, 1, 0, [⟨CP_SQUASH_COUNT, 0, .ro⟩]⟩,
  ⟨1024, 64, 16, [⟨CP_SLOG_INFO_VALID, 31, .ro⟩, ⟨CP_SLOG_INFO_KIND, 24, .ro⟩, ⟨CP_SLOG_INFO_DETAIL, 0, .ro⟩]⟩,
  ⟨1028, 64, 16, [⟨CP_SLOG_ADDR_VALUE, 0, .ro⟩]⟩,
  ⟨1032, 64, 16, [⟨CP_SLOG_DATA_VALUE, 0, .ro⟩]⟩
  ]

/-- The registers of block DMA. -/
def regsDMA : List RegRow :=
  [
  ⟨0, 1, 0, [⟨DMA_STAT_BUSY, 11, .ro⟩, ⟨DMA_STAT_RUNCH, 8, .ro⟩, ⟨DMA_STAT_DONE, 0, .ro⟩]⟩,
  ⟨4, 1, 0, [⟨DMA_FAULT_FLAGS, 0, .w1c⟩]⟩,
  ⟨8, 1, 0, [⟨DMA_FIEN_IE, 0, .rw⟩]⟩,
  ⟨12, 1, 0, [⟨DMA_FINFO_CODE, 24, .ro⟩, ⟨DMA_FINFO_CH, 0, .ro⟩]⟩
  ]

/-- The registers of block DMAC. -/
def regsDMAC : List RegRow :=
  [
  ⟨0, 1, 0, [⟨DMAC_CTL_FREE, 31, .rw⟩, ⟨DMAC_CTL_RETRY, 28, .rw⟩, ⟨DMAC_CTL_SWAP, 26, .rw⟩, ⟨DMAC_CTL_SINC, 25, .rw⟩, ⟨DMAC_CTL_DINC, 24, .rw⟩, ⟨DMAC_CTL_DONEIE, 23, .rw⟩, ⟨DMAC_CTL_TCMCORE, 16, .rw⟩, ⟨DMAC_CTL_USIZE, 8, .rw⟩]⟩,
  ⟨4, 1, 0, [⟨DMAC_CMD_INC, 16, .rw⟩, ⟨DMAC_CMD_ADDLVL, 3, .w1p⟩, ⟨DMAC_CMD_RESUME, 2, .w1p⟩, ⟨DMAC_CMD_STOP, 1, .w1p⟩, ⟨DMAC_CMD_START, 0, .w1p⟩]⟩,
  ⟨8, 1, 0, [⟨DMAC_STAT_WERR, 19, .w1c⟩, ⟨DMAC_STAT_DONEF, 18, .w1c⟩, ⟨DMAC_STAT_REASON, 8, .ro⟩, ⟨DMAC_STAT_STATE, 0, .ro⟩]⟩,
  ⟨12, 1, 0, [⟨DMAC_SRC_VALUE, 0, .rw⟩]⟩,
  ⟨16, 1, 0, [⟨DMAC_DST_VALUE, 0, .rw⟩]⟩,
  ⟨20, 1, 0, [⟨DMAC_COUNT_VALUE, 0, .rw⟩]⟩,
  ⟨24, 1, 0, [⟨DMAC_REMAIN_VALUE, 0, .ro⟩]⟩,
  ⟨28, 1, 0, [⟨DMAC_CURSRC_VALUE, 0, .ro⟩]⟩,
  ⟨32, 1, 0, [⟨DMAC_CURDST_VALUE, 0, .ro⟩]⟩,
  ⟨36, 1, 0, [⟨DMAC_PACE_PIDX, 24, .rw⟩, ⟨DMAC_PACE_PSEL, 16, .rw⟩]⟩,
  ⟨40, 1, 0, [⟨DMAC_PACEMK_HIGH, 16, .rw⟩, ⟨DMAC_PACEMK_LOW, 0, .rw⟩]⟩,
  ⟨44, 1, 0, [⟨DMAC_SWLVL_LEVEL, 0, .ro⟩]⟩,
  ⟨48, 1, 0, [⟨DMAC_WSRC_LO_HANDLE, 0, .rw⟩]⟩,
  ⟨52, 1, 0, [⟨DMAC_WSRC_HI_HANDLE, 0, .rw⟩]⟩,
  ⟨56, 1, 0, [⟨DMAC_WDST_LO_HANDLE, 0, .rw⟩]⟩,
  ⟨60, 1, 0, [⟨DMAC_WDST_HI_HANDLE, 0, .rw⟩]⟩
  ]

/-- The registers of block CAP. -/
def regsCAP : List RegRow :=
  [
  ⟨0, 1, 0, [⟨CAP_CTL_FLUSH, 16, .rw⟩, ⟨CAP_CTL_THAW, 2, .w1p⟩, ⟨CAP_CTL_MODE, 1, .rw⟩, ⟨CAP_CTL_EN, 0, .rw⟩]⟩,
  ⟨4, 1, 0, [⟨CAP_STAT_TRACKED, 16, .ro⟩, ⟨CAP_STAT_WERR, 15, .w1c⟩, ⟨CAP_STAT_FROZEN, 3, .ro⟩, ⟨CAP_STAT_TRIGGERED, 2, .ro⟩, ⟨CAP_STAT_ARMED, 1, .ro⟩, ⟨CAP_STAT_ACTIVE, 0, .ro⟩]⟩,
  ⟨8, 1, 0, [⟨CAP_RINGPAGES_VALUE, 0, .rw⟩]⟩,
  ⟨12, 1, 0, [⟨CAP_WRIDX_VALUE, 0, .ro⟩]⟩,
  ⟨16, 1, 0, [⟨CAP_RDIDX_VALUE, 0, .rw⟩]⟩,
  ⟨20, 1, 0, [⟨CAP_WBADDR_LO_VALUE, 3, .rw⟩]⟩,
  ⟨24, 1, 0, [⟨CAP_WBADDR_HI_VALUE, 0, .rw⟩]⟩,
  ⟨28, 1, 0, [⟨CAP_WBINT_VALUE, 0, .rw⟩]⟩,
  ⟨32, 1, 0, [⟨CAP_SNAP_ARM, 31, .w1p⟩, ⟨CAP_SNAP_POST, 0, .rw⟩]⟩,
  ⟨36, 1, 0, [⟨CAP_SNAPIDX_VALUE, 0, .ro⟩]⟩,
  ⟨40, 1, 0, [⟨CAP_SNAPTIME_LO_VALUE, 0, .ro⟩]⟩,
  ⟨44, 1, 0, [⟨CAP_SNAPTIME_HI_VALUE, 0, .ro⟩]⟩,
  ⟨48, 1, 0, [⟨CAP_FAULT_FLAGS, 0, .w1c⟩]⟩,
  ⟨52, 1, 0, [⟨CAP_FIEN_IE, 0, .rw⟩]⟩,
  ⟨56, 1, 0, [⟨CAP_FINFO_CODE, 24, .ro⟩, ⟨CAP_FINFO_WHICH, 0, .ro⟩]⟩,
  ⟨64, 8, 4, [⟨CAP_FWDDROP_COUNT, 0, .ro⟩]⟩,
  ⟨96, 1, 0, [⟨CAP_OWNDROP_COUNT, 0, .ro⟩]⟩
  ]

/-- The registers of block CAPS. -/
def regsCAPS : List RegRow :=
  [
  ⟨0, 1, 0, [⟨CAP_S_CFG_KIND, 24, .wl⟩, ⟨CAP_S_CFG_SOURCE, 12, .wl⟩, ⟨CAP_S_CFG_ROUTE, 8, .ro⟩, ⟨CAP_S_CFG_VALID, 0, .ro⟩]⟩,
  ⟨4, 1, 0, [⟨CAP_S_DIV_VALUE, 0, .wl⟩]⟩,
  ⟨8, 1, 0, [⟨CAP_S_CTL_RPOFF, 2, .w1p⟩, ⟨CAP_S_CTL_RPON, 1, .w1p⟩, ⟨CAP_S_CTL_RUN, 0, .rw⟩]⟩,
  ⟨12, 1, 0, [⟨CAP_S_STAT_RPERR, 28, .ro⟩, ⟨CAP_S_STAT_RPACT, 27, .ro⟩, ⟨CAP_S_STAT_RPPEND, 26, .ro⟩, ⟨CAP_S_STAT_STOPPED, 25, .ro⟩, ⟨CAP_S_STAT_RPWERR, 24, .w1c⟩]⟩,
  ⟨16, 1, 0, [⟨CAP_S_SEQ_COUNT, 0, .ro⟩]⟩,
  ⟨20, 1, 0, [⟨CAP_S_DROP_COUNT, 0, .ro⟩]⟩,
  ⟨24, 1, 0, [⟨CAP_S_RPBASE_VALUE, 0, .rw⟩]⟩,
  ⟨28, 1, 0, [⟨CAP_S_RPSIZE_VALUE, 0, .rw⟩]⟩,
  ⟨32, 1, 0, [⟨CAP_S_RPWR_VALUE, 0, .rw⟩]⟩,
  ⟨36, 1, 0, [⟨CAP_S_RPRD_VALUE, 0, .ro⟩]⟩
  ]

/-- The registers of block CAPPT. -/
def regsCAPPT : List RegRow :=
  [
  ⟨0, 65536, 8, [⟨CAPPT_LO_ADDR, 21, .rw⟩, ⟨CAPPT_LO_V, 0, .rw⟩]⟩,
  ⟨4, 65536, 8, [⟨CAPPT_HI_ADDR, 0, .rw⟩]⟩
  ]

/-- The registers of block PCIE. -/
def regsPCIE : List RegRow :=
  [
  ⟨0, 1, 0, [⟨PCIE_LINK_POLINV, 16, .ro⟩, ⟨PCIE_LINK_REV, 15, .ro⟩, ⟨PCIE_LINK_WIDTH, 6, .ro⟩, ⟨PCIE_LINK_SPEED, 3, .ro⟩, ⟨PCIE_LINK_LSTATE, 0, .ro⟩]⟩,
  ⟨4, 1, 0, [⟨PCIE_FAULT_FLAGS, 0, .w1c⟩]⟩,
  ⟨8, 1, 0, [⟨PCIE_FIEN_IE, 0, .rw⟩]⟩,
  ⟨12, 1, 0, [⟨PCIE_FINFO_CODE, 24, .ro⟩, ⟨PCIE_FINFO_FN, 0, .ro⟩]⟩,
  ⟨16, 1, 0, [⟨PCIE_SWIRQ_GO, 31, .w1p⟩, ⟨PCIE_SWIRQ_VECTOR, 8, .rw⟩, ⟨PCIE_SWIRQ_FN, 0, .rw⟩]⟩,
  ⟨20, 1, 0, [⟨PCIE_FLR0_FLR, 0, .w1c⟩]⟩,
  ⟨24, 1, 0, [⟨PCIE_FLR1_FLR, 0, .w1c⟩]⟩,
  ⟨32, 1, 0, [⟨PCIE_ISEL_VF, 0, .rw⟩]⟩,
  ⟨36, 1, 0, [⟨PCIE_ISTAT_ACCEPTED, 16, .ro⟩, ⟨PCIE_ISTAT_REFUSED, 8, .ro⟩, ⟨PCIE_ISTAT_QLEVEL, 5, .ro⟩, ⟨PCIE_ISTAT_REASON, 0, .ro⟩]⟩,
  ⟨256, 16, 8, [⟨PCIE_OW_LO_BASE, 27, .rw⟩, ⟨PCIE_OW_LO_FN, 1, .rw⟩, ⟨PCIE_OW_LO_V, 0, .rw⟩]⟩,
  ⟨260, 16, 8, [⟨PCIE_OW_HI_BASE, 0, .rw⟩]⟩
  ]

/-- The registers of block B. -/
def regsB : List RegRow :=
  [
  ⟨0, 1, 0, [⟨B_STAT_ALIGNED, 31, .ro⟩, ⟨B_STAT_REF, 30, .ro⟩, ⟨B_STAT_NLOCK, 29, .ro⟩, ⟨B_STAT_NRING, 24, .ro⟩, ⟨B_STAT_NSEAT, 20, .ro⟩, ⟨B_STAT_STATE, 0, .ro⟩]⟩,
  ⟨4, 1, 0, [⟨B_CTL_DOWN, 1, .rw⟩, ⟨B_CTL_RETRAIN, 0, .w1p⟩]⟩,
  ⟨8, 1, 0, [⟨B_FAULT_FLAGS, 0, .w1c⟩]⟩,
  ⟨12, 1, 0, [⟨B_FIEN_IE, 0, .rw⟩]⟩,
  ⟨16, 1, 0, [⟨B_FINFO_CODE, 24, .ro⟩, ⟨B_FINFO_DETAIL, 16, .ro⟩, ⟨B_FINFO_EC, 0, .ro⟩]⟩,
  ⟨20, 1, 0, [⟨B_LANES_MAP, 8, .ro⟩, ⟨B_LANES_POLINV, 0, .ro⟩]⟩,
  ⟨24, 1, 0, [⟨B_TOFS_PS, 0, .ro⟩]⟩,
  ⟨28, 1, 0, [⟨B_DELAY_PS, 0, .ro⟩]⟩,
  ⟨32, 1, 0, [⟨B_LATE_COUNT, 0, .ro⟩]⟩,
  ⟨36, 1, 0, [⟨B_CRCERR_COUNT, 0, .ro⟩]⟩,
  ⟨40, 1, 0, [⟨B_FWDLOST_COUNT, 0, .ro⟩]⟩
  ]

/-- The registers of block PWR. -/
def regsPWR : List RegRow :=
  [
  ⟨0, 1, 0, [⟨PWR_STAT_QUIET, 31, .ro⟩, ⟨PWR_STAT_YARDOK, 30, .ro⟩, ⟨PWR_STAT_CLUSTER, 16, .ro⟩, ⟨PWR_STAT_TILE, 0, .ro⟩]⟩,
  ⟨4, 1, 0, [⟨PWR_CTL_YARDEN, 18, .rw⟩, ⟨PWR_CTL_CBED, 17, .rw⟩, ⟨PWR_CTL_CBROWSE, 16, .rw⟩, ⟨PWR_CTL_TBED, 8, .rw⟩, ⟨PWR_CTL_TBROWSE, 0, .rw⟩]⟩,
  ⟨8, 1, 0, [⟨PWR_GUARD0_BED, 16, .rw⟩, ⟨PWR_GUARD0_BROWSE, 0, .rw⟩]⟩,
  ⟨12, 1, 0, [⟨PWR_GUARD1_YARD, 0, .rw⟩]⟩,
  ⟨16, 1, 0, [⟨PWR_QUIET_LO_END, 0, .rw⟩]⟩,
  ⟨20, 1, 0, [⟨PWR_QUIET_HI_END, 0, .rw⟩]⟩,
  ⟨24, 1, 0, [⟨PWR_WAKE_YARDS, 24, .ro⟩, ⟨PWR_WAKE_LAST, 20, .ro⟩, ⟨PWR_WAKE_WPIN, 3, .rw⟩, ⟨PWR_WAKE_WB1, 2, .rw⟩, ⟨PWR_WAKE_WB0, 1, .rw⟩, ⟨PWR_WAKE_WPCIE, 0, .rw⟩]⟩,
  ⟨32, 1, 0, [⟨PWR_VIN_IIN, 16, .ro⟩, ⟨PWR_VIN_VIN, 0, .ro⟩]⟩,
  ⟨36, 1, 0, [⟨PWR_PIN_PIN, 0, .ro⟩]⟩,
  ⟨40, 1, 0, [⟨PWR_ENERGY_LO_ENERGY, 0, .rl⟩]⟩,
  ⟨44, 1, 0, [⟨PWR_ENERGY_HI_ENERGY, 0, .ro⟩]⟩,
  ⟨48, 1, 0, [⟨PWR_AUXCTL_YARDOFF, 4, .rw⟩, ⟨PWR_AUXCTL_STOP5, 3, .rw⟩, ⟨PWR_AUXCTL_STOP12, 2, .rw⟩, ⟨PWR_AUXCTL_AUX5EN, 1, .rw⟩, ⟨PWR_AUXCTL_AUX12EN, 0, .rw⟩]⟩,
  ⟨52, 1, 0, [⟨PWR_AUXSTAT_I12, 20, .ro⟩, ⟨PWR_AUXSTAT_I5, 8, .ro⟩, ⟨PWR_AUXSTAT_WERR, 4, .w1c⟩, ⟨PWR_AUXSTAT_HIC5, 3, .ro⟩, ⟨PWR_AUXSTAT_HIC12, 2, .ro⟩, ⟨PWR_AUXSTAT_PG5, 1, .ro⟩, ⟨PWR_AUXSTAT_PG12, 0, .ro⟩]⟩,
  ⟨56, 1, 0, [⟨PWR_FAULT_FLAGS, 0, .w1c⟩]⟩,
  ⟨60, 1, 0, [⟨PWR_FIEN_IE, 0, .rw⟩]⟩,
  ⟨64, 1, 0, [⟨PWR_FINFO_CODE, 24, .ro⟩, ⟨PWR_FINFO_VALUE, 0, .ro⟩]⟩
  ]

/-- The registers of block FRST. -/
def regsFRST : List RegRow :=
  [
  ⟨0, 1, 0, [⟨FRST_CMD_GO, 31, .w1p⟩, ⟨FRST_CMD_ACTION, 28, .rw⟩, ⟨FRST_CMD_FUNC, 0, .rw⟩]⟩,
  ⟨4, 1, 0, [⟨FRST_STAT_BUSY, 31, .ro⟩, ⟨FRST_STAT_ERR, 30, .w1c⟩, ⟨FRST_STAT_LASTERR, 24, .ro⟩, ⟨FRST_STAT_INIT, 16, .ro⟩, ⟨FRST_STAT_FUNC, 0, .ro⟩]⟩,
  ⟨8, 1, 0, [⟨FRST_DEVRST_KEY, 0, .rw⟩]⟩,
  ⟨12, 1, 0, [⟨FRST_CAUSE_COUNT, 24, .ro⟩, ⟨FRST_CAUSE_CAUSE, 8, .ro⟩, ⟨FRST_CAUSE_LEVEL, 0, .ro⟩]⟩,
  ⟨16, 1, 0, [⟨FRST_CTL_CLKRET, 0, .w1p⟩]⟩,
  ⟨20, 1, 0, [⟨FRST_SYSSTAT_GATED, 2, .ro⟩, ⟨FRST_SYSSTAT_FALLBACK, 1, .ro⟩, ⟨FRST_SYSSTAT_REFOK, 0, .ro⟩]⟩,
  ⟨24, 1, 0, [⟨FRST_SYSFAULT_FLAGS, 0, .w1c⟩]⟩,
  ⟨28, 1, 0, [⟨FRST_SYSFIEN_IE, 0, .rw⟩]⟩,
  ⟨64, 11, 4, [⟨FRST_HELD_HELD, 0, .ro⟩]⟩
  ]

/-- The registers of block NVM. -/
def regsNVM : List RegRow :=
  [
  ⟨0, 1, 0, [⟨NVM_STAT_BUSY, 31, .ro⟩, ⟨NVM_STAT_OP, 28, .ro⟩, ⟨NVM_STAT_DONE, 27, .w1c⟩, ⟨NVM_STAT_DONEIE, 26, .rw⟩, ⟨NVM_STAT_PWERR, 25, .w1c⟩]⟩,
  ⟨4, 1, 0, [⟨NVM_CMD_GO, 31, .w1p⟩, ⟨NVM_CMD_OP, 28, .rw⟩, ⟨NVM_CMD_COUNT, 16, .rw⟩]⟩,
  ⟨8, 1, 0, [⟨NVM_ARG_ARG, 0, .rw⟩]⟩,
  ⟨12, 1, 0, [⟨NVM_RESULT_INIT, 16, .ro⟩, ⟨NVM_RESULT_OP, 4, .ro⟩, ⟨NVM_RESULT_CODE, 0, .ro⟩]⟩,
  ⟨16, 1, 0, [⟨NVM_CLAIM_CLAIM, 31, .w1p⟩, ⟨NVM_CLAIM_RELEASE, 30, .w1p⟩, ⟨NVM_CLAIM_HELD, 8, .ro⟩, ⟨NVM_CLAIM_OWNER, 0, .ro⟩]⟩,
  ⟨20, 1, 0, [⟨NVM_SETINFO_IMAGE, 30, .ro⟩, ⟨NVM_SETINFO_FREE, 16, .ro⟩, ⟨NVM_SETINFO_SKIP, 0, .ro⟩]⟩,
  ⟨24, 1, 0, [⟨NVM_SETGEN_VALUE, 0, .ro⟩]⟩,
  ⟨28, 1, 0, [⟨NVM_STRAP_STRAPLOCK, 16, .ro⟩, ⟨NVM_STRAP_SPLITOPT, 8, .ro⟩, ⟨NVM_STRAP_BADMODE, 4, .ro⟩, ⟨NVM_STRAP_BOOTMODE, 1, .ro⟩, ⟨NVM_STRAP_SPLITEN, 0, .ro⟩]⟩,
  ⟨32, 1, 0, [⟨NVM_PWSLOT_SLOT, 0, .rw⟩]⟩,
  ⟨36, 1, 0, [⟨NVM_FAULT_FLAGS, 0, .w1c⟩]⟩,
  ⟨40, 1, 0, [⟨NVM_FIEN_IE, 0, .rw⟩]⟩,
  ⟨44, 1, 0, [⟨NVM_ECCLOG_ADDR_ADDR, 0, .ro⟩]⟩,
  ⟨48, 1, 0, [⟨NVM_ECCLOG_INFO_COUNT, 24, .ro⟩, ⟨NVM_ECCLOG_INFO_VALID, 23, .w1c⟩, ⟨NVM_ECCLOG_INFO_SCRUB, 22, .ro⟩, ⟨NVM_ECCLOG_INFO_CLASS, 19, .ro⟩, ⟨NVM_ECCLOG_INFO_INST, 0, .ro⟩]⟩,
  ⟨64, 8, 4, [⟨NVM_ECCCNT_UNCORR, 16, .ro⟩, ⟨NVM_ECCCNT_CORR, 0, .ro⟩]⟩,
  ⟨2048, 512, 4, [⟨NVM_STBUF_DATA, 0, .rw⟩]⟩
  ]

/-- The registers of block DBG. -/
def regsDBG : List RegRow :=
  [
  ⟨0, 1, 0, [⟨DBG_CTL_DAPEN, 0, .rw⟩]⟩,
  ⟨4, 1, 0, [⟨DBG_STAT_JREF, 0, .w1c⟩]⟩,
  ⟨16, 1, 0, [⟨DBG_TCTL_DEST, 16, .rw⟩, ⟨DBG_TCTL_EN, 0, .rw⟩]⟩,
  ⟨20, 1, 0, [⟨DBG_TBASE_VALUE, 0, .rw⟩]⟩,
  ⟨24, 1, 0, [⟨DBG_TSIZE_VALUE, 0, .rw⟩]⟩,
  ⟨28, 1, 0, [⟨DBG_TWR_VALUE, 0, .ro⟩]⟩,
  ⟨32, 1, 0, [⟨DBG_TDROP_VALUE, 0, .ro⟩]⟩,
  ⟨64, 1, 0, [⟨DBG_LCTL_DETACH, 31, .w1p⟩, ⟨DBG_LCTL_ATTACH, 30, .w1p⟩, ⟨DBG_LCTL_DISPATCH, 29, .w1p⟩, ⟨DBG_LCTL_STEP, 28, .w1p⟩, ⟨DBG_LCTL_CONT, 27, .w1p⟩, ⟨DBG_LCTL_FB, 26, .rw⟩, ⟨DBG_LCTL_BPEN, 25, .rw⟩, ⟨DBG_LCTL_SLOT, 22, .rw⟩, ⟨DBG_LCTL_LE, 16, .rw⟩, ⟨DBG_LCTL_BPADDR, 0, .rw⟩]⟩,
  ⟨68, 1, 0, [⟨DBG_LSTAT_DETACHED, 31, .ro⟩, ⟨DBG_LSTAT_INRUN, 30, .ro⟩, ⟨DBG_LSTAT_BPHIT, 29, .ro⟩, ⟨DBG_LSTAT_WERR, 28, .w1c⟩, ⟨DBG_LSTAT_FCODE, 16, .ro⟩, ⟨DBG_LSTAT_ADDR, 0, .ro⟩]⟩,
  ⟨72, 1, 0, [⟨DBG_LRSEL_SEL, 0, .rw⟩]⟩,
  ⟨76, 1, 0, [⟨DBG_LRDATA_VALUE, 0, .ro⟩]⟩
  ]

/-- The registers of block DBGC. -/
def regsDBGC : List RegRow :=
  [
  ⟨0, 1, 0, [⟨DBG_C_CTL_HALTRST, 5, .rw⟩, ⟨DBG_C_CTL_MASKINT, 4, .rw⟩, ⟨DBG_C_CTL_BRKCLAIM, 3, .rw⟩, ⟨DBG_C_CTL_RESUME, 2, .w1p⟩, ⟨DBG_C_CTL_STEP, 1, .w1p⟩, ⟨DBG_C_CTL_HALT, 0, .w1p⟩]⟩,
  ⟨4, 1, 0, [⟨DBG_C_STAT_WERR, 5, .w1c⟩, ⟨DBG_C_STAT_HALTED, 4, .ro⟩, ⟨DBG_C_STAT_CAUSE, 0, .ro⟩]⟩,
  ⟨8, 1, 0, [⟨DBG_C_RSEL_SEL, 0, .rw⟩]⟩,
  ⟨12, 1, 0, [⟨DBG_C_RDATA_VALUE, 0, .rw⟩]⟩,
  ⟨16, 4, 4, [⟨DBG_C_BP_EN, 31, .rw⟩, ⟨DBG_C_BP_ADDR, 0, .rw⟩]⟩
  ]

/-- The registers of block PIN. -/
def regsPIN : List RegRow :=
  [
  ⟨0, 1, 0, [⟨PIN_GPIO_IN_IN, 0, .ro⟩]⟩,
  ⟨4, 1, 0, [⟨PIN_GPIO_OUT_OUT, 0, .rw⟩]⟩,
  ⟨8, 1, 0, [⟨PIN_GPIO_OE_OE, 0, .rw⟩]⟩,
  ⟨12, 1, 0, [⟨PIN_TPIN_IN_IN, 0, .ro⟩]⟩,
  ⟨16, 1, 0, [⟨PIN_MISC_WAKE, 2, .ro⟩, ⟨PIN_MISC_CLKREQ, 1, .ro⟩, ⟨PIN_MISC_PERST, 0, .ro⟩]⟩,
  ⟨20, 1, 0, [⟨PIN_EOGRP_EVER, 8, .w1c⟩, ⟨PIN_EOGRP_CUT, 0, .ro⟩]⟩,
  ⟨24, 1, 0, [⟨PIN_VIOSTAT_G, 16, .ro⟩, ⟨PIN_VIOSTAT_E, 0, .ro⟩]⟩,
  ⟨256, 48, 4, [⟨PIN_CFG_OPT, 8, .wl⟩, ⟨PIN_CFG_FUNC, 0, .wl⟩]⟩
  ]

end Sys2Proof.Machine
end

