-- ==== Sys2Proof/Machine/Ops.lean ====
section
/-!
DEFINITION. The shared operations: sparse maps, the register store, time, free values, fault flags and the interrupt
sources behind them, MSI-X messages, publishing on Ground, and the record of register-space bus errors.
-/
namespace Sys2Proof.Machine
open F

/-! ## Sparse maps: an unlisted key reads as the default. -/

/-- The value at a key. -/
def mget {α : Type} (m : List (Nat × α)) (d : α) (k : Nat) : α :=
  match m with
  | [] => d
  | (k', v) :: t => if k' = k then v else mget t d k

/-- Without a key. -/
def mdel {α : Type} (m : List (Nat × α)) (k : Nat) : List (Nat × α) :=
  m.filter (fun p => decide (p.1 ≠ k))

/-- With a new key at its place in ascending order. -/
def mins {α : Type} (m : List (Nat × α)) (k : Nat) (v : α) : List (Nat × α) :=
  match m with
  | [] => [(k, v)]
  | p :: t => if k < p.1 then (k, v) :: p :: t else p :: mins t k v

/-- Set the value at a key; the default is not listed. -/
def mset {α : Type} [DecidableEq α] (m : List (Nat × α)) (d : α) (k : Nat) (v : α) : List (Nat × α) :=
  if v = d then mdel m k else mins (mdel m k) k v

/-! ## Numbers -/

/-- Bits hi down to lo of a word. -/
def bits (v hi lo : Nat) : Nat := v / 2 ^ lo % 2 ^ (hi - lo + 1)

/-- Bit b of a word. -/
def bit (v b : Nat) : Bool := v / 2 ^ b % 2 = 1

/-- The word with bit b set or cleared. -/
def setBit (v b : Nat) (x : Bool) : Nat :=
  if bit v b = x then v else if x then v + 2 ^ b else v - 2 ^ b

/-- A truth value as a bit. -/
def b2n (b : Bool) : Nat := if b then 1 else 0

/-- Two's complement reading of a w-bit value. -/
def toS (w v : Nat) : Int :=
  let u := v % 2 ^ w
  if u < 2 ^ (w - 1) then (u : Int) else (u : Int) - 2 ^ w

/-- The w-bit two's complement form of an integer. -/
def ofS (w : Nat) (x : Int) : Nat := (x % 2 ^ w).toNat

/-- Clamp to a signed range of w bits. -/
def satS (w : Nat) (x : Int) : Int :=
  if x < -(2 ^ (w - 1)) then -(2 ^ (w - 1)) else if 2 ^ (w - 1) - 1 < x then 2 ^ (w - 1) - 1 else x

/-- One, saturating at a bound. -/
def satInc (v top : Nat) : Nat := if v < top then v + 1 else v

/-- Little-endian bytes of a value. -/
def leBytes : Nat → Nat → List (BitVec 8)
  | 0, _ => []
  | n + 1, v => BitVec.ofNat 8 v :: leBytes n (v / 256)

/-- The value of little-endian bytes. -/
def ofLE : List (BitVec 8) → Nat
  | [] => 0
  | b :: t => b.toNat + 256 * ofLE t

/-! ## Registers -/

/-- The place of a field of an instance in the register store. -/
def regKey (f : Field) (i : Nat) : Nat := 1024 * i + f.key.val

/-- The value of a register field. -/
def State.rd (s : State) (f : Field) (i : Nat) : Nat := mget s.regs f.rst (regKey f i)

/-- Set a register field, cut to its width. -/
def State.wr (s : State) (f : Field) (i v : Nat) : State :=
  { s with regs := mset s.regs f.rst (regKey f i) (v % 2 ^ f.w) }

/-- A one-bit field as a truth value. -/
def State.on (s : State) (f : Field) (i : Nat) : Bool := s.rd f i != 0

/-- Set a one-bit field. -/
def State.wrb (s : State) (f : Field) (i : Nat) (b : Bool) : State := s.wr f i (if b then 1 else 0)

/-- A wrapping count of n more. -/
def State.addTo (s : State) (f : Field) (i n : Nat) : State := s.wr f i (s.rd f i + n)

/-- A count of one more that saturates at the field's largest value. -/
def State.satAdd (s : State) (f : Field) (i : Nat) : State := s.wr f i (satInc (s.rd f i) (2 ^ f.w - 1))

/-- The flags of a W1C field that the device has set in the present FAB cycle (R12). -/
def State.raisedNow (s : State) (f : Field) (i : Nat) : Nat := if s.raised.1 = s.et / 64 then mget s.raised.2 0 (regKey f i) else 0

/-- The device sets flags, the ones of v, of a W1C field: a write of 1 in the same FAB cycle does not clear them (R12). Log entry 83 (DEDUCED). -/
def State.raise (s : State) (f : Field) (i v : Nat) : State :=
  let l := if s.raised.1 = s.et / 64 then s.raised.2 else []
  { s.wr f i (s.rd f i ||| v) with raised := (s.et / 64, mset l 0 (regKey f i) (s.raisedNow f i ||| v)) }

/-- What a W1C field holds after a write of v (R12). -/
def State.cleared1 (s : State) (f : Field) (i v : Nat) : Nat :=
  let x := s.rd f i
  (x - (x &&& v)) ||| (x &&& s.raisedNow f i)

/-- Set several fields of one instance. -/
def State.wrs (s : State) (i : Nat) (l : List (Field × Nat)) : State :=
  l.foldl (fun s p => s.wr p.1 i p.2) s

/-- Put fields of an instance back to their reset values. -/
def State.rstFields (s : State) (i : Nat) (l : List Field) : State :=
  l.foldl (fun s f => s.wr f i f.rst) s

/-- The initiator number of SYS_ADDRERR_INFO.INIT (R30): every VF is 18. -/
def initNum : Initiator → Nat
  | .core c => c
  | .pf0 => 16
  | .pf1 => 17
  | .vf _ => 18
  | .dma e => 20 + e
  | .dap => 24

/-! ## Time -/

/-- Device time in ticks at an instant (R8, R26): one tick for each FAB cycle, or 32 ticks for each AON cycle while the control PLL is off or
relocks (R293, R294). Log entry 11 (DESIGN CHOICE). -/
def State.tickAt (s : State) (t : Nat) : Nat :=
  (match s.pace with
    | some (e, v) => v + 32 * (t / 2048 - e)
    | none => ((t / 64 : Nat) + s.dt0).toNat) % 2 ^ 64

/-- Device time in ticks. -/
def State.tick (s : State) : Nat := s.tickAt s.et

/-- The instant at which device time reaches a tick. -/
def State.etOf (s : State) (t : Nat) : Nat :=
  match s.pace with
  | some (e, v) => 2048 * (e + (t - v + 31) / 32)
  | none => ((t : Int) - s.dt0).toNat * 64

/-- Device time goes on by the AON oscillator, and by the FAB clock again (R293). -/
def State.startPace (s : State) : State := if s.pace.isSome then s else { s with pace := some (s.et / 2048, s.tick) }
def State.endPace (s : State) : State :=
  if s.pace.isSome then { s with pace := none, dt0 := (s.tick : Int) - (s.et / 64 : Nat) } else s

/-- Let time reach an instant. -/
def State.reach (s : State) (t : Nat) : State := { s with et := max s.et t }

/-- A quotient rounded up. -/
def ceilDiv (a b : Nat) : Nat := (a + b - 1) / b

/-- A number of microseconds in steps. -/
def usec (n : Nat) : Nat := 51200 * n

/-- Run the effect of a timed event that is due, at its instant; nothing if it is not scheduled. Log entry 4 (DESIGN CHOICE). -/
def State.due (s : State) (d : Option Nat) (f : State → State) : State :=
  match d with
  | none => s
  | some t => f (s.reach t)

/-- A fresh value that nothing constrains, and the count moved on (log entry 3). -/
def State.fresh (s : State) : Nat := Config.freeNat s.fv

/-- Bytes for which no rule gives a value, from a fresh value. -/
def freshBytes (v n : Nat) : List (BitVec 8) := (List.range n).map fun i => BitVec.ofNat 8 (v / 2 ^ (8 * i))

/-- The count of fresh values moved on. -/
def State.drawn (s : State) : State := { s with fv := s.fv + 1 }

/-- An instant that the specification bounds only from above: now plus a fresh delay of at most the bound. -/
def State.within (s : State) (bound : Nat) : Nat := s.et + s.fresh % (bound + 1)

/-- A message leaves the part. Log entry 78 (DESIGN CHOICE). -/
def State.emit (s : State) (o : Out) : State := { s with out := o :: s.out }

/-! ## The queue of outbound writes (R323, R393, R421) -/

/-- The queued writes whose instants have come leave in order. -/
def State.outLeave (s : State) : State :=
  { s with outq := s.outq.filter (fun q => decide (s.et < q.1)),
           out := ((s.outq.filter fun q => decide (q.1 ≤ s.et)).map fun q => Out.hostWrite q.2.1 q.2.2).reverse ++ s.out }

/-- Every queued write leaves: a read does not pass them (R421). -/
def State.outFlush (s : State) : State :=
  { s with outq := [], out := (s.outq.map fun q => Out.hostWrite q.2.1 q.2.2).reverse ++ s.out }

/-- The first instant at which one of the 16 entries of the queue is free (R323). -/
def State.outRoom (s : State) : Nat :=
  let q := (s.outq.map (·.1)).filter fun t => decide (s.et < t)
  if q.length < 16 then s.et else q.getD (q.length - 16) s.et

/-- A posted write enters the queue, and leaves after those before it, when the link takes it: an instant no rule gives. Log entry 67 (DESIGN CHOICE). -/
def State.outPut (s : State) (a : Nat) (l : List (BitVec 8)) : State :=
  let s := s.outLeave
  let t := max s.outRoom ((s.outq.getLast?.map (·.1)).getD 0) + s.fresh
  (({ s with outq := s.outq ++ [(t, a, l)] }).drawn).outLeave

/-! ## PCIe functions and MSI-X (R422, R423) -/

def State.fn (s : State) (f : Nat) : PcieFn := mget s.fns {} f
def State.setFn (s : State) (f : Nat) (x : PcieFn) : State := { s with fns := mset s.fns {} f x }

/-- A word of a function's configuration space that software wrote; reset 0. -/
def PcieFn.word (x : PcieFn) (o : Nat) : Nat := mget x.cfg 0 o

/-- MSI-X Enable and Function Mask: bits 31 and 30 of the word at 0x050 (log entry 21). -/
def PcieFn.msixEn (x : PcieFn) : Bool := bit (x.word 0x50) 31
def PcieFn.fmask (x : PcieFn) : Bool := bit (x.word 0x50) 30

/-- The Mask bit of a vector, 1 at reset (log entry 21). -/
def PcieFn.vmask (x : PcieFn) (v : Nat) : Bool := bit (mget x.tbl 1 (4 * v + 3)) 0

/-- D3hot of the Power Management capability (R431; log entry 21). -/
def PcieFn.d3 (x : PcieFn) : Bool := x.word 0x44 % 4 == 3

/-- A vector can send now (R423); a function in D3hot issues nothing (R431). -/
def PcieFn.open (x : PcieFn) (v : Nat) : Bool := x.msixEn && !x.fmask && !x.vmask v && !x.d3

/-- A vector's source rises: one message, or the pending bit while masked (R423). -/
def State.vecRise (s : State) (f v : Nat) : State :=
  let x := s.fn f
  if x.open v then s.emit (.msix f v)
  else s.setFn f { x with pend := v :: x.pend.filter (· ≠ v) }

/-- A vector's source falls: a pending bit is cleared (R423). -/
def State.vecFall (s : State) (f v : Nat) : State :=
  let x := s.fn f
  s.setFn f { x with pend := x.pend.filter (· ≠ v) }

/-- A software pulse of a vector: one message, or pending until it can be sent (R423). -/
def State.vecPulse (s : State) (f v : Nat) : State :=
  let x := s.fn f
  if x.open v then s.emit (.msix f v)
  else s.setFn f { x with pend := v :: x.pend.filter (· ≠ v), pulse := v :: x.pulse.filter (· ≠ v) }

/-- Bus Master Enable of the Command register (R420; log entry 21). -/
def PcieFn.bme (x : PcieFn) : Bool := bit (x.word 0x04) 2

/-- The link is up. -/
def State.linkUp (s : State) : Bool := decide (2 ≤ s.rd PCIE_LINK_LSTATE 0)

/-- A function-level reset of function f is in progress (R427), or it is in reset or held (R479). -/
def State.inFlr (s : State) (f : Nat) : Bool :=
  (match (s.fn f).flr with | some t => decide (s.et < t) | none => false) || decide (2 ≤ (mget s.frst {} (0x100 + f)).phase)

/-- Function f may issue requests (R420, R431). -/
def State.issues (s : State) (f : Nat) : Bool := s.linkUp && (s.fn f).bme && !(s.fn f).d3 && !s.inFlr f

/-- A flag register with its enables, over its instances: some enabled flag is set. -/
def State.anyFlag (s : State) (fl ie : Field) (n : Nat) : Bool :=
  (List.range n).any (fun i => (s.rd fl i &&& s.rd ie i) != 0)

/-- The level of device line l, 0 to 15 (R333, R334, Table 14.2): some enabled flag behind it is set. -/
def State.line (s : State) (l : Nat) : Bool :=
  if l < 4 then
    ((List.range 16).any fun k =>
      let i := 16 * l + k
      (s.on GT_STAT_MATCH i && s.on GT_IEN_MATCH_IE i) || (s.on GT_STAT_END i && s.on GT_IEN_END_IE i)
        || (s.on GT_STAT_OVR i && s.on GT_IEN_OVR_IE i))
    || (s.rd TG_FAULT_FLAGS l &&& s.rd TG_FIEN_IE l) != 0
  else if l = 4 then s.anyFlag MOD_FAULT_FLAGS MOD_FIEN_IE 64
  else if l = 5 then s.anyFlag MC_FAULT_FLAGS MC_FIEN_IE 16
  else if l = 6 then s.anyFlag LE_FAULT_FLAGS LE_FIEN_IE 48
  else if l = 7 then s.anyFlag L_FAULT_FLAGS L_FIEN_IE 48
  else if l < 12 then
    (s.rd DMA_FAULT_FLAGS (l - 8) &&& s.rd DMA_FIEN_IE (l - 8)) != 0
      || ((List.range 8).any fun c => s.on DMAC_STAT_DONEF (8 * (l - 8) + c) && s.on DMAC_CTL_DONEIE (8 * (l - 8) + c))
  else if l = 12 then s.anyFlag CAP_FAULT_FLAGS CAP_FIEN_IE 1
  else if l = 13 then s.anyFlag NVM_FAULT_FLAGS NVM_FIEN_IE 1 || (s.on NVM_STAT_DONE 0 && s.on NVM_STAT_DONEIE 0)
  else if l = 14 then s.anyFlag PWR_FAULT_FLAGS PWR_FIEN_IE 1 || s.anyFlag FRST_SYSFAULT_FLAGS FRST_SYSFIEN_IE 1
  else if l = 15 then s.anyFlag B_FAULT_FLAGS B_FIEN_IE 2
  else false

/-- The pricking interrupt of PRK_IEN: a completion, an error or a refused write under the lock that is enabled. -/
def State.prkIrq (s : State) : Bool :=
  (s.on PRK_STATUS_DONE 0 && s.on PRK_IEN_DONE_IE 0) || (s.on PRK_STATUS_ERR 0 && s.on PRK_IEN_ERR_IE 0)
    || (s.on PRK_LOCKERR_INFO_VALID 0 && s.on PRK_IEN_LOCK_IE 0)

/-- The level behind a PF0 vector (R422, Table 18.5); software vectors, AER and the reserved vector have none here. -/
def State.vec (s : State) (v : Nat) : Bool :=
  if v = 0 then s.prkIrq
  else if v = 1 then s.on PLW_STAT_OVERF 0
  else if v = 2 then s.anyFlag GND_FAULT_FLAGS GND_FIEN_IE 1
  else if v = 3 then s.anyFlag SPR_FAULT_FLAGS SPR_FIEN_IE 1
  else if v = 4 then s.anyFlag CP_FAULT_FLAGS CP_FIEN_IE 16
  else if v < 9 then s.line (v - 5)
  else if v < 21 then s.line (v - 5)
  else if v = 21 then s.anyFlag PCIE_FAULT_FLAGS PCIE_FIEN_IE 1
  else false

/-- After an effect, a PF0 vector whose source rose or fell acts on its message or pending bit (R423). -/
def State.edge (v : Nat) (s t : State) : State :=
  if s.vec v then (if t.vec v then t else t.vecFall 0 v)
  else if t.vec v then t.vecRise 0 v else t

/-- As State.edge, for every hardware vector. -/
def State.edges (s t : State) : State := (List.range 22).foldl (fun t v => State.edge v s t) t

/-- Set a bit of a fault register and let the vector behind it act. -/
def State.setFlag (s : State) (v : Nat) (fl : Field) (i b : Nat) : State :=
  State.edge v s (s.raise fl i (2 ^ b))

/-! ## Function resets (R479 to R481) -/

/-- The reset of function f in progress or held. -/
def State.fnRst (s : State) (f : Nat) : FnRst := mget s.frst {} f

/-- Function f is in its reset phase or held: it behaves as during its reset. -/
def State.fnHeld (s : State) (f : Nat) : Bool := decide (2 ≤ (s.fnRst f).phase)

/-- Function f accepts no new unit: it drains, or is in reset or held. -/
def State.fnDrains (s : State) (f : Nat) : Bool := decide (1 ≤ (s.fnRst f).phase)

/-! ## Ground (R243 to R246) -/

/-- Put an event of a channel in flight, to be delivered at a device time; a channel carries at most one event per cycle
(R244). -/
def State.fly (s : State) (c t : Nat) : State :=
  if (c, t) ∈ s.flight then s else { s with flight := s.flight ++ [(c, t)] }

/-- A channel that carries a ring sample to another seat: the port takes its strobe from the crossbar, not from a hop (R443). -/
def State.ringOut (s : State) (c : Nat) : Bool := decide (s.rd EC_CFG_PROD c < 64) && decide (0xF000 ≤ s.rd EC_CFG_CONS c)

/-- A producer raises an event whose publication cycle begins at device time p: it leaves each of its channels' hops at the
edge that ends cycle p + 1 (R244, R246). -/
def State.publishAt (s : State) (prod p : Nat) : State :=
  (s.ecUsed.filter (fun c => decide (s.rd EC_CFG_PROD c = prod) && !s.ringOut c)).foldl (fun s c => s.fly c (p + 2)) s

/-- A producer does not raise the event it was to raise at device time p. -/
def State.unpublishAt (s : State) (prod p : Nat) : State :=
  { s with flight := s.flight.filter fun f => !(decide (f.2 = p + 2) && f.1 ∈ s.ecUsed && decide (s.rd EC_CFG_PROD f.1 = prod)) }

/-- A producer raises an event now. Log entry 34 (DESIGN CHOICE). -/
def State.publish (s : State) (prod : Nat) : State := s.publishAt prod s.tick

/-- The pricking interrupt after an effect on PRK_LOCKERR_INFO: its vector, and its Ground producer where VALID rises with LOCK_IE set (R65,
R244). -/
def State.prkEdge (s t : State) : State :=
  let r := State.edge 0 s t
  if !s.on PRK_LOCKERR_INFO_VALID 0 && t.on PRK_LOCKERR_INFO_VALID 0 && t.on PRK_IEN_LOCK_IE 0 then r.publish 0xC00 else r

/-! ## Banks of shared SRAM (R239 to R241) -/

/-- The parity of a word's bits. -/
def parity (n v : Nat) : Bool := (List.range n).foldl (fun b i => b != bit v i) false

/-- Mask i of the hash key: every bit position is set in at least one of the four (R240). -/
def State.bankMask (s : State) (i : Nat) : BitVec 15 :=
  let m := Config.bankMask s.bankKey
  if i = 3 then m 3 ||| ~~~(m 0 ||| m 1 ||| m 2) else m i

/-- Bank, row and byte within the line of an offset A in shared SRAM (R239). -/
def State.bankOf (s : State) (a : Nat) : Nat :=
  ((List.range 4).map fun i => if bit a (6 + i) != parity 15 (bits a 24 10 &&& (s.bankMask i).toNat) then 2 ^ i else 0).sum
def bankRow (a : Nat) : Nat := bits a 24 10
def lineByte (a : Nat) : Nat := a % 64

/-- A new hash key (R240). -/
def State.reseed (s : State) : State := ({ s with bankKey := s.fv }).drawn.addTo PLW_HASHGEN_GEN 0 1

/-- An access to the line at an offset is made in FAB cycle c: it waits until its bank is free (R241). -/
def State.bankLine (s : State) (a c : Nat) : State :=
  let b := s.bankOf a
  let g := max c (mget s.bankFree 0 b)
  let n := g - max c s.bankWait
  ({ s with bankFree := mset s.bankFree 0 b (g + 1), bankWait := max s.bankWait g }).addTo PLW_BANKCONF_COUNT 0 n

/-- Count the lines of a shared-SRAM access of n bytes at an offset (R241); each reaches its bank a fresh number of cycles after the one before.
Log entry 80 (DESIGN CHOICE). -/
def State.bankCount (s : State) (off n : Nat) : State :=
  let l := off / 64
  let k := (off + n - 1) / 64 - l + 1
  ((List.range k).foldl (fun (q : State × Nat) i =>
    let c := q.2 + q.1.fresh
    (q.1.drawn.bankLine (64 * (l + i)) c, c)) (s.addTo PLW_BANKACC_COUNT 0 k, s.et / 64)).1

/-! ## The ring (R234, R434, R443) -/

/-- The hops from a source seat to seat k and the links they cross, rising (by B1) or falling; a link has the number of the seat whose
B1 it joins. -/
def ringLinks (n src k : Nat) (rising : Bool) : List Nat :=
  if rising then (List.range ((k + n - src) % n)).map fun i => (src + i) % n
  else (List.range ((src + n - k) % n)).map fun i => (k + i) % n

/-- The path of a ring sample or global event from a seat to another, by the links that are up: arrival port, 1 B0 or 2 B1, hops, and whether no path
is intact (R234). -/
def ringPath (links : List Nat) (n src k : Nat) : Nat × Nat × Bool :=
  let up := ringLinks n src k true
  let dn := ringLinks n src k false
  let ok (l : List Nat) : Bool := l.all fun i => decide (i ∈ links)
  let rising := decide (up.length ≤ dn.length)
  let a := if rising then (1, up) else (2, dn)
  let b := if rising then (2, dn) else (1, up)
  if ok a.2 then (a.1, a.2.length, false) else if ok b.2 then (b.1, b.2.length, false) else (a.1, a.2.length, true)

/-- SEAT and RING of the plan the ports train with; seat 0 of 1 without one (R433). -/
def State.seat (s : State) : Nat := s.bplan.getD 0 0
def State.ring (s : State) : Nat := s.bplan.getD 1 1

/-- The links of a path that arrives by a port are up now. -/
def State.pathUp (s : State) (n src k port : Nat) : Bool := (ringLinks n src k (port == 1)).all fun i => decide (i ∈ s.linksUp)

/-- The path of global events between two seats, as the last placement left it (R238, R258). -/
def State.eventPath (s : State) (src k : Nat) : Nat × Nat × Bool := ringPath s.place.links s.ring src k

/-- Send an item to a seat on the path that the last placement gave it; nothing where that crosses a break (R258, R443, R446). The path leaves by B1
when it arrives by B0. -/
def State.ringSend (s : State) (seat ec : Nat) (ring : Bool) (value qual seq per time : Nat) : State :=
  let p := s.eventPath s.seat seat
  if p.2.2 || !s.pathUp s.ring s.seat seat p.1 then s else s.emit (.braidItem (if p.1 = 1 then 1 else 0) seat ec ring value qual seq per time)

/-! ## Error records with a count (R30, R31, R34, R55, R353, R500) -/

/-- What the present FAB cycle added to log k. -/
def State.logNow (s : State) (k : Nat) : LogCyc :=
  let l := mget s.logs {} k
  if l.cyc = s.et / 64 then l else { cyc := s.et / 64 }

/-- Of a cycle's errors the one whose initiator has the lowest number, the first of equals. -/
def lowestErr : List (Nat × List Nat) → Option (Nat × List Nat)
  | [] => none
  | e :: t => match lowestErr t with | some x => if x.1 < e.1 then some x else some e | none => some e

/-- Put the values of a record's fields. -/
def State.logPut (s : State) (fs : List Field) (e : Nat × List Nat) : State := s.wrs 0 (fs.zip e.2)

/-- An error of an initiator enters a log: it counts, and it is recorded if VALID is 0, or if the record was made in the same FAB cycle by an
initiator of a higher number (R30, R31). Log entry 84 (DEDUCED). -/
def State.logErr (s : State) (k : Nat) (valid count : Field) (fs : List Field) (ini : Nat) (vals : List Nat) : State :=
  let l := s.logNow k
  let low := match lowestErr l.errs with | some x => decide (ini < x.1) | none => false
  let s := s.satAdd count 0
  let take := !s.on valid 0 || (l.made && low)
  let s := if take then (s.logPut fs (ini, vals)).raise valid 0 1 else s
  { s with logs := mset s.logs {} k { l with made := l.made || take, errs := l.errs ++ [(ini, vals)] } }

/-- A write of 1 to VALID clears the record; errors of the same FAB cycle stay recorded and counted (R34). -/
def State.logClear (s : State) (k : Nat) (valid count : Field) (fs : List Field) : State :=
  let l := s.logNow k
  let s := s.rstFields 0 (valid :: count :: fs)
  match lowestErr l.errs with
  | none => s
  | some e => { ((s.logPut fs e).wr valid 0 1).wr count 0 (min l.errs.length (2 ^ count.w - 1)) with logs := mset s.logs {} k { l with made := true } }

/-- Record a refused access to register space (R30). -/
def State.addrErr (s : State) (ini : Nat) (addr kind : Nat) : State :=
  s.logErr 0 SYS_ADDRERR_INFO_VALID SYS_ADDRERR_INFO_COUNT [SYS_ADDRERR_INFO_KIND, SYS_ADDRERR_INFO_INIT, SYS_ADDRERR_ADDR_ADDR] ini [kind, ini, addr]

/-- Record a refused WL write by the rules of R30 and R31 (R55). -/
def State.lockErr (s : State) (ini addr : Nat) : State :=
  s.prkEdge (s.logErr 1 PRK_LOCKERR_INFO_VALID PRK_LOCKERR_INFO_COUNT [PRK_LOCKERR_INFO_INIT, PRK_LOCKERR_ADDR_ADDR] ini [ini, addr])

/-- The lock takes effect (R52): the writes of WL fields of its FAB cycle are undone and judged as writes under it (R55). -/
def State.lockWl (s : State) : State :=
  let l := if s.wlNow.1 = s.et / 64 then s.wlNow.2 else []
  let s := l.foldl (fun s x => x.fields.foldl (fun s f => s.wr f.1 f.2.1 f.2.2.1) s) ((s.wr PRK_STATE_LOCKED 0 1))
  let s := { s with wlNow := (0, []) }
  l.reverse.foldl (fun s x => if x.fields.any (fun f => s.rd f.1 f.2.1 != f.2.2.2) then s.lockErr x.ini x.addr else s) s

end Sys2Proof.Machine
end

