-- ==== Sys2Proof/Machine/Crypto.lean ====
section
/-!
DEFINITION. The check functions that the pricking rules name: CRC-32C (R39), SHA-384 and ECDSA P-384 (R40). R39 gives the
CRC whole; the hash and the signature are the published standards (FIPS 180-4, FIPS 186-5), which the specification names
and does not repeat: PRESUMED, log entry 7.
-/
namespace Sys2Proof.Machine

/-- One bit of the reflected CRC register, polynomial 0x1EDC6F41 reflected. -/
def crcBit (c : BitVec 32) : BitVec 32 :=
  if c.getLsbD 0 then (c >>> 1) ^^^ 0x82F63B78#32 else c >>> 1

/-- One byte into the CRC register. -/
def crcByte (c : BitVec 32) (b : BitVec 8) : BitVec 32 :=
  (List.range 8).foldl (fun c _ => crcBit c) (c ^^^ b.zeroExtend 32)

/-- The CRC register after a byte string. The match has each byte's register evaluated before the next. -/
def crcFrom (c : BitVec 32) : List (BitVec 8) → BitVec 32
  | [] => c
  | b :: l => match (crcByte c b).toNat with
    | 0 => crcFrom 0 l
    | n + 1 => crcFrom (BitVec.ofNat 32 (n + 1)) l

/-- CRC-32C of a byte string (R39). -/
def crc32c (l : List (BitVec 8)) : BitVec 32 := ~~~(crcFrom 0xFFFFFFFF#32 l)

/-! ## SHA-384 -/

/-- The value of big-endian bytes. -/
def ofBE (l : List (BitVec 8)) : Nat := ofLE l.reverse

/-- The greatest number below r + 2^k whose power of degree d is at most n, found bit by bit. -/
def rootBits (d n : Nat) : Nat → Nat → Nat
  | 0, r => r
  | k + 1, r => rootBits d n k (if (r + 2 ^ k) ^ d ≤ n then r + 2 ^ k else r)

/-- The first 64 bits after the point of the root of degree d of a small number: the standard's rule for its constants. -/
def rootFrac (d p : Nat) : BitVec 64 := BitVec.ofNat 64 (rootBits d (p * 2 ^ (64 * d)) 72 0)

/-- The primes up to 409, the 80th. -/
def shaPrimes : List Nat := (List.range 410).filter fun p => decide (2 ≤ p) && (List.range p).all fun m => decide (m < 2) || p % m != 0

/-- The bytes after a message of n bytes that complete its blocks of 128: a one bit, zeros, and the length in bits. -/
def shaTail (n : Nat) : List (BitVec 8) :=
  0x80#8 :: (List.replicate ((111 + 127 * n) % 128) 0#8 ++ (leBytes 16 (8 * n)).reverse)

/-- A word turned right by each of some distances, all added without carry. -/
def turns (x : BitVec 64) (by_ : List Nat) : BitVec 64 := (by_.map x.rotateRight).foldr (· ^^^ ·) 0

/-- The working words, a to h, and the next sixteen words of the message schedule. -/
structure ShaSt where
  work : List (BitVec 64)
  next : List (BitVec 64)

/-- One round with its constant; the schedule moves on by one word. -/
def ShaSt.round (t : ShaSt) (k : BitVec 64) : ShaSt :=
  match t.work, t.next with
  | [a, b, c, d, e, f, g, h], w0 :: w =>
    let x := w.getD 0 0
    let y := w.getD 13 0
    let m := h + k + w0 + turns e [14, 18, 41] + (g ^^^ (e &&& (f ^^^ g)))
    { work := [m + turns a [28, 34, 39] + ((b &&& c) ||| (a &&& (b ||| c))), a, b, c, d + m, e, f, g]
      next := w ++ [w0 + w.getD 8 0 + (turns x [1, 8] ^^^ x >>> 7) + (turns y [19, 61] ^^^ y >>> 6)] }
  | _, _ => t

/-- The chaining words after the next block of some bytes. -/
def shaChain (ks : List (BitVec 64)) (v : List (BitVec 64)) (l : List (BitVec 8)) : List (BitVec 64) :=
  let w := (List.range 16).map fun i => BitVec.ofNat 64 (ofBE ((l.drop (8 * i)).take 8))
  ((ks.foldl ShaSt.round ⟨v, w⟩).work.zip v).map fun p => p.1 + p.2

/-- The SHA-384 digest as a number (big-endian). -/
def sha384 (l : List (BitVec 8)) : Nat :=
  let m := l ++ shaTail l.length
  let ks := shaPrimes.map (rootFrac 3)
  let v := (List.range (m.length / 128)).foldl (fun v i => shaChain ks v (m.drop (128 * i))) (((shaPrimes.drop 8).take 8).map (rootFrac 2))
  ofBE ((v.take 6).flatMap fun x => (leBytes 8 x.toNat).reverse)

/-! ## P-384 -/

def p384p : Nat := 2 ^ 384 - 2 ^ 128 - 2 ^ 96 + 2 ^ 32 - 1
def p384n : Nat := 0xffffffffffffffffffffffffffffffffffffffffffffffffc7634d81f4372ddf581a0db248b0a77aecec196accc52973
def p384b : Nat := 0xb3312fa7e23ee7e4988e056be3f82d19181d9c6efe8141120314088f5013875ac656398d8a2ed19d2a85c8edd3ec2aef
def p384gx : Nat := 0xaa87ca22be8b05378eb1c71ef320ad746e1d3b628ba79b9859f741e082542a385502f25dbf55296c3a545e3872760ab7
def p384gy : Nat := 0x3617de4a96262c6f5d9e98bf9292dc29f8f41dbd289a147ce9da3113b5f0b8c00a60b1ce1d7e819d7a431d7c90ea0e5f

/-- Modular power by squaring, over a number of exponent bits. -/
def modPow (m : Nat) : Nat → Nat → Nat → Nat
  | 0, _, _ => 1 % m
  | k + 1, b, e => (if e % 2 = 1 then b else 1) * modPow m k (b * b % m) (e / 2) % m

/-- Inverse modulo a prime. -/
def modInv (m x : Nat) : Nat := modPow m 384 (x % m) (m - 2)

/-- A difference modulo p. -/
def subP (a b : Nat) : Nat := (a + p384p - b % p384p) % p384p

/-- Continue with a number evaluated. -/
def forceNat {α : Type} (n : Nat) (f : Nat → α) : α := match n with
  | 0 => f 0
  | k + 1 => f (k + 1)

/-- A point of the curve in Jacobian coordinates: x = X / Z^2, y = Y / Z^3; Z = 0 is the point at infinity. -/
abbrev EcPoint : Type := Nat × Nat × Nat

/-- Twice a point. -/
def ecDbl (q : EcPoint) : EcPoint :=
  match q with
  | (x, y, z) =>
    forceNat (z * z % p384p) fun d => forceNat (y * y % p384p) fun g => forceNat (x * g % p384p) fun b =>
    forceNat (3 * subP x d * (x + d) % p384p) fun a => forceNat (subP (a * a) (8 * b)) fun x3 =>
    forceNat (subP (a * subP (4 * b) x3) (8 * g * g)) fun y3 => forceNat (2 * y * z % p384p) fun z3 => (x3, y3, z3)

/-- The sum of two points. -/
def ecAdd (p q : EcPoint) : EcPoint :=
  match p, q with
  | (x1, y1, z1), (x2, y2, z2) =>
    if z1 = 0 then (x2, y2, z2) else if z2 = 0 then (x1, y1, z1)
    else
      forceNat (x1 * z2 * z2 % p384p) fun u1 => forceNat (x2 * z1 * z1 % p384p) fun u2 =>
      forceNat (y1 * z2 * z2 * z2 % p384p) fun s1 => forceNat (y2 * z1 * z1 * z1 % p384p) fun s2 =>
      forceNat (subP u2 u1) fun h => forceNat (subP s2 s1) fun r =>
      if h = 0 then (if r = 0 then ecDbl (x1, y1, z1) else (1, 1, 0))
      else
        forceNat (u1 * h * h % p384p) fun v => forceNat (h * h * h % p384p) fun c => forceNat (subP (subP (r * r) c) (2 * v)) fun x3 =>
        forceNat (subP (r * subP v x3) (s1 * c)) fun y3 => forceNat (h * z1 * z2 % p384p) fun z3 => (x3, y3, z3)

/-- Scalar multiple over a number of scalar bits, added to a sum. -/
def ecMul : Nat → Nat → EcPoint → EcPoint → EcPoint
  | 0, _, _, a => a
  | k + 1, e, q, a => ecMul k (e / 2) (ecDbl q) (if e % 2 = 1 then ecAdd a q else a)

/-- The point lies on the curve. -/
def onCurve (x y : Nat) : Bool :=
  x < p384p && y < p384p && y * y % p384p = (x * x * x + (p384p - 3) * x + p384b) % p384p

/-- ECDSA verification of a digest under a public key. -/
def ecdsaVerify (digest qx qy r s : Nat) : Bool :=
  if onCurve qx qy && 0 < r && r < p384n && 0 < s && s < p384n then
    let w := modInv p384n s
    let u1 := digest * w % p384n
    let u2 := r * w % p384n
    match ecMul 384 u2 (qx, qy, 1) (ecMul 384 u1 (p384gx, p384gy, 1) (1, 1, 0)) with
    | (x, _, z) => z != 0 && x * modInv p384p (z * z) % p384p % p384n == r
  else false

end Sys2Proof.Machine
end

