-- ==== Sys2Proof/Machine/CapItems.lean ====
section
/-!
DEFINITION. Capture streams: staging an item, forming a block, and what is lost (R394, R397, R398, R405, R406).
-/
namespace Sys2Proof.Machine
open F

def State.stream (s : State) (i : Nat) : Stream := mget s.streams {} i
def State.setStream (s : State) (i : Nat) (x : Stream) : State := { s with streams := mset s.streams {} i x }

/-- Bytes of one item of a kind; a raw code is half a byte (Table 17.3). -/
def itemBytes (kind : Nat) : Nat := if kind = 2 then 4 else if kind = 3 then 16 else if kind = 4 then 8 else 1

/-- Items in a payload of n bytes. -/
def itemsIn (kind n : Nat) : Nat := if kind = 1 then 2 * n else n / itemBytes kind

/-- Items are lost for a stream: its drop count, the count of its next block, and a gap (R397). -/
def State.loseItems (s : State) (i n : Nat) : State :=
  let x := s.stream i
  (s.setStream i { x with dropped := min (x.dropped + n) (2 ^ 32 - 1), gap := true }).addTo CAP_S_DROP_COUNT i n

/-- A capture fault: flag, code and detail (R410), on vector 17 (line 12). -/
def State.capFault (s : State) (b which : Nat) : State :=
  (s.wrs 0 [(CAP_FINFO_CODE, 0xD1 + b), (CAP_FINFO_WHICH, which)]).setFlag 17 CAP_FAULT_FLAGS 0 b

/-- Blocks of the device's own streams held in the streamer's buffer (R405). -/
def State.ownBuffered (s : State) : Nat := (s.capUsed.map fun i => (s.stream i).full.length).sum

/-- The stream forms a block from what it has staged (R398). It finds its share of 512 blocks full and is dropped (R405), or
it waits to be issued. -/
def State.formBlock (s : State) (i : Nat) : State :=
  let x := s.stream i
  let kind := s.rd CAP_S_CFG_KIND i
  let nb := if x.nibs.isEmpty then [] else [BitVec.ofNat 8 (x.nibs.getD 0 0)]
  let pay := x.pay ++ nb
  let seq := s.rd CAP_S_SEQ_COUNT i
  let empty := { x with pay := [], nibs := [], first := none, replayed := false }
  if 512 ≤ s.ownBuffered then
    let s := (s.setStream i empty).loseItems i (itemsIn kind pay.length)
    (s.addTo CAP_OWNDROP_COUNT 0 1).capFault 2 i
  else
    let b : CapBlock :=
      { kind := kind, stream := i, seat := s.rd SYS_CFG_SEAT 0, seq := seq, bytes := pay,
        dtime := x.first.getD 0, dropped := x.dropped, gap := x.gap, replayed := x.replayed }
    (s.setStream i { empty with full := x.full ++ [b], dropped := 0, gap := false }).wr CAP_S_SEQ_COUNT i (seq + 1)

/-- The oldest block of a stream of kind 3 or 4 is full and waits for its interval after the block before it (R397). -/
def State.capWaits (s : State) (i : Nat) : Bool :=
  let k := s.rd CAP_S_CFG_KIND i
  let x := s.stream i
  match x.full, x.lastIssue with
  | b :: _, some t => (k == 3 || k == 4) && decide (4064 ≤ b.bytes.length) && decide (s.et < t + ceilDiv (usec 4096) (max 1 (s.rd CAP_S_DIV_VALUE i)))
  | _, _ => false

/-- A stream that takes items now: it exists and runs, and capture is enabled where it feeds this device's ring (R394, R402).
A stream without a route takes its items as lost (R406). -/
def State.streamRuns (s : State) (i : Nat) : Bool :=
  s.on CAP_S_CFG_VALID i && s.on CAP_S_CTL_RUN i && (s.rd CAP_S_CFG_ROUTE i != 0 || s.on CAP_CTL_EN 0)

/-- A capture stream runs (R394, R431). -/
def State.capRuns (s : State) : Bool := s.on CAP_CTL_EN 0 && s.capUsed.any fun i => s.on CAP_S_CFG_VALID i && s.on CAP_S_CTL_RUN i

/-- The Latency Tolerance Reporting message that follows a change, while the link is up and the host has enabled the mechanism (R431; log entry 21). -/
def State.ltrNow (s : State) : State :=
  if s.linkUp && bit ((s.fn 0).word 0x88) 10 then
    (if s.ltr = some s.capRuns then s else { s with ltr := some s.capRuns, out := .ltr s.capRuns :: s.out })
  else { s with ltr := none }

/-- Stage nibbles and bytes of one item whose device time is t; the block is formed when the payload is full. -/
def State.stage (s : State) (i t : Nat) (nibs : List Nat) (bytes : List (BitVec 8)) (rep : Bool) : State :=
  let x := s.stream i
  if !s.streamRuns i then s
  else if s.on CAP_STAT_FROZEN 0 || s.rd CAP_S_CFG_ROUTE i = 3 then s.loseItems i (max nibs.length 1)
  else if s.capWaits i then s.loseItems i 1
  else
    let rec pack : List Nat → List (BitVec 8) × List Nat
      | a :: b :: t => let r := pack t; (BitVec.ofNat 8 (a + 16 * b) :: r.1, r.2)
      | l => ([], l)
    let p := pack (x.nibs ++ nibs)
    let y := { x with pay := x.pay ++ p.1 ++ bytes, nibs := p.2, first := some (x.first.getD t),
                      since := if x.first.isNone then s.et else x.since, replayed := x.replayed || rep }
    let s := s.setStream i y
    if 4064 ≤ y.pay.length then s.formBlock i else s

/-- A raw code of role n reaches the raw streams (R81, R394). -/
def State.capCode (s : State) (n c : Nat) (rep : Bool) : State :=
  s.capUsed.foldl (fun s i =>
    let src := s.rd CAP_S_CFG_SOURCE i
    if s.rd CAP_S_CFG_KIND i ≠ 1 then s
    else if src < 64 then (if src = n then s.stage i s.tick [c] [] rep else s)
    else
      let ms := if src = 0x200 then List.range 64 else (List.range 8).map (8 * (src - 0x100) + ·)
      if n ∉ ms then s
      else
        let x := s.stream i
        let asm := mset x.asm 16 n c
        if ms.all (fun m => mget asm 16 m != 16 || !(s.on MOD_CFG_EN m || (m % 2 == 1 && s.on MOD_CFG_ILV (m - 1) && s.on MOD_CFG_EN (m - 1)))) then
          (s.setStream i { x with asm := [] }).stage i s.tick (ms.map fun m => let v := mget asm 16 m; if v = 16 then 0 else v) [] rep
        else s.setStream i { x with asm := asm }) s

/-- A decimated sample of role n, published at boundary b of period p, reaches the sample streams (R394). -/
def State.capSample (s : State) (n b p value qual seq : Nat) : State :=
  s.capUsed.foldl (fun s i =>
    if s.rd CAP_S_CFG_KIND i = 2 && s.rd CAP_S_CFG_SOURCE i = n && b / p % max 1 (s.rd CAP_S_DIV_VALUE i) = 0 then
      s.stage i b [] (leBytes 4 (value % 2 ^ 24 + 2 ^ 24 * (qual % 4) + 2 ^ 26 * (seq % 64))) false
    else s) s

/-- An event delivered on a logged channel reaches the event log (R394, Table 17.3). -/
def State.capEvent (s : State) (ec : Nat) : State :=
  s.capUsed.foldl (fun s i =>
    if s.rd CAP_S_CFG_KIND i = 3 then
      s.stage i s.tick [] (leBytes 8 s.tick ++ leBytes 2 ec ++ leBytes 2 (s.rd EC_CFG_PROD ec) ++ leBytes 2 (s.rd EC_CFG_CONS ec)
        ++ leBytes 2 0) false
    else s) s

/-- A readback record of a leg reaches the edge streams (R191, R394, Table 17.3). -/
def State.capEdge (s : State) (k time : Nat) (dev : Int) (flags : Nat) : State :=
  s.capUsed.foldl (fun s i =>
    let src := s.rd CAP_S_CFG_SOURCE i
    if s.rd CAP_S_CFG_KIND i = 4 && (src = k || (src = 0x200) || (0x100 ≤ src && src < 0x108 && k / 6 = src - 0x100)) then
      s.stage i (time / 64) [] (leBytes 4 (time % 2 ^ 32) ++ leBytes 2 (ofS 16 dev) ++ leBytes 1 k ++ leBytes 1 flags) false
    else s) s

end Sys2Proof.Machine
end

