-- ==== Sys2Proof/Machine/Modulators.lean ====
section
/-!
DEFINITION. Modulator channels and decimation (spec/03): codes, overload, the decimator, publishing, input supervision,
spare swap and calibration, with the replay of recorded codes in place of a unit's (spec/17, R407 to R409).
-/
namespace Sys2Proof.Machine
open F

def State.munit (s : State) (u : Nat) : ModUnit := mget s.munits {} u
def State.setMunit (s : State) (u : Nat) (x : ModUnit) : State := { s with munits := mset s.munits {} u x }
def State.mrole (s : State) (n : Nat) : ModRole := mget s.mroles {} n
def State.setMrole (s : State) (n : Nat) (x : ModRole) : State := { s with mroles := mset s.mroles {} n x }
def State.minput (s : State) (n : Nat) : ModInput := mget s.minputs {} n
def State.setMinput (s : State) (n : Nat) (x : ModInput) : State := { s with minputs := mset s.minputs {} n x }
def State.mtile (s : State) (t : Nat) : ModTile := mget s.mtiles {} t
def State.setMtile (s : State) (t : Nat) (x : ModTile) : State := { s with mtiles := mset s.mtiles {} t x }

/-- A modulator fault: its flag, the channel's fault producer, and the interrupt of line 4 (R87). -/
def State.modFault (s : State) (n b : Nat) : State :=
  (s.setFlag 9 MOD_FAULT_FLAGS n b).publish (0x140 + n)

/-- The unit that carries role n (R28, R91). -/
def State.unitOf (s : State) (n : Nat) : Nat := mget (s.mtile (n / 8)).units n n

/-- The unit of tile t that carries no role (R28). -/
def State.freeUnit (s : State) (t : Nat) : Nat := (s.mtile t).free.getD (64 + t)

/-- The tile of a unit. -/
def unitTile (u : Nat) : Nat := if 64 ≤ u then u - 64 else u / 8

/-- The role that a unit carries, if any. -/
def State.roleOf (s : State) (u : Nat) : Option Nat :=
  if u = s.freeUnit (unitTile u) then none else ((List.range 8).map (8 * unitTile u + ·)).find? fun n => s.unitOf n == u

/-- The tile's unit without a role takes role n, and the unit that carried it is the one without (R91). -/
def State.takeRole (s : State) (n : Nat) : State :=
  let t := n / 8
  let ti := s.mtile t
  let u := s.unitOf n
  s.setMtile t { ti with units := mset ti.units n n (s.freeUnit t), free := if u = 64 + t then none else some u }

/-- Role n is input n+1 of an interleaved pair (R77). -/
def State.pairOdd (s : State) (n : Nat) : Bool := n % 2 = 1 && s.on MOD_CFG_ILV (n - 1) && s.on MOD_CFG_EN (n - 1)

/-- The role that publishes what role n converts: MOD n of a pair for both (R77). -/
def State.pubRole (s : State) (n : Nat) : Nat := if s.pairOdd n then n - 1 else n

/-- Role n converts: enabled, or the second unit of a pair. -/
def State.modOn (s : State) (n : Nat) : Bool := s.on MOD_CFG_EN n || s.pairOdd n

/-- The boundary period of role n in ticks (R72). -/
def State.period (s : State) (n : Nat) : Nat :=
  let d := max 4 (s.rd MOD_CFG_D n)
  if s.on MOD_CFG_ILV n then d else 2 * (s.rd MOD_CFG_RATE n + 1) * d

/-- One modulator period of a unit of role n in steps (R69). -/
def State.modPeriod (s : State) (n : Nat) : Nat := 128 * (s.rd MOD_CFG_RATE (s.pubRole n) + 1)

/-- Complete periods that settling takes (R75). -/
def State.settlePeriods (s : State) (n : Nat) : Nat := s.rd MOD_CFG_K n + (if s.on MOD_CFG_FIR n then 15 else 0)

/-- The first multiple of p at or after t. -/
def ceilTo (t p : Nat) : Nat := (t + p - 1) / p * p

/-- The boundary that ends settling counted from device time t (R75). -/
def State.settledBy (s : State) (n t : Nat) : Nat := ceilTo t (s.period n) + s.settlePeriods n * s.period n

/-! ## Decimation -/

/-- Sum over a sliding window of d items. -/
def boxcar (d : Nat) (l : List Nat) : List Nat :=
  (List.range (l.length + d - 1)).map fun i => ((l.drop (i + 1 - d)).take (if i < d then i + 1 else d)).sum

/-- The sinc^K weights of ratio D (R71). -/
def sincW (d : Nat) : Nat → List Nat
  | 0 => [1]
  | k + 1 => boxcar d (sincW d k)

/-- Twice the weighted sum S of R71. -/
def sincSum (d k : Nat) (h : List MCode) : Int :=
  ((h.map (fun c => 2 * (c.code : Int) - 15)).zip (sincW d k)).foldl (fun a p => a + p.1 * p.2) 0

/-- The reciprocal's deviation within the bound of R71, in units of 2^-40. -/
def recipDevB (d k : Nat) : Int := max (-(2 ^ 18 - 1)) (min (2 ^ 18 - 1) (Config.recipDev d k))

/-- The sinc output before saturation (R71). -/
def sincRaw (d k : Nat) (gain offset : Int) (h : List MCode) : Int :=
  let num := sincSum d k h * 2 ^ 23 * (2 ^ 40 + recipDevB d k) * (2 ^ 20 + gain)
  let den : Int := 15 * (d : Int) ^ k * 2 ^ 60
  Int.fdiv (2 * num + den) (2 * den) - offset

/-- The taps of role n (R74). -/
def State.taps (s : State) (n : Nat) : List Int :=
  (List.range 16).map fun j =>
    toS 16 (s.rd (if j % 2 = 0 then MOD_FIR_TAPA else MOD_FIR_TAPB) (8 * n + j / 2))

/-- The FIR output before saturation (R74), newest sinc output first. -/
def firRaw (taps ys : List Int) : Int :=
  let a := (taps.zip ys).foldl (fun a p => a + p.1 * p.2) 0
  Int.fdiv (2 * a + 16384) 32768

/-- The conditions that make samples of input n suspect (R80). -/
def State.suspect (s : State) (n : Nat) : Bool :=
  let i := s.minput n
  i.openP || i.openN || i.cmNow != 0

/-- Codes kept: the filter's window. -/
def State.window (s : State) (n : Nat) : Nat := s.rd MOD_CFG_K n * (s.rd MOD_CFG_D n - 1) + 1

/-- Clear the decimator and the FIR history of a role, and SETTLED (R75, R76). Log entry 32 (DEDUCED). -/
def State.clearRole (s : State) (n : Nat) : State :=
  let r := s.mrole n
  (s.setMrole n { r with hist := [], fir := [], settleAt := none }).wr MOD_STAT_SETTLED n 0

/-! ## Codes -/

/-- The kind 5 stream of role n, while its replay is active or pending (R408, R409). -/
def State.replayOf (s : State) (n : Nat) : Option Nat :=
  s.capUsed.find? fun i => s.rd CAP_S_CFG_KIND i = 5 && s.rd CAP_S_CFG_SOURCE i = n

/-- Replay of role n is active. -/
def State.replaying (s : State) (n : Nat) : Bool :=
  match s.replayOf (s.pubRole n) with
  | some i => s.on CAP_S_STAT_RPACT i
  | none => false

/-- Replay is active or pending, which holds swap requests of the role back (R408). -/
def State.replayHeld (s : State) (n : Nat) : Bool :=
  match s.replayOf n with
  | some i => s.on CAP_S_STAT_RPACT i || s.on CAP_S_STAT_RPPEND i
  | none => false

/-- A code of the shared SRAM replay buffer, and the stream moved on; substitutes 7 and 8 alternately when it is empty (R407,
R409). The stream's odd parity marks that the low nibble has been read. A line of the buffer is accessed for its first code (R241). Log entry 80
(DESIGN CHOICE). -/
def State.replayCode (s : State) (i : Nat) (sram : Nat → Nat) : Nat × State :=
  let x := s.stream i
  let fill := (s.rd CAP_S_RPWR_VALUE i + 2 ^ 32 - s.rd CAP_S_RPRD_VALUE i) % 2 ^ 32
  if fill = 0 then
    let s' := (s.setStream i { x with sub := (x.sub + 1) % 2, under := true }).addTo CAP_S_DROP_COUNT i 1
    (7 + x.sub % 2, if x.under then s' else s'.capFault 5 i)
  else
    let rd := s.rd CAP_S_RPRD_VALUE i
    let a := s.rd CAP_S_RPBASE_VALUE i + rd % max 1 (s.rd CAP_S_RPSIZE_VALUE i)
    let b := sram a
    if x.nibs.isEmpty then
      (b % 16, (if a % 64 = 0 then s.bankCount (a % 2 ^ 25) 1 else s).setStream i { x with nibs := [1], under := false })
    else (b / 16 % 16, (s.setStream i { x with nibs := [], under := false }).wr CAP_S_RPRD_VALUE i (rd + 1))

/-- The lanes bound to role n receive a code (R81, R132); a lane is numbered 4 * engine + lane. -/
def State.laneCodes (s : State) (n c : Nat) : State :=
  let ls := s.lanesOn.filter (fun l => decide (s.rd LE_RAW_CFG_MOD l = n))
  { s with laneIn := ls.foldl (fun m l => mset m [] l (mget m [] l ++ [c])) s.laneIn }

/-- The newest k codes of unit u in a decimator are overload codes. -/
def markOvl (u : Nat) : Nat → List MCode → List MCode
  | 0, h => h
  | _ + 1, [] => []
  | k + 1, c :: h => if c.unit = u then { c with ovl := true } :: markOvl u k h else c :: markOvl u (k + 1) h

/-- Unit u declares overload (R70): its episode begins or goes on, the 16 codes behind it are overload codes, a loop-filter reset of 8 MOD cycles
starts 4 MOD cycles on, and the role it carries raises the fault. Log entry 31 (DEDUCED). -/
def State.overload (s : State) (u : Nat) : State :=
  let t := unitTile u
  let s := s.setMunit u { s.munit u with ext := 0, episode := true, endAt := none, after := 0, resetDue := some (s.et + 12 * 128) }
  let s := s.setMtile t { s.mtile t with cur := (s.mtile t).cur.map fun w => { w with hist := markOvl u 16 w.hist } }
  match s.roleOf u with
  | none => s
  | some n =>
    let p := s.pubRole n
    (s.setMrole p { s.mrole p with hist := markOvl u 16 (s.mrole p).hist }).modFault n 0

/-- The 16th code after a loop-filter reset without a new declaration ends the overload, its episode dated at the end of that reset (R70). -/
def State.closeEpisode (s : State) (u : Nat) : State :=
  let x := s.munit u
  if !x.episode || x.endAt.isNone then s
  else if x.after + 1 < 16 then s.setMunit u { x with after := x.after + 1 }
  else s.setMunit u { x with episode := false, after := 0 }

/-- Run of extreme codes, overload and the end of an episode, after unit u delivered code c (R70). -/
def State.extremes (s : State) (u c : Nat) : State :=
  let x := s.munit u
  let run := if c = 0 || c = 15 then (if x.extVal = c && x.ext ≠ 0 then x.ext + 1 else 1) else 0
  let s := s.setMunit u { x with ext := run, extVal := c }
  if 16 ≤ run then s.overload u else s.closeEpisode u

/-- In a swap of one member of a pair, the parallel decimator combines the spare's codes with the other member's (R90). -/
def State.pairParallel (s : State) (n p : Nat) (c : MCode) : State :=
  let t := n / 8
  let ti := s.mtile t
  match ti.cur with
  | some w =>
    if w.req.role ≠ n && s.pubRole w.req.role = p && (w.phase = 3 || w.phase = 6) then
      s.setMtile t { ti with cur := some { w with hist := (c :: w.hist).take (s.window p) } }
    else s
  | none => s

/-- A code of unit u enters the decimator of its role, the raw lanes and capture (R69, R71, R81, R537). A unit that carries no
role feeds the parallel decimator of its tile's swap from b0 on (R90), and its overloads mark the codes there. -/
def State.modCode (s : State) (u c : Nat) (sram : Nat → Nat) : State :=
  let t := unitTile u
  let x := s.munit u
  if !x.valid || x.restart.isSome then s
  else
    match s.roleOf u with
    | some n =>
      if !s.modOn n then s
      else
        let s := s.reach (x.codeAt + s.modPeriod n)
        let s := s.setMunit u { s.munit u with codeAt := s.et }
        let p := s.pubRole n
        let rep := s.replaying n
        let (c, s) := match s.replayOf p with
          | some i => if rep then s.replayCode i sram else (c % 16, s)
          | none => (c % 16, s)
        let r := s.mrole p
        let e : MCode := ⟨c, u, !rep && x.resetDue.isSome⟩
        let s := s.setMrole p { r with hist := (e :: r.hist).take (s.window p) }
        let s := s.pairParallel n p e
        let s := (s.laneCodes n c).capCode n c rep
        if rep then s else s.extremes u c
    | none =>
      let ti := s.mtile t
      match ti.cur with
      | some w =>
        let n := w.req.role
        let s := s.reach (x.codeAt + s.modPeriod n)
        let s := s.setMunit u { s.munit u with codeAt := s.et }
        let s := if w.phase = 3 || w.phase = 6 then
            s.setMtile t { ti with cur := some { w with hist := (⟨c % 16, u, x.resetDue.isSome⟩ :: w.hist).take (s.window (s.pubRole n)) } }
          else s
        s.extremes u (c % 16)
      | none => s

/-- The loop-filter reset of unit u ends (R70). -/
def State.loopFilterEnd (s : State) (u : Nat) : State :=
  let x := s.munit u
  s.due x.resetDue fun s => s.setMunit u { s.munit u with resetDue := none, endAt := some s.tick, after := 0 }

/-- The function-reset restart of unit u (R76): valid codes, and settling counted from here. -/
def State.unitRestart (s : State) (u : Nat) : State :=
  let x := s.munit u
  s.due x.restart fun s =>
    let x := s.munit u
    let s := s.setMunit u { x with valid := true, restart := none, codeAt := s.et, ext := 0, resetDue := none, episode := false,
                                   endAt := none, after := 0 }
    match s.roleOf u with
    | none => s
    | some n =>
      let p := s.pubRole n
      let r := s.mrole p
      s.setMrole p { r with settleAt := some (s.settledBy p s.tick) }

/-! ## Samples -/

/-- The next boundary of role n (R72). -/
def State.nextB (s : State) (n : Nat) : Nat := ceilTo (max ((s.mrole n).lastB + 1) s.tick) (s.period n)

/-- Sinc output of a history under the trims of a unit, with its clamp. -/
def State.sincOut (s : State) (n u : Nat) (h : List MCode) : Int × Bool :=
  let x := s.munit u
  let y := sincRaw (s.rd MOD_CFG_D n) (s.rd MOD_CFG_K n) x.gain x.offset h
  (satS 24 y, satS 24 y != y)

/-- A swap whose spare runs in parallel starts at b0 (R90). -/
def State.swapAlign (s : State) (n b : Nat) : State :=
  let t := n / 8
  let ti := s.mtile t
  match ti.cur with
  | some w =>
    if s.pubRole w.req.role = n && w.b0 = some b then
      s.setMtile t { ti with cur := some { w with phase := w.phase + 1, hist := [] } }
    else s
  | none => s

/-- A request ends: what TILEt_SWAPSTAT records, and the tile free for the next (R88 to R94). -/
def State.swapDone (s : State) (t role code : Nat) : State :=
  let ti := s.mtile t
  (s.setMtile t { ti with cur := none }).wrs t [(TILE_SWAPSTAT_LASTMOD, role % 8), (TILE_SWAPSTAT_LASTCODE, code)]

/-- Connect the free unit to the input of the role, from now, at the role's rate and clock phase (R90); phase 2 or, on return, 5. -/
def State.swapConnect (s : State) (t : Nat) (r : SwapReq) (phase : Nat) : State :=
  let u := s.freeUnit t
  let s := s.setMunit u { s.munit u with valid := true, codeAt := (s.munit (s.unitOf r.role)).codeAt, ext := 0, restart := none, resetDue := none,
                                         episode := false, endAt := none, after := 0 }
  s.setMtile t { s.mtile t with cur := some { req := r, phase := phase, due := some (s.et + 128 * s.modPeriod r.role) } }

/-- A tile asks converter k for a calibration: requests in arrival order, those of one FAB cycle in ascending tile order (R109). -/
def State.calAsk (s : State) (t k : Nat) : State :=
  let m := mget s.mcs {} k
  let now := s.et / 64
  let l := m.cals.filter fun q => q.2 != now || decide (q.1 < t)
  { s with mcs := mset s.mcs {} k { m with cals := l ++ (t, now) :: m.cals.filter fun q => q.2 == now && decide (t < q.1) } }

/-- Boundary b_K: compare the two sinc outputs, switch or raise SWAP_MISMATCH (R91 to R93). The sinc output to publish, its
clamp and history, and the state after. -/
def State.swapCompare (s : State) (n b : Nat) (y : Int × Bool) (h : List MCode) : (Int × Bool) × List MCode × State :=
  let t := n / 8
  let ti := s.mtile t
  match ti.cur with
  | none => (y, h, s)
  | some w =>
    if s.pubRole w.req.role = n && w.bK = some b then
      let role := w.req.role
      let free := s.freeUnit t
      let z := s.sincOut n free w.hist
      let back := w.phase = 6
      if (z.1 - y.1).natAbs ≤ s.rd TILE_SWAPLIM_LIMIT t then
        let old := s.unitOf role
        let s := s.takeRole role
        let s :=
          if back then (s.setMunit old { s.munit old with valid := false }).swapDone t role 0
          else if w.req.replace then
            (s.setMunit old { s.munit old with failed := true, valid := false }).swapDone t role 0
          else (s.setMtile t { s.mtile t with cur := some { req := w.req, phase := 4, mc := s.rd TILE_CAL_MC t } }).calAsk t (s.rd TILE_CAL_MC t)
        (z, w.hist, s)
      else
        let s := if back then s.setMunit free { s.munit free with failed := true } else s
        (y, h, ((s.swapDone t role 0x48).modFault role 7))
    else (y, h, s)

/-- The samples that a converter averages in its cross-check window, both ends of which are inside (R111). Log entry 86 (DESIGN CHOICE). -/
def State.xcSample (s : State) (n : Nat) (v : Int) (qual : Nat) : State :=
  { s with mcs := s.mcs.map fun p =>
      match p.2.conv with
      | some c =>
        if c.work = .cross n && c.start ≤ s.et && s.et ≤ c.stop then
          (p.1, { p.2 with xsum := p.2.xsum + v, xn := p.2.xn + 1, xbad := p.2.xbad || qual != 0 })
        else p
      | none => p }

/-- Job triggers by the sample-ready strobe of role n (R120). -/
def State.sampleTrig (s : State) (n : Nat) : State :=
  let ks := s.slotsUsed.filter (fun k => s.on LE_SLOT_JOB_TRIG k && s.rd LE_SLOT_JOB_SRC k == n)
  { s with trigs := s.trigs ++ ks.map (fun k => (k / 8, k % 8, s.et)) }

/-- Replay begins or ends at a boundary of role n: the decimator and SETTLED cleared, the new source from the next period
(R409). -/
def State.replaySwitch (s : State) (n b : Nat) : State :=
  match s.replayOf n with
  | none => s
  | some i =>
    let x := s.stream i
    let fill := (s.rd CAP_S_RPWR_VALUE i + 2 ^ 32 - s.rd CAP_S_RPRD_VALUE i) % 2 ^ 32
    let clear (s : State) : State :=
      let s := s.clearRole n
      s.setMrole n { s.mrole n with settleAt := some (b + s.settlePeriods n * s.period n) }
    if s.on CAP_S_STAT_RPACT i && x.offPend then
      clear ((s.setStream i { x with offPend := false, nibs := [] }).wr CAP_S_STAT_RPACT i 0)
    else if s.on CAP_S_STAT_RPPEND i && min 4096 (s.rd CAP_S_RPSIZE_VALUE i) ≤ fill then
      clear (s.wrs i [(CAP_S_STAT_RPPEND, 0), (CAP_S_STAT_RPACT, 1)])
    else s

/-- What the boundary of role n publishes: quality of a sample (R80). -/
def State.qualOf (s : State) (n b : Nat) (clamp ovl : Bool) : Nat :=
  let r := s.mrole n
  let settled := match r.settleAt with | some e => decide (e ≤ b) | none => false
  let settling := ((List.range 2).map (n + ·)).any fun m =>
    s.pubRole m == n && (match (s.munit (s.unitOf m)).endAt with | some e => decide (b < s.settledBy n e) | none => false)
  if !settled then 3 else if s.suspect n then 2 else if clamp || ovl || settling then 1 else 0

/-- The ring samples of role n leave for their seats in the cycle that begins at the boundary (R443). -/
def State.sampleOut (s : State) (n b value qual seq : Nat) : State :=
  (s.ecUsed.filter (fun c => decide (s.rd EC_CFG_PROD c = n) && s.ringOut c)).foldl
    (fun s c => s.ringSend (s.rd EC_CFG_CONS c - 0xF000) c true value qual seq (s.period n) b) s

/-- Boundary of role n (R72, R75, R79, R80): the sample enters slot n with its quality and sequence number, SCOUNT advances and
sample-ready is raised unless the quality is 3. -/
def State.boundary (s : State) (n : Nat) : State :=
  if !s.on MOD_CFG_EN n || s.pairOdd n then s
  else
    let b := s.nextB n
    let s := s.reach (s.etOf b)
    let r := s.mrole n
    let y := s.sincOut n (s.unitOf n) r.hist
    let (y, h, s) := s.swapCompare n b y r.hist
    let fir := (y.1 :: r.fir).take 16
    let z := if s.on MOD_CFG_FIR n then firRaw (s.taps n) fir else y.1
    let v := satS 24 z
    let clamp := y.2 || v != z
    let q := s.qualOf n b clamp (h.any (·.ovl))
    let s := s.setMrole n { s.mrole n with hist := h, fir := fir, lastB := b }
    let s := if q = 3 then s else (s.addTo MOD_SCOUNT_COUNT n 1).wr MOD_STAT_SETTLED n 1
    let sc := s.rd MOD_SCOUNT_COUNT n
    let s := s.setMrole n { s.mrole n with seq := sc % 2 ^ 16 }
    let s := s.wrs n [(MOD_SAMPLE_VALUE, ofS 24 v), (MOD_SAMPLE_QUAL, q), (MOD_SAMPLE_SEQ, sc)]
    let s := (s.xcSample n v q).capSample n b (s.period n) (ofS 24 v) q sc
    let s := if q = 3 then s else ((s.publishAt n b).sampleOut n b (ofS 24 v) q sc).sampleTrig n
    let s := if clamp then s.modFault n 1 else s
    (s.swapAlign n b).replaySwitch n b

/-! ## Input supervision -/

/-- The comparator's thresholds now: those of the last write once it has taken effect (R83). -/
def State.winNow (s : State) (n : Nat) : Int × Int × Int :=
  let i := s.minput n
  let w := ((i.wins.filter fun x => decide (x.1 ≤ s.et)).getLast?.map (·.2)).getD i.win
  (toS 12 w.1, toS 12 w.2.1, 4 * (w.2.2 : Int))

/-- The comparator of input n at a differential input of v steps of 1.2 V / 2^23 (R82; a threshold code is 4,096 steps): the
outputs, the events on Ground; Springbok sees the outputs (R262). Log entry 33 (DEDUCED). -/
def State.window_cross (s : State) (n : Nat) (v : Int) : State :=
  let (lo, hi, hy) := s.winNow n
  let h0 := s.on MOD_STAT_CMPHI n
  let l0 := s.on MOD_STAT_CMPLO n
  let h1 := if h0 then decide (¬ v < 4096 * (hi - hy)) else decide (4096 * hi < v)
  let l1 := if l0 then decide (¬ 4096 * (lo + hy) < v) else decide (v < 4096 * lo)
  let s := (s.wrb MOD_STAT_CMPHI n h1).wrb MOD_STAT_CMPLO n l1
  let s := if h1 = h0 then s else s.publish ((if h1 then 0x40 else 0x80) + n)
  if l1 = l0 then s else s.publish ((if l1 then 0xC0 else 0x100) + n)

/-- A write of MODn_WIN: the register now, the comparator within 250 ns, after every earlier write (R83). -/
def State.winWrite (s : State) (n w : Nat) : State :=
  let i := s.minput n
  let old := i.wins.filter fun x => decide (x.1 ≤ s.et)
  let wins := i.wins.filter fun x => decide (s.et < x.1)
  let at_ := max (s.within 12800) ((wins.getLast?.map (·.1)).getD 0)
  let s := (s.setMinput n { i with win := (old.getLast?.map (·.2)).getD i.win, wins := wins ++ [(at_, bits w 11 0, bits w 27 16, bits w 30 28)] }).drawn
  s.wrs n [(MOD_WIN_HYST, bits w 30 28), (MOD_WIN_HI, bits w 27 16), (MOD_WIN_LO, bits w 11 0)]

/-- Supervision of input n is provided: the modulator is enabled and not input n+1 of a pair (R77, R78). -/
def State.supervised (s : State) (n : Nat) : Bool := s.on MOD_CFG_EN n && !s.pairOdd n

/-- A write of MODn_CTL: starting or ending the open-wire detector and the common-mode monitor (R84, R86). -/
def State.ctlWrite (s : State) (n w : Nat) : State :=
  let i := s.minput n
  let ow0 := s.on MOD_CTL_OWEN n
  let cm0 := s.on MOD_CTL_CMEN n
  let ow := bit w 0
  let cm := bit w 1
  let i := if ow then
      (if ow0 then i else { i with runP := 0, runN := 0, openP := false, openN := false, owP := some (s.et + usec 16), owN := some (s.et + usec 266) })
    else { i with runP := 0, runN := 0, openP := false, openN := false, owP := none, owN := none }
  let i := if cm then (if cm0 then i else { i with cmLast := [], cmNow := 0, cmDue := some (s.et + usec 10) })
    else { i with cmLast := [], cmNow := 0, cmDue := none }
  let s := (s.setMinput n i).wrs n [(MOD_CTL_OWEN, w % 2), (MOD_CTL_CMEN, w / 2 % 2)]
  (s.wrb MOD_STAT_OPEN n (i.openP || i.openN)).wrb MOD_STAT_CMBAD n (i.cmNow != 0)

/-- The end of a test pulse that moved the pin by mv millivolts (R84); neg chooses the negative pin. -/
def State.owPulse (s : State) (n : Nat) (neg : Bool) (mv : Nat) : State :=
  let i := s.minput n
  if !s.supervised n || !s.on MOD_CTL_OWEN n then s
  else s.due (if neg then i.owN else i.owP) fun s =>
    let i := s.minput n
    let i := if neg then { i with owN := some (s.et + usec 500) } else { i with owP := some (s.et + usec 500) }
    let run := if 100 < mv then (if neg then i.runN else i.runP) + 1 else 0
    let was := if neg then i.openN else i.openP
    let now := if 2 ≤ run then true else if mv < 100 then false else was
    let i := if neg then { i with runN := min run 2, openN := now } else { i with runP := min run 2, openP := now }
    let s := (s.setMinput n i).wrb MOD_STAT_OPEN n (i.openP || i.openN)
    if now && !was then s.modFault n (if neg then 3 else 2) else s

/-- Classification of a common-mode measurement (R86): the code of MODn_CMV, 2 mV each, and the pins in millivolts. -/
def State.cmClass (s : State) (n : Nat) (cm vp vn : Int) : Nat :=
  let lo := toS 12 (s.rd MOD_CMWIN_CMLO n)
  let hi := toS 12 (s.rd MOD_CMWIN_CMHI n)
  if 2 * cm < -200 then 1
  else if vp.natAbs ≤ 50 && vn.natAbs ≤ 50 && 0 < lo then 2
  else if cm < lo || hi < cm then 3 else 0

/-- A common-mode measurement (R86). -/
def State.cmMeasure (s : State) (n : Nat) (cm vp vn : Int) : State :=
  if !s.supervised n || !s.on MOD_CTL_CMEN n then s
  else s.due (s.minput n).cmDue fun s =>
    let i := s.minput n
    let l := (s.cmClass n cm vp vn :: i.cmLast).take 3
    let c := l.headD 0
    let now := if l.length = 3 && l.all (· == c) then c else if l.length = 3 && !l.any (· == i.cmNow) then 0 else i.cmNow
    let s := (s.setMinput n { i with cmLast := l, cmNow := now, cmDue := some (s.et + usec 10) }).wr MOD_CMV_CM n (ofS 12 cm)
    let s := s.wrb MOD_STAT_CMBAD n (now != 0)
    if now ≠ 0 && now ≠ i.cmNow then s.modFault n (3 + now) else s

/-! ## Spare swap -/

/-- A pricking command is in progress (R62, R64). -/
def State.prkBusy (s : State) : Bool := s.rd PRK_STATE_OP 0 != 0

/-- A role is queued or in a swap. -/
def ModTile.has (t : ModTile) (n : Nat) : Bool :=
  t.queue.any (·.role == n) || (match t.cur with | some w => w.req.role == n | none => false)

/-- The tile has a serviceable spare: its unit without a role is in service (R89). -/
def State.spareOk (s : State) (t : Nat) : Bool := !(s.munit (s.freeUnit t)).failed

/-- A swap request for role n (R88, R89): refused, merged with a queued one, or queued. Log entry 37 (DEDUCED). -/
def State.swapRequest (s : State) (n : Nat) (replace : Bool) : State :=
  let t := n / 8
  let ti := s.mtile t
  if !s.on MOD_CFG_EN n || s.pairOdd n || (!s.spareOk t && !ti.has n) then s.modFault n 10
  else if ti.has n then
    s.setMtile t { ti with queue := ti.queue.map fun q => if q.role = n then { q with replace := q.replace || replace } else q }
  else s.setMtile t { ti with queue := ti.queue ++ [⟨n, replace⟩] }

/-- CANCEL removes a queued request (R89). -/
def State.swapCancel (s : State) (n : Nat) : State :=
  let t := n / 8
  let ti := s.mtile t
  s.setMtile t { ti with queue := ti.queue.filter (·.role != n) }

/-- The tile serves its next request whose role no replay holds (R89, R90, R408). -/
def State.swapStart (s : State) (t : Nat) : State :=
  let ti := s.mtile t
  if ti.cur.isSome || s.prkBusy || !s.spareOk t then s
  else
    match ti.queue.find? (fun q => !s.replayHeld q.role) with
    | none => s
    | some q => (s.setMtile t { ti with queue := ti.queue.filter (· != q) }).swapConnect t q 2

/-- The connect phase ends: b0 is the next boundary, b_K is K periods later (R90). -/
def State.swapConnected (s : State) (t : Nat) : State :=
  match (s.mtile t).cur with
  | none => s
  | some w =>
    if w.phase ≠ 2 && w.phase ≠ 5 then s
    else s.due w.due fun s =>
      let n := s.pubRole w.req.role
      let b0 := ceilTo s.tick (s.period n)
      let b0 := if b0 = (s.mrole n).lastB then b0 + s.period n else b0
      s.setMtile t { s.mtile t with cur := some { w with due := none, b0 := some b0, bK := some (b0 + s.rd MOD_CFG_K n * s.period n) } }

/-- Both calibration points have ended, with the trims the device computed from them (R92 to R94): the return begins, or
CAL_RANGE ends the request as after a REPLACE. -/
def State.calDone (s : State) (t : Nat) (gain offset : Int) : State :=
  match (s.mtile t).cur with
  | none => s
  | some w =>
    if w.phase ≠ 4 || w.point ≠ 2 then s
    else s.due w.pointDue fun s =>
      let n := w.req.role
      let u := s.freeUnit t
      let m := mget s.mcs {} w.mc
      let s := { s with mcs := mset s.mcs {} w.mc { m with cals := m.cals.filter (·.1 != t) } }
      if satS 16 gain = gain && satS 16 offset = offset then
        (s.setMunit u { s.munit u with gain := gain, offset := offset }).swapConnect t w.req 5
      else ((s.setMunit u { s.munit u with failed := true, valid := false }).swapDone t n 0x49).modFault n 8

end Sys2Proof.Machine
end

