-- ==== Sys2Proof/Machine/Metering.lean ====
section
/-!
DEFINITION. Metering converters (spec/04): scanning, mains-synchronous integration, results, calibration of released
modulator units, and the background cross-check.
-/
namespace Sys2Proof.Machine
open F

def State.mc (s : State) (k : Nat) : McUnit := mget s.mcs {} k
def State.setMc (s : State) (k : Nat) (x : McUnit) : State := { s with mcs := mset s.mcs {} k x }

/-- A metering fault: flag, fault producer, and the interrupt of line 5 (R114). -/
def State.mcFault (s : State) (k b : Nat) : State := (s.setFlag 10 MC_FAULT_FLAGS k b).publish (0x210 + k)

/-- The integration period in FAB cycles at the start of an integration (R102 to R104). -/
def State.tInt (s : State) (k : Nat) : Nat :=
  if s.on MC_CFG_MODE k then (let p := s.rd MC_MAINSPER_PER k; if p = 0 then 16000000 else p)
  else (let p := s.rd MC_PERIOD_PERIOD k; if p = 0 then 16000 else p)

/-- The enabled selectors, ascending (R99). -/
def State.scanSels (s : State) (k : Nat) : List Nat := (List.range 16).filter (fun i => bit (s.rd MC_CFG_MASK k) i)

/-- The converters of the cross-check set, ascending (R110). -/
def State.xcSet (s : State) : List Nat := (List.range 16).filter (fun k => s.on MC_CTL_XCEN k && !s.on MC_CFG_MODE k)

/-- The checked modulators, ascending (R110). -/
def State.xcMods (s : State) : List Nat := (List.range 64).filter (fun n => s.on MOD_CFG_EN n && !s.pairOdd n)

/-- The modulators dealt to converter k (R110). -/
def State.xcDealt (s : State) (k : Nat) : List Nat :=
  let set := s.xcSet
  let n := set.length
  ((s.xcMods.zipIdx).filter (fun p => set.getD (p.2 % max 1 n) 16 == k)).map (·.1)

/-- Results of converter k carry NOSYNC: the mains are lost, or no interval has been accepted yet (R104). -/
def State.noSync (s : State) (k : Nat) : Bool := s.on MC_CFG_MODE k && (s.on MC_STAT_NOSYNC k || !(s.mc k).synced)

/-- A converter in mains-synchronous mode waits for its first interval: MAINSPER is 20 ms, and 25 ms without an accepted event lose the mains
(R104); in fixed-period mode MAINSPER is 0 (Table 4.13). -/
def State.mainsStart (s : State) (k : Nat) : State :=
  if s.on MC_CFG_MODE k then
    (s.setMc k { s.mc k with cross := none, synced := false, lostDue := some (s.et + 64 * 20000000) }).wr MC_MAINSPER_PER k 16000000
  else (s.setMc k { s.mc k with cross := none, synced := false, lostDue := none }).wr MC_MAINSPER_PER k 0

/-- The cycles that the integration of a piece of work lasts (R98, R102, R111). -/
def State.workCycles (s : State) (k : Nat) (w : McWork) : Nat := match w with | .cross _ => 32768 | _ => s.tInt k

/-- Begin a conversion now: 1,600 FAB cycles of settling, then the integration (R98). -/
def State.mcBegin (s : State) (k : Nat) (w : McWork) : State :=
  let st := s.et + 64 * 1600
  s.setMc k { s.mc k with conv := some ⟨w, st, st + 64 * s.workCycles k w, s.noSync k⟩, xsum := 0, xn := 0, xbad := false }

/-- MAINSPER or NOSYNC has changed: an integration that has not begun takes the new values (R103, R104). Log entry 86 (DESIGN CHOICE). -/
def State.mcRetime (s : State) (k : Nat) : State :=
  match (s.mc k).conv with
  | some c => if s.et ≤ c.start then
      s.setMc k { s.mc k with conv := some { c with stop := c.start + 64 * s.workCycles k c.work, nosync := s.noSync k } } else s
  | none => s

/-- The next conversion of the converter: first the work that a calibration abandoned, then scan conversions and cross-checks in alternation, a
new scan when RUN is 1, back to back cross-checks with no scan (R101, R108, R111). Log entry 35 (DEDUCED). -/
def State.mcNext (s : State) (k : Nat) : State :=
  let x := s.mc k
  let run := s.on MC_CTL_RUN k
  let todo := if x.todo.isEmpty && run then s.scanSels k else if run || x.single then x.todo else []
  let dealt := s.xcDealt k
  let redo := match x.redo with | some (.cross n) => if n ∈ dealt then x.redo else none | w => w
  if s.fnHeld (0x50 + k) then s.setMc k { x with conv := none }
  else
    match redo with
    | some w => (s.setMc k { x with redo := none }).mcBegin k w
    | none =>
      let s := s.setMc k { x with todo := todo, single := x.single && !x.todo.isEmpty, redo := none, conv := none }
      if !dealt.isEmpty && (todo.isEmpty || !x.lastX) then
        (s.setMc k { s.mc k with lastX := true, rot := (x.rot + 1) % dealt.length }).mcBegin k (.cross (dealt.getD (x.rot % dealt.length) 0))
      else
        match todo with
        | [] => s
        | i :: t => (s.setMc k { s.mc k with todo := t, lastX := false }).mcBegin k (.scan i)

/-- A converter that is idle takes up work. -/
def State.mcKick (s : State) (k : Nat) : State := if (s.mc k).conv.isNone then s.mcNext k else s

/-- The largest result (R97), and a result with its clamp. -/
def mcLim : Int := 2 ^ 23 - 1
def mcClamp (v : Int) : Int := max (-mcLim) (min mcLim v)

/-- The integration of a scan or calibration conversion ends with an input of v LSB (R97, R98): the result is on its way, and the
next conversion begins. -/
def State.mcIntegrated (s : State) (k : Nat) (v : Int) : State :=
  match (s.mc k).conv with
  | none => s
  | some c =>
    match c.work with
    | .cross _ => s
    | .cal _ _ =>
      let s := s.reach c.stop
      (if mcClamp v = v then s else s.mcFault k 1).mcNext k
    | .scan i =>
      let s := s.reach c.stop
      let y := mcClamp v
      let x := s.mc k
      let e : McEntry := ⟨y, y != v, c.nosync, false, i, s.tick⟩
      (s.setMc k { x with results := x.results ++ [(e, s.et + 64 * 80)] }).mcNext k

/-- A result is discarded from a full FIFO (R107). -/
def State.mcLose (s : State) (k : Nat) (e : McEntry) : State :=
  let x := s.mc k
  let t := ((s.raise MC_STAT_OVR k 1).addTo MC_LOST_LOST k 1).mcFault k 0
  t.setMc k { x with gap := true, lastOvr := some ⟨s.et / 64, e, x.gap, s.rd MC_STAT_OVR k, s.rd MC_FAULT_FLAGS k, t.flight.filter (· ∉ s.flight)⟩ }

/-- A result is written (R98, R105, R107): the FIFO, or a lost result, LASTi, and the result producer. -/
def State.mcResult (s : State) (k : Nat) : State :=
  match (s.mc k).results with
  | [] => s
  | (e, t) :: rest =>
    let s := s.reach t
    let x := s.mc k
    let s := s.setMc k { x with results := rest }
    let s := if 16 ≤ x.fifo.length then s.mcLose k e else s.setMc k { s.mc k with gap := false, fifo := x.fifo ++ [{ e with gap := x.gap }] }
    let s := s.wrs (16 * k + e.input) [(MC_LAST_VALID, 1), (MC_LAST_CLAMP, if e.clamp then 1 else 0),
      (MC_LAST_NOSYNC, if e.nosync then 1 else 0), (MC_LAST_VALUE, ofS 24 e.value)]
    let s := if e.clamp then s.mcFault k 1 else s
    s.publish (0x200 + k)

/-- The word that MCk_RES shows for an entry (R106). -/
def McEntry.word (e : McEntry) : Nat :=
  2 ^ 31 + (if e.gap then 2 ^ 30 else 0) + (if e.clamp then 2 ^ 29 else 0) + (if e.nosync then 2 ^ 28 else 0)
    + 2 ^ 24 * (e.input % 16) + ofS 24 e.value

/-- A read in the FAB cycle of a result that found the FIFO full is served first, so the result is stored after all (R107). A message already
sent stays sent. -/
def State.mcStoreLate (s : State) (k : Nat) : State :=
  let x := s.mc k
  match x.lastOvr.filter (·.cyc == s.et / 64) with
  | none => s
  | some o =>
    let t := (s.wrs k [(MC_STAT_OVR, o.ovr), (MC_LOST_LOST, s.rd MC_LOST_LOST k + 2 ^ 32 - 1),
      (MC_FAULT_FLAGS, s.rd MC_FAULT_FLAGS k - s.rd MC_FAULT_FLAGS k % 2 + o.flags % 2)])
    State.edge 10 s ({ t with flight := t.flight.filter (· ∉ o.evs) }.setMc k { x with fifo := x.fifo ++ [{ o.entry with gap := o.gap }], gap := false, lastOvr := none })

/-- A read of MCk_RES (R106): the oldest entry, removed, its device time latched; 0 from an empty FIFO. -/
def State.mcResRead (s : State) (k : Nat) : Nat × State :=
  let x := s.mc k
  match x.fifo with
  | [] => (0, s)
  | e :: t =>
    (e.word, ((s.setMc k { x with fifo := t }).wrs k [(MC_RTIME_LO_TIME, e.time), (MC_RTIME_HI_TIME, e.time / 2 ^ 32)]).mcStoreLate k)

/-- A write of RUN (R101): 1 scans continuously, a single scan among it; 0 stops the converter before its next scan conversion. A single scan that
ONE began while RUN was 0 goes on. Log entry 86 (DESIGN CHOICE). -/
def State.mcRun (s : State) (k : Nat) (run : Bool) : State :=
  let s := s.wrb MC_CTL_RUN k run
  if run then (s.setMc k { s.mc k with single := false }).mcKick k else if (s.mc k).single then s else s.setMc k { s.mc k with todo := [] }

/-- ONE starts a single scan while RUN is 0 and no scan is in progress (R101). -/
def State.mcOne (s : State) (k : Nat) : State :=
  let x := s.mc k
  let busy := !x.todo.isEmpty || (match x.conv with | some c => (match c.work with | .scan _ => true | _ => false) | none => false)
  if s.on MC_CTL_RUN k || busy || (s.scanSels k).isEmpty then s
  else (s.setMc k { x with todo := s.scanSels k, single := true }).mcKick k

/-- XCEN changes: the modulators are dealt again (R110), and an idle converter of the set starts. -/
def State.mcXcen (s : State) (k : Nat) (x : Bool) : State :=
  let s := s.wrb MC_CTL_XCEN k x
  s.xcSet.foldl (fun s k => s.mcKick k) s

/-- A zero-crossing event of converter k (R103, R104). -/
def State.mainsCross (s : State) (k : Nat) : State :=
  if !s.on MC_CFG_MODE k || s.fnHeld (0x50 + k) then s
  else
    let x := s.mc k
    let ok (s : State) : State := (s.setMc k { s.mc k with cross := some s.tick, lostDue := some (s.et + 64 * 20000000) }).mcRetime k
    match x.cross with
    | none => ok s
    | some t =>
      let d := s.tick - t
      if d < 10000000 then s.mcFault k 3
      else if d ≤ 20000000 then ok (((s.setMc k { x with synced := true }).wr MC_MAINSPER_PER k d).wr MC_STAT_NOSYNC k 0)
      else ok s

/-- 25 ms have passed with no accepted crossing (R104). -/
def State.mainsLost (s : State) (k : Nat) : State :=
  if s.fnHeld (0x50 + k) then s
  else s.due (s.mc k).lostDue fun s =>
    (((s.setMc k { s.mc k with cross := none, lostDue := none }).wr MC_STAT_NOSYNC k 1).mcRetime k).mcFault k 2

/-- A calibration point of the tile starts on its converter, unless that is in reset or held (R108, R109): the converter abandons its conversion,
which it does again afterwards. The point lasts the longer of T_int and 16,384 modulator periods (R92). -/
def State.calPoint (s : State) (t : Nat) : State :=
  match (s.mtile t).cur with
  | none => s
  | some w =>
    let k := w.mc
    if w.phase ≠ 4 || 2 ≤ w.point || s.fnHeld (0x50 + k) || ((s.mc k).cals.head?.map (·.1)) ≠ some t then s
    else
      let s := match w.pointDue with | some d => s.reach d | none => s
      let x := s.mc k
      let redo : Option McWork := match x.conv with
        | some c => (match c.work with | .cal _ _ => x.redo | .scan _ | .cross _ => some c.work)
        | none => x.redo
      let ti := s.tInt k
      let stop := s.et + max (64 * ti) (16384 * s.modPeriod w.req.role)
      let s := s.setMtile t { s.mtile t with cur := some { w with point := w.point + 1, pointDue := some stop } }
      s.setMc k { x with redo := redo, conv := some ⟨.cal t w.point, s.et, s.et + 64 * ti, s.noSync k⟩ }

/-- Failed checks of a modulator in a row, and its 100 ms begun again (R112, R113). -/
def State.xcSet2 (s : State) (n fails : Nat) : State :=
  { s with xcFails := mset s.xcFails 0 n fails, xcLate := mset s.xcLate 0 n (s.et + usec 100000) }

/-- A cross-check conversion of converter k ends with an input of v LSB, which its result clamps (R97, R111, R112). The means are compared exactly. Log entry 35 (DEDUCED). -/
def State.xcCheck (s : State) (k : Nat) (v : Int) : State :=
  match (s.mc k).conv with
  | none => s
  | some c =>
    match c.work with
    | .cross n =>
      let s := s.reach c.stop
      let s := if mcClamp v = v then s else s.mcFault k 1
      let v := mcClamp v
      let x := s.mc k
      let s :=
        if x.xbad || x.xn = 0 then s
        else
          let e2 := x.xsum - 2 * x.xn * v          -- 2 * xn * e
          let small := v.natAbs < 0x080000
          let bad :=
            if small then decide (2 * x.xn * s.rd MC_XCLIM_OFFLIM k < e2.natAbs)
            else decide (2 * x.xn * v.natAbs * s.rd MC_XCLIM_GAINLIM k < 2 ^ 16 * e2.natAbs)
          let s := s.wr MC_XCSTAT_LASTMOD k n
          let f := mget s.xcFails 0 n
          if bad then
            let s := s.xcSet2 n (min 3 (f + 1))
            if f + 1 = 2 then
              let s := (s.wr MC_XCSTAT_FAILMOD k n).mcFault k (if small then 4 else 5)
              if s.on TILE_CAL_AUTO (n / 8) then s.swapRequest n false else s
            else s
          else s.xcSet2 n 0
      s.mcNext k
    | _ => s

/-- A checked modulator goes 100 ms without a check: XC_LATE on the converter it is dealt to, or MC0 when the set is empty
(R113). -/
def State.xcLateNow (s : State) (n : Nat) : State :=
  let d := mget s.xcLate 0 n
  if d = 0 then s
  else
    let s := s.reach d
    let k := (s.xcSet.find? (fun k => (s.xcDealt k).contains n)).getD 0
    ({ s with xcLate := mset s.xcLate 0 n (s.et + usec 100000) }).mcFault k 6

end Sys2Proof.Machine
end

