-- ==== Sys2Proof/Machine/Legs.lean ====
section
/-!
DEFINITION. Edge generation and off-time return (spec/07) and the Springbok trip network (spec/11): plans and dead time, posts,
slopes, raw-lane actions, stops, readback, listening, tripping and release.
-/
namespace Sys2Proof.Machine
open F

def State.leg (s : State) (k : Nat) : Leg := mget s.legs {} k
def State.setLeg (s : State) (k : Nat) (x : Leg) : State := { s with legs := mset s.legs {} k x }

/-- A leg fault: flag, FINFO, fault producer, and the interrupt of line 7 (R201). -/
def State.legFault (s : State) (k b out : Nat) (dev : Int) : State :=
  ((s.wrs k [(L_FINFO_CODE, 0x71 + b), (L_FINFO_OUT, out), (L_FINFO_DEV, ofS 16 dev)]).setFlag 12 L_FAULT_FLAGS k b).publish (0x430 + k)

/-- PERIOD of a leg as a number of ticks (R176). -/
def State.legPeriod (s : State) (k : Nat) : Nat :=
  let p := s.rd L_PERIOD_LO_PERIOD k + 2 ^ 32 * s.rd L_PERIOD_HI_PERIOD k
  if p = 0 then 2 ^ 40 else p

/-- The edge registers E0 to E3. -/
def State.edgesOf (s : State) (k : Nat) : List Nat := (List.range 4).map fun i => s.rd L_EDGE_TIME (4 * k + i)

/-- The off-time return of an output: 0 the high side, 1 the low side. -/
def Leg.otr (x : Leg) (out : Nat) : OtrOut := if out = 0 then x.otrH else x.otrL
def Leg.setOtr (x : Leg) (out : Nat) (o : OtrOut) : Leg := if out = 0 then { x with otrH := o } else { x with otrL := o }

/-- Return is enabled on an output. -/
def State.otrOn (s : State) (k out : Nat) : Bool := s.on (if out = 0 then L_OTR_ENH else L_OTR_ENL) k

/-- SETTLE in steps; values below 16 act as 16. -/
def State.settle (s : State) (k : Nat) : Nat := 64 * max 16 (s.rd L_OTR_SETTLE k)

/-- Clear the clamp of an output (R197). -/
def State.unclamp (s : State) (k out : Nat) : State :=
  (s.setLeg k ((s.leg k).setOtr out { (s.leg k).otr out with clamped := false })).wr (if out = 0 then L_OTRSTAT_CLAMPH else L_OTRSTAT_CLAMPL) k 0

/-- Return on an output whose enable is off ends with its listening period (R200, R202, R263). -/
def State.otrOff (s : State) (k out : Nat) : State :=
  (s.setLeg k ((s.leg k).setOtr out { clamped := ((s.leg k).otr out).clamped })).wrs k
    [(if out = 0 then L_OTRSTAT_CLASSH else L_OTRSTAT_CLASSL, 0), (if out = 0 then L_OTRSTAT_LISTENH else L_OTRSTAT_LISTENL, 0)]

/-- An output of a leg switches now: the register, the transition to be read back, and off-time return (R191, R194, R202). -/
def State.drive (s : State) (k out : Nat) (v : Bool) : State :=
  let fld := if out = 0 then L_STAT_HOUT else L_STAT_LOUT
  if s.on fld k = v then s
  else
    let x := s.leg k
    let o := x.otr out
    let x := { x with trans := if o.clamped then x.trans else x.trans ++ [(out, v, s.et)] }
    let x := if v then x else if out = 0 then { x with hiOff := some s.et } else { x with loOff := some s.et }
    let due := if v || !s.otrOn k out then none else some (s.et + s.settle k)
    let s := ((s.setLeg k (x.setOtr out { o with listenDue := due, listening := false })).wrb fld k v).wr
      (if out = 0 then L_OTRSTAT_LISTENH else L_OTRSTAT_LISTENL) k 0
    if !v && !s.otrOn k out then s.otrOff k out else s

/-- A trip source is asserted now (R262, R263), by number 0 to 223. -/
def State.srcOn (s : State) (n : Nat) : Bool :=
  if n < 64 then s.on MOD_STAT_CMPHI n
  else if n < 128 then s.on MOD_STAT_CMPLO (n - 64)
  else if n < 224 then (match ((s.leg ((n - 128) / 2)).otr (n % 2)).src with | some t => decide (t ≤ s.et) | none => false)
  else false

/-- The legs a source is mapped to, as a mask (R264). -/
def State.mapOf (s : State) (n : Nat) : Nat := s.rd SPR_MAP_LO_MASK n + 2 ^ 32 * s.rd SPR_MAP_HI_MASK n

/-- A source mapped to a leg is asserted (R274, SPR_ACTIVE). -/
def State.srcActive (s : State) (k : Nat) : Bool := (List.range 224).any (fun n => bit (s.mapOf n) k && s.srcOn n)

/-- An output may turn on: not latched, tripped or gated against it, not in high impedance (R193, R267, R475). -/
def State.mayOn (s : State) (k out : Nat) : Bool :=
  let x := s.leg k
  !x.hiz && ((!x.latch && !s.gated && !s.srcActive k) || (out = 1 && s.rd L_SAFE_SAFE k = 1))

/-- The outputs go to their safe values by rule 0 and the leg enters SAFE (R187, Table 7.5). With safe state 1 the low side
turns on DTF after the high side's turn-off. A first period that has not begun does not begin (R177). -/
def State.legSafe (s : State) (k : Nat) : State :=
  let s := s.drive k 0 false
  let sf := s.rd L_SAFE_SAFE k
  let s := if sf = 1 then s else s.drive k 1 false
  let x := s.leg k
  let on := match x.hiOff with | some t => t + s.rd L_CFG_DTF k | none => 0
  let s := match x.pstart with | some p => if s.et < p then s.unpublishAt (0x400 + k) (s.tickAt p) else s | none => s
  let x := { x with st := .safe, rule := 0, pstart := none, onH := none, onL := none, hiDue := none, done := [], defer := false,
                    holder := none, loDue := if sf = 1 && !s.on L_STAT_LOUT k then some (max s.et on) else none }
  s.setLeg k x

/-- A stop by a rule (R187, R188). Rule 1 with no on-time in progress acts at once. -/
def State.legStop (s : State) (k rule : Nat) : State :=
  let x := s.leg k
  let s := s.setLeg k { x with stopAt := some (s.et / 64) }
  let x := s.leg k
  let idle := x.onH.isNone && x.onL.isNone
  match x.st with
  | .safe => s
  | .stopping =>
    if rule = 0 || (rule = 1 && idle) then s.legSafe k
    else if rule = 1 then s.setLeg k { x with rule := 1 } else s
  | _ =>
    if rule = 0 || (rule = 1 && idle) then s.legSafe k
    else s.setLeg k { x with st := .stopping, rule := rule, holder := none }

/-- A stop by the leg's own rule. -/
def State.legStopOwn (s : State) (k : Nat) : State := s.legStop k (s.rd L_SAFE_STOP k)

/-! ## The edge plan -/

/-- The first tick after start at which an on-time in slope form ends (R183): duty vd, slope vsl from tf; none if it never does. -/
def slopeEnd (start vd : Int) (vsl tf : Int) : Option Int :=
  let n := 2 ^ 20 * (start + vd - 1) - vsl * tf
  let d := 2 ^ 20 - vsl
  let first := start + 1
  if 0 < d then some (max first (Int.fdiv n d + 1))
  else if n < d * first then some first else none

/-- The edges E0 to E3 as the registers hold them: E1, and E3 in mode 1, may stand in slope form (R183). -/
def State.plan (s : State) (k : Nat) : List EdgeAt :=
  let x := s.leg k
  let e (j : Nat) : EdgeAt := .tick (s.rd L_EDGE_TIME (4 * k + j))
  let sl : EdgeAt := .slope x.vd (toS 24 (s.rd L_SSLOPE_VALUE k)) x.tf
  if s.on L_STAT_SLOPE k then [e 0, sl, e 2, if s.rd L_CFG_MODE k = 1 then sl else e 3] else [e 0, e 1, e 2, e 3]

/-- The offset of an edge in the period that begins at p, for an on-time from offset st; none for one beyond 2^32 - 1 (R176, R183). -/
def EdgeAt.off (p st : Nat) : EdgeAt → Option Nat
  | .tick t => some t
  | .slope vd vsl tf =>
    match slopeEnd ((p + st : Nat) : Int) vd vsl tf with
    | some t => let o := (t - (p : Int)).toNat; if o < 2 ^ 32 then some o else none
    | none => none

/-- Start and end of pulse i in the present period, as offsets; the end none where it does not occur. -/
def Leg.startOff (x : Leg) (i : Nat) : Nat := match x.eff.getD (2 * i) (.tick 0) with | .tick t => t | .slope _ _ _ => 0
def Leg.edgeOff (x : Leg) (j : Nat) (e : EdgeAt) : Option Nat := e.off (x.pstart.getD 0) (x.startOff (j / 2))
def Leg.endOff (x : Leg) (i : Nat) : Option Nat := x.edgeOff (2 * i + 1) (x.eff.getD (2 * i + 1) (.tick 0))

/-- Start and end of a pulse of the plan, as offsets in the period; none where the plan has no such pulse (Table 7.1, R183). -/
def State.pulse (s : State) (k i : Nat) : Option (Nat × Option Nat) :=
  let x := s.leg k
  let mode := s.rd L_CFG_MODE k
  if i = 0 || mode = 1 || mode = 2 then some (x.startOff i, x.endOff i) else none

/-- Pulse i drives the low side: the second pulse of mode 2. -/
def State.lowPulse (s : State) (k i : Nat) : Bool := s.rd L_CFG_MODE k = 2 && i = 1

/-- A pulse of the present period that is still to start: its start instant, if it is produced and has not passed (R176, R178, R180). -/
def State.pulseStart (s : State) (k i : Nat) : Option Nat :=
  let x := s.leg k
  match x.pstart, s.pulse k i with
  | some p, some (a, b) =>
    let stop := match b with | some b => min b x.plen | none => x.plen
    if i ∈ x.done || p + a < x.clk || x.plen ≤ a || stop ≤ a || stop - a < s.rd L_MINON_MINON k then none else some (p + a)
  | _, _ => none

/-- The instant an on-time in progress ends by its end edge, held off by MINON, where that lies in the period (R176, R180). -/
def State.onEnd (s : State) (k : Nat) (o : OnTime) : Option Nat :=
  let x := s.leg k
  match x.pstart with
  | none => none
  | some p =>
    let ends : List Nat :=
      if o.pulse < 2 then (match s.pulse k o.pulse with | some (_, some b) => [p + b] | _ => [])
      else [0, 1].filterMap fun i =>
        if s.lowPulse k i then none
        else match s.pulse k i with | some (_, some b) => if o.start < p + b then some (p + b) else none | _ => none
    let e := match ends with | [] => p + x.plen | a :: t => t.foldl min a
    some (min (max e (o.start + o.minon)) (p + x.plen))

/-- The low side may follow the high side's turn-off: modes 0 and 1, in a state that follows the plan (R178, R179). -/
def State.complementary (s : State) (k : Nat) : Bool := s.rd L_CFG_MODE k < 2

/-- An on-time of the high or low side starts now; a clamp of that output ends (R197). -/
def State.onStart (s : State) (k i : Nat) (low : Bool) : State :=
  let s := s.unclamp k (if low then 1 else 0)
  let o : OnTime := ⟨i, s.et, s.rd L_MINON_MINON k, s.rd L_MAXON_MAXON k⟩
  let x := s.leg k
  if low then
    let s := s.setLeg k { x with onL := some o, done := i :: x.done }
    let x := s.leg k
    -- interlock of mode 2: not within DTF of the high side's turn-off, and not while the high side's on-time lasts
    let free := match x.hiOff with | some t => t + s.rd L_CFG_DTF k | none => 0
    if x.onH.isSome then s else s.setLeg k { x with loDue := some (max s.et free) }
  else
    let s := s.setLeg k { x with onH := some o, done := if i < 2 then i :: x.done else x.done, loDue := if s.complementary k then none else x.loDue }
    if s.complementary k then
      let s := s.drive k 1 false
      s.setLeg k { s.leg k with hiDue := some (s.et + s.rd L_CFG_DTR k) }
    else
      let x := s.leg k
      let free := match x.loOff with | some t => if s.rd L_CFG_MODE k = 2 then t + s.rd L_CFG_DTR k else 0 | none => 0
      if s.rd L_CFG_MODE k = 2 && x.onL.isSome then s else s.setLeg k { x with hiDue := some (max s.et free) }

/-- An on-time ends now: the output turns off, and after its dead time the other side turns on where the plan has it on. In mode 2 the dead time counts
from the output's last turn-off (R178). -/
def State.onStop (s : State) (k : Nat) (low : Bool) : State :=
  let x := s.leg k
  if low then
    let s := (s.setLeg k { x with onL := none, loDue := none, clk := max x.clk s.et }).drive k 1 false
    let x := s.leg k
    let free := match x.loOff with | some t => t + s.rd L_CFG_DTR k | none => 0
    if x.onH.isSome && !s.on L_STAT_HOUT k then s.setLeg k { x with hiDue := some (max s.et free) } else s
  else
    let s := (s.setLeg k { x with onH := none, hiDue := none, defer := false, clk := max x.clk s.et }).drive k 0 false
    let x := s.leg k
    let free := match x.hiOff with | some t => t + s.rd L_CFG_DTF k | none => 0
    if s.complementary k then s.setLeg k { x with loDue := some (s.et + s.rd L_CFG_DTF k) }
    else if x.onL.isSome && !s.on L_STAT_LOUT k then s.setLeg k { x with loDue := some (max s.et free) } else s

/-- The next edge of the plan: an end of an on-time or a start (instant, then which). Ends come before starts. Log entry 46 (DEDUCED). -/
def State.nextEdge (s : State) (k : Nat) : Option (Nat × Nat) :=
  let x := s.leg k
  let noNew := x.st = .stopping && x.rule = 1
  let c : List (Nat × Nat) :=
    (match x.onH with | some o => (match s.onEnd k o with | some t => [(t, 0)] | none => []) | none => [])
    ++ (match x.onL with | some o => (match s.onEnd k o with | some t => [(t, 1)] | none => []) | none => [])
    ++ (if noNew then [] else [0, 1].filterMap fun i =>
          if (s.lowPulse k i && x.onL.isSome) || (!s.lowPulse k i && x.onH.isSome) then none
          else (s.pulseStart k i).map fun t => (t, 2 + i))
  match c with
  | [] => none
  | a :: t => some (t.foldl (fun m p => if p.1 < m.1 then p else m) a)

/-- An edge time of the leg arrives (R178): the output that goes out turns off. Nothing when the leg places no edges, or MAXON or
the period end comes first. -/
def State.edgeEvent (s : State) (k : Nat) : State :=
  let x := s.leg k
  if x.st = .safe then s
  else match s.nextEdge k with
    | none => s
    | some (t, w) =>
      let maxed := (match x.onH with | some o => decide (o.start + o.maxon < t) | none => false)
        || (match x.onL with | some o => decide (o.start + o.maxon < t) | none => false)
      if maxed then s
      else
        let s := s.reach t
        if w = 0 then s.onStop k false else if w = 1 then s.onStop k true
        else s.onStart k (w - 2) (s.lowPulse k (w - 2))

/-- The instant at which an on-time in progress ends, by its end edge or by MAXON (R176, R180). -/
def State.onOver (s : State) (k : Nat) (o : OnTime) : Nat :=
  match s.onEnd k o with | some t => min t (o.start + o.maxon) | none => o.start + o.maxon

/-- The dead time is over and the waiting output turns on (R178, R187, R270): not the high side when its on-time is then over. A low side that turns on
by the plan ends its clamp (R197). -/
def State.deadEnd (s : State) (k : Nat) : State :=
  let x := s.leg k
  let go (s : State) (out t : Nat) : State :=
    let s := s.reach t
    let x := s.leg k
    let s := s.setLeg k (if out = 0 then { x with hiDue := none } else { x with loDue := none })
    let done := out = 0 && (match x.onH with | some o => decide (s.onOver k o ≤ t) | none => false)
    if s.mayOn k out && !(out = 1 && x.defer) && !done then (if out = 1 then s.unclamp k 1 else s).drive k out true else s
  match x.hiDue, x.loDue with
  | some a, some b => if a ≤ b then go s 0 a else go s 1 b
  | some a, none => go s 0 a
  | none, some b => go s 1 b
  | none, none => s

/-- Put one posted edge into the period that begins at p (R182): an edge that has passed or comes before acceptance plus 2.5 ns stays; a moved one is
placed no earlier than 1.6 ns after acceptance a, and then counts as late. old and new are its offsets, form its new form. -/
def placeEdge (a p : Nat) (old new : Option Nat) (form : EdgeAt) : EdgeAt × Bool :=
  let before (o : Option Nat) (t : Nat) : Bool := match o with | some o => decide (p + o < t) | none => false
  if before old (a + 128) then (.tick (old.getD 0), false)
  else if before new (a + 82) then (.tick (a + 82 - p), true) else (form, false)

/-- The edges of the period under a post accepted at a that changes the registers' edges from old to new, and how many were late (R182). -/
def Leg.replan (x : Leg) (a : Nat) (old new : List EdgeAt) : Leg × Nat :=
  (List.range 4).foldl (fun (q : Leg × Nat) j =>
    let d : EdgeAt := .tick 0
    if old.getD j d = new.getD j d then q
    else
      let r := placeEdge a (q.1.pstart.getD 0) (q.1.edgeOff j (q.1.eff.getD j d)) (q.1.edgeOff j (new.getD j d)) (new.getD j d)
      ({ q.1 with eff := q.1.eff.set j r.1 }, q.2 + (if r.2 then 1 else 0))) (x, 0)

/-- The same for posts accepted shortly before the period began, each with the edges before it; now are the registers' edges. -/
def Leg.replans (x : Leg) (now : List EdgeAt) : List (Nat × List EdgeAt) → Leg × Nat
  | [] => (x, 0)
  | (a, old) :: rest =>
    let r := x.replan a old (match rest with | (_, b) :: _ => b | [] => now)
    let q := r.1.replans now rest
    (q.1, r.2 + q.2)

/-- A new period begins at an instant (R176, R182): the registers' values hold, but for edges that a post of the last 2.5 ns finds too near. The producer
is raised; a period that had not begun does not begin (R177). -/
def State.periodStart (s : State) (k t : Nat) : State :=
  let x := s.leg k
  let s := match x.pstart with | some p => if t < p then s.unpublishAt (0x400 + k) (s.tickAt p) else s | none => s
  let now := s.plan k
  let rs := x.recent.filter (fun r => decide (t < r.1 + 128))
  let first := match rs with | (_, b) :: _ => b | [] => now
  let r := Leg.replans { x with pstart := some t, plen := s.legPeriod k, eff := first, done := [], clk := t } now rs
  let s := s.setLeg k r.1
  (if r.2 = 0 then s else s.addTo L_STAT_LATECNT k r.2).publishAt (0x400 + k) (s.tickAt t)

/-- The period ends (R176, R187): on-times in progress end, and the next begins, unless a rule 2 stop waits for this end. -/
def State.periodEnd (s : State) (k : Nat) : State :=
  let x := s.leg k
  match x.pstart with
  | none => s
  | some p =>
    let t := p + x.plen
    let s := s.reach t
    let s := if (s.leg k).onH.isSome then s.onStop k false else s
    let s := if (s.leg k).onL.isSome then s.onStop k true else s
    if x.st = .stopping && x.rule = 2 then s.setLeg k { s.leg k with pstart := none, loDue := none }
    else s.periodStart k t

/-- The first on-time in progress that reaches MAXON: its instant, and whether it is the low side's. -/
def Leg.maxAt (x : Leg) : Option (Nat × Bool) :=
  match x.onH, x.onL with
  | some o, some q => some (if q.start + q.maxon < o.start + o.maxon then (q.start + q.maxon, true) else (o.start + o.maxon, false))
  | some o, none => some (o.start + o.maxon, false)
  | none, some q => some (q.start + q.maxon, true)
  | none, none => none

/-- An on-time reaches MAXON (R180); nothing when an edge of the plan comes no later. -/
def State.maxOn (s : State) (k : Nat) : State :=
  match (s.leg k).maxAt with
  | none => s
  | some (t, low) =>
    match s.nextEdge k with
    | some (e, _) => if e ≤ t then s else (s.reach t).onStop k low
    | none => (s.reach t).onStop k low

/-- What the plan of a leg does by an instant, in order: edges, MAXON, the period end, and turn-ons after a dead time. n bounds the number of events. -/
def State.legAdvance : Nat → State → Nat → Nat → State
  | 0, s, _, _ => s
  | n + 1, s, k, t =>
    let x := s.leg k
    let runs := x.st ≠ .safe
    let by_ (o : Option Nat) : Nat := o.getD (t + 1)
    let e := by_ (if runs then (s.nextEdge k).map (·.1) else none)
    let m := by_ (x.maxAt.map (·.1))
    let p := by_ (if runs then x.pstart.map (· + x.plen) else none)
    let d := min (by_ x.hiDue) (by_ x.loDue)
    if t < min (min e m) (min p d) then s
    else if e ≤ min m (min p d) then (s.edgeEvent k).legAdvance n k t
    else if m ≤ min p d then (s.maxOn k).legAdvance n k t
    else if p ≤ d then (s.periodEnd k).legAdvance n k t
    else (s.deadEnd k).legAdvance n k t

/-- The condition of the stop rule in progress is met (R187): rule 1 when no on-time is left, rule 2 when the period has ended. -/
def State.stopMet (s : State) (k : Nat) : State :=
  let x := s.leg k
  if x.st = .stopping && ((x.rule = 1 && x.onH.isNone && x.onL.isNone) || (x.rule = 2 && x.pstart.isNone)) then s.legSafe k else s

/-! ## Posts and raw-lane actions -/

/-- A posted value as the leg takes it (R181), and whether it was replaced. -/
def postVal (fallback isPeriod : Bool) (v : Int) : Nat × Bool :=
  let u : Int := if fallback then v % 2 ^ 24 else max v 0
  let w : Int := if isPeriod then max u 1024 else u
  (w.toNat, w != (if fallback then v % 2 ^ 24 else v))

/-- A leg accepts a post (R181 to R183). A leg in FALLBACK takes posts of the fallback that holds it only, and any other leg none of a fallback (R174,
R186, R272). -/
def State.legPost (s : State) (q : Post) : State :=
  let k := q.leg
  let held := (s.leg k).st == .fallback && (s.leg k).holder == some q.engine
  if (if q.fallback then !held else (s.leg k).st == .fallback) then s
  else
    let a := s.et
    let old := s.plan k
    let s :=
      if q.slope then
        let v := (q.vals.getD 0 none).getD 0
        let vd := if q.fallback then v % 2 ^ 24 else v
        let s := s.wrs k [(L_SDUTY_VALUE, ofS 24 vd), (L_SSLOPE_VALUE, ofS 24 ((q.vals.getD 1 none).getD 0)), (L_STAT_SLOPE, 1)]
        s.setLeg k { s.leg k with tf := a + 82, vd := vd }
      else
        let put (s : State) (i : Nat) (v : Int) : State :=
          let r := postVal q.fallback (i == 0) v
          let s :=
            if i = 0 then
              let x := s.leg k
              let s := s.wrs k [(L_PERIOD_LO_PERIOD, r.1), (L_PERIOD_HI_PERIOD, r.1 / 2 ^ 32)]
              match x.pstart with
              | none => s
              | some p =>
                if x.plen = r.1 || p + x.plen < a + 128 then s
                else if p + r.1 < a + 82 then (s.setLeg k { x with plen := a + 82 - p }).addTo L_STAT_LATECNT k 1
                else s.setLeg k { x with plen := r.1 }
            else
              let s := s.wr L_EDGE_TIME (4 * k + (i - 1)) r.1
              if i = 2 then s.wr L_STAT_SLOPE k 0 else s
          if r.2 then s.legFault k 6 0 0 else s
        (List.range 5).foldl (fun s i => match q.vals.getD i none with | some v => put s i v | none => s) s
    let x := s.leg k
    match x.pstart with
    | none => s
    | some _ =>
      let r := x.replan a old (s.plan k)
      let s := s.setLeg k { r.1 with clk := max x.clk a, recent := x.recent.filter (fun q => decide (a < q.1 + 128)) ++ [(a, old)] }
      if r.2 = 0 then s else s.addTo L_STAT_LATECNT k r.2

/-- What a leg does 1.6 ns after it accepted a request at an instant, after what its plan does by then; the clock of the device stays (R184). -/
def State.after16 (s : State) (k a : Nat) (f : State → State) : State :=
  { f ({ ({ s with et := a }).legAdvance 16 k (a + 82) with et := a + 82 }) with et := s.et }

/-- Force off accepted at an instant (R184, Table 7.3): an on-time in progress ends, whatever MINON says. -/
def State.forceOff (s : State) (k a : Nat) : State :=
  if (s.leg k).st ≠ .active then s
  else
    (s.setLeg k { s.leg k with offAt := some a }).after16 k a fun s =>
      if (s.leg k).st ≠ .active then s
      else
        let s := if (s.leg k).onH.isSome then s.onStop k false else s
        if s.rd L_CFG_MODE k = 2 && (s.leg k).onL.isSome then s.onStop k true else s

/-- Force on accepted at an instant (R184): a force-off accepted in the same cycle, or waiting with it, acts alone (R185). -/
def State.forceOn (s : State) (k a : Nat) : State :=
  let x := s.leg k
  if x.st ≠ .active || x.offAt = some a || s.laneReqs.any (fun r => r.leg == k && r.action == 1 && r.due == a) then s
  else s.after16 k a fun s =>
    let x := s.leg k
    if x.st ≠ .active || x.onH.isSome || x.pstart.isNone then s else s.onStart k 2 false

/-- Restart period accepted at an instant (R177, R184): an on-time in progress ends first. -/
def State.restartPeriod (s : State) (k a : Nat) : State :=
  if (s.leg k).st ≠ .active then s
  else s.after16 k a fun s =>
    if (s.leg k).st ≠ .active then s
    else
      let s := if (s.leg k).onH.isSome then s.onStop k false else s
      let s := if (s.leg k).onL.isSome then s.onStop k true else s
      s.periodStart k s.et

/-- A request stands before another: it is accepted earlier, or in the same cycle from a lower engine or lane; a restart from Ground comes last (R185). -/
def LaneReq.before (a b : LaneReq) : Bool :=
  decide (a.due < b.due) || (a.due == b.due && (decide (a.engine < b.engine) || (a.engine == b.engine && decide (a.lane < b.lane))))

/-- The first request for a leg in the order of R185. -/
def State.firstReq (s : State) (k : Nat) : Option LaneReq :=
  match s.laneReqs.filter (fun r => r.leg == k) with
  | [] => none
  | a :: t => some (t.foldl (fun m r => if r.before m then r else m) a)

/-- The action of a request. -/
def State.laneDo (s : State) (r : LaneReq) : State :=
  match r.action with
  | 1 => s.forceOff r.leg r.due
  | 2 => s.forceOn r.leg r.due
  | _ => s.restartPeriod r.leg r.due

/-! ## Commands of a leg -/

/-- The reason for which an ENABLE that arrives in a FAB cycle is refused, 0 if it is not (R189); the cycle of a release is too early (R275). -/
def State.enableReason (s : State) (k cyc : Nat) : Nat :=
  let x := s.leg k
  let p := s.rd L_PERIOD_LO_PERIOD k + 2 ^ 32 * s.rd L_PERIOD_HI_PERIOD k
  let bad (out : Nat) : Bool :=
    s.otrOn k out && (out = 0 || s.rd L_SAFE_SAFE k = 0) && s.rd (if out = 0 then L_OTRSTAT_CLASSH else L_OTRSTAT_CLASSL) k != 1
  if x.latch || s.srcActive k || x.relAt = some cyc then 1
  else if bad 0 || bad 1 then 2
  else if 1 ≤ p && p < 1024 then 3
  else if s.committed.isNone || s.step12 || s.rd PRK_STATE_OP 0 = 3 then 4
  else if x.stopAt = some cyc then 5 else 0

/-- ENABLE that arrived in a FAB cycle is in force now (R177, R189): from SAFE to ACTIVE; the first period begins now, or at the next phase instant. High
impedance lasts while the thermal cut-off acts (R193, R530). Log entry 45 (DEDUCED). -/
def State.legEnable (s : State) (k cyc : Nat) : State :=
  let x := s.leg k
  if x.st ≠ .safe || s.fnDrains (0xA0 + k) then s
  else
    let r := s.enableReason k cyc
    if r ≠ 0 then (s.wr L_STAT_CMDERR k r).legFault k 5 0 0
    else
      let t := s.et
      let per := s.legPeriod k
      let ph : Nat := s.rd L_PHASE_LO_PHASE k + 2 ^ 32 * s.rd L_PHASE_HI_PHASE k
      let off : Int := 64 * s.dt0
      let start : Nat := if s.on L_CFG_SYNC k then t + (((ph : Int) - ((t : Int) + off)) % (per : Int)).toNat else t
      let defer := s.complementary k && s.on L_CFG_LSDEFER k
      let s := s.setLeg k { x with st := .active, hiz := x.hiz && bit (s.rd PIN_EOGRP_CUT 0) (k / 6), defer := defer, recent := [] }
      let s := if s.complementary k then s else s.drive k 1 false
      let x := s.leg k
      let free := match x.hiOff with | some h => h + s.rd L_CFG_DTF k | none => 0
      let s := if s.complementary k && !defer && !s.on L_STAT_LOUT k then s.setLeg k { x with loDue := some (max start free) }
        else if defer then s.drive k 1 false else s
      s.periodStart k start

/-- CLRCLAMP releases clamped outputs and their Springbok sources (R197, R262); an output that is low listens again. -/
def State.clrClamp (s : State) (k : Nat) : State :=
  let one (s : State) (out : Nat) : State :=
    let x := s.leg k
    let o := x.otr out
    let o := if o.clamped then { o with clamped := false, src := none, listening := s.otrOn k out, since := s.et, filt := s.rd L_OTR_LOWFILT k, blockAt := s.et }
      else { o with src := none }
    (s.setLeg k (x.setOtr out o)).wrs k [(if out = 0 then L_OTRSTAT_CLAMPH else L_OTRSTAT_CLAMPL, 0),
      (if out = 0 then L_OTRSTAT_LISTENH else L_OTRSTAT_LISTENL, if o.listening then 1 else 0)]
  one (one s 0) 1

/-- A write of Ln_CMD that reaches its leg now and takes effect 1.6 ns later: ENABLE, STOP, STOPNOW, CLRCLAMP in ascending bits, a stop of the same write
refusing the ENABLE (R188, R189, R197). Log entry 45 (DEDUCED). -/
def State.legCmd (s : State) (k w : Nat) : State :=
  let a := s.et
  let mark (s : State) : State := if bit w 1 || bit w 2 then s.setLeg k { s.leg k with stopAt := some (a / 64) } else s
  let s := ((mark s).legAdvance 16 k (a + 82)).reach (a + 82)
  let s := if bit w 0 then s.legEnable k (a / 64) else s
  let s := if bit w 1 then s.legStopOwn k else s
  let s := if bit w 2 then s.legStop k 0 else s
  let s := mark s
  if bit w 3 then s.clrClamp k else s

/-- The readback of the oldest unjudged transition (R191, R192): the deviation in ticks, or none where no crossing came. A crossing more than 2 ns off
counts as none. Every transition gives a capture record. -/
def State.readback (s : State) (k : Nat) (dev : Option Int) : State :=
  let x := s.leg k
  match x.trans with
  | [] => s
  | (out, rise, t) :: rest =>
    let s := s.setLeg k { x with trans := rest }
    let et64 := ((t : Int) + 64 * s.dt0).toNat
    let fl (a b : Nat) : Nat := out + (if rise then 2 else 0) + a + b
    match dev.filter (fun d => decide (d.natAbs ≤ 102)) with
    | none =>
      let s := ((s.addTo L_RB_FAILS k 1).legFault k 1 out 0).capEdge k et64 0 (fl 4 0)
      if s.on L_CFG_RBSTOP k then s.legStop k 0 else s
    | some d =>
      let s := s.wr (if out = 0 then L_RBDEV_DEVH else L_RBDEV_DEVL) k (ofS 16 d)
      let late := s.rd L_RB_TOL k < d.natAbs
      let s := if late then (s.addTo L_RB_FAILS k 1).legFault k 0 out d else s
      s.capEdge k et64 d (fl 0 (if late then 8 else 0))

/-! ## Off-time return -/

/-- A write of Ln_OTR (R194, R200, R202): it takes effect with the next listening period of each output. One newly enabled is of class 6 and, if low and
not listening, begins to listen after SETTLE; one disabled ends with its listening period. Log entry 47 (DEDUCED). -/
def State.otrWrite (s : State) (k w : Nat) : State :=
  let one (s : State) (was : Bool) (out : Nat) : State :=
    let x := s.leg k
    let o := x.otr out
    if was || !s.otrOn k out || o.listening then s
    else
      let low := !s.on (if out = 0 then L_STAT_HOUT else L_STAT_LOUT) k
      (s.setLeg k (x.setOtr out { o with listenDue := if low && !o.clamped then some (s.et + s.settle k) else none })).wr
        (if out = 0 then L_OTRSTAT_CLASSH else L_OTRSTAT_CLASSL) k 6
  let h := s.otrOn k 0
  let l := s.otrOn k 1
  let s := s.wrs k [(L_OTR_SETTLE, bits w 27 16), (L_OTR_LOWFILT, bits w 15 8), (L_OTR_ENL, bits w 1 1), (L_OTR_ENH, bits w 0 0)]
  one (one s h 0) l 1

/-- SETTLE is over and the output begins to listen with the settings that stand now (R194, R202). -/
def State.listenStart (s : State) (k out : Nat) : State :=
  s.due ((s.leg k).otr out).listenDue fun s =>
    let x := s.leg k
    let o := x.otr out
    if !s.otrOn k out then s.otrOff k out
    else if o.clamped then s.setLeg k (x.setOtr out { o with listenDue := none })
    else (s.setLeg k (x.setOtr out { o with listenDue := none, listening := true, since := s.et, filt := s.rd L_OTR_LOWFILT k, blockAt := s.et })).wr
      (if out = 0 then L_OTRSTAT_LISTENH else L_OTRSTAT_LISTENL) k 1

/-- The source of an output is about to assert anew where it is not asserted (R262, R271). -/
def State.srcRise (s : State) (k out : Nat) : State :=
  if ((s.leg k).otr out).src.isSome then s else { s with srcSeen := s.srcSeen.filter (· ≠ 128 + 2 * k + out) }

/-- A listening output reads low for LOWFILT FAB cycles (R199): OTR_FAULT once per episode, class 6, and in the next FAB cycle the Springbok source. -/
def State.otrFault (s : State) (k out : Nat) : State :=
  let o := (s.leg k).otr out
  if !o.listening then s
  else
    let s := s.reach (o.since + 64 * max 1 o.filt)
    let x := s.leg k
    let o := { o with low := some (s.et / 64, true) }
    if o.episode then s.setLeg k (x.setOtr out o)
    else (((s.srcRise k out).setLeg k (x.setOtr out { o with episode := true, src := o.src.orElse fun _ => some ((s.et / 64 + 1) * 64) })).wr
      (if out = 0 then L_OTRSTAT_CLASSH else L_OTRSTAT_CLASSL) k 6).legFault k 2 out 0

/-- What OUT of a leg reads (R194): a listening output reads low or raised; where no command tells the line's level the reading is free. One that does
not listen has no reading. Log entry 89 (DESIGN CHOICE). -/
def State.otrLow (s : State) (k out : Nat) : Nat :=
  let o := (s.leg k).otr out
  if !o.listening then 0
  else match o.low with
    | some (c, v) => if c = s.et / 64 then b2n v else s.fresh / 2 ^ out % 2
    | none => s.fresh / 2 ^ out % 2

/-- Class of a block of uninterrupted listening (R200): its runs in order, low or raised, in FAB cycles. A run at either end of the
block is not complete. -/
def otrClass (runs : List (Bool × Nat)) : Nat :=
  let isRun (low : Bool) (a b : Nat) (r : Bool × Nat) : Bool := r.1 == low && a ≤ r.2 && r.2 ≤ b
  if runs.all (fun r => !r.1) then 1
  else if runs.all (fun r => r.1) then 3
  else
    let inner := (runs.drop 1).dropLast
    let isLow := isRun true 240 400
    let mid := ((inner.dropWhile (fun r => !isLow r)).reverse.dropWhile (fun r => !isLow r)).reverse
    let raised := mid.filter (fun r => !r.1)
    if (mid.filter isLow).length < 2 then 5
    else if raised.all (isRun false 240 400) then 2
    else if raised.all (isRun false 720 1200) then 4 else 5

/-- A listening block of 4 µs completes (R200): the class, and at class 1 the end of the episode and of the source (R199, R262). -/
def State.otrBlock (s : State) (k out : Nat) (runs : List (Bool × Nat)) : State :=
  let x := s.leg k
  let o := x.otr out
  if !o.listening then s
  else
    let s := s.reach (o.blockAt + 64 * 3200)
    let c := otrClass runs
    let o := { o with blockAt := s.et, low := some (s.et / 64, (runs.getLastD (false, 0)).1) }
    let o := if c = 1 then { o with episode := false, src := none } else o
    (s.setLeg k (x.setOtr out o)).wr (if out = 0 then L_OTRSTAT_CLASSH else L_OTRSTAT_CLASSL) k c

/-! ## Springbok -/

/-- A source trips a leg (R267, R268, R270, R271): the latch, rule 0, and the record of the lowest source of the cycle. new: the source has just asserted,
which a leg already latched notes. The edge generator learns of the latch 3.75 ns to 5.0 ns on and orders a safe low side on, no later than DTF + 6.6 ns
after the latch. -/
def State.tripLeg (s : State) (n k : Nat) (new : Bool) : State :=
  let x := s.leg k
  if x.latch then
    if !new then s
    else if x.seen then s.wr SPR_L_CAUSE_MORE k 1
    else if s.et / 64 = x.latchAt / 64 then s.setLeg k { x with latchSrc := min x.latchSrc n }
    else s.setLeg k { x with more := true }
  else
    let seen := s.et + 192 + s.fresh % 65
    let s := s.setLeg k { x with latch := true, seen := false, more := false, latchSrc := n, latchAt := s.et, seenAt := seen }
    let s := s.legSafe k
    let x := s.leg k
    let free := match x.hiOff with | some t => t + s.rd L_CFG_DTF k | none => 0
    let s := if s.rd L_SAFE_SAFE k = 1 && !s.on L_STAT_LOUT k then s.setLeg k { x with loDue := some (max (seen + s.fresh / 65 % 83) free) } else s
    s.drawn

/-- While a mapped source is asserted every leg in its mask is tripped (R267). Log entry 48 (DEDUCED). -/
def State.tripSource (s : State) (n : Nat) : State :=
  if !s.srcOn n then { s with srcSeen := s.srcSeen.filter (· ≠ n) }
  else
    let new := decide (n ∉ s.srcSeen)
    ((List.range 48).filter (fun k => bit (s.mapOf n) k)).foldl (fun s k => s.tripLeg n k new) { s with srcSeen := if new then s.srcSeen ++ [n] else s.srcSeen }

/-- A source asserts and trips its legs, in its FAB cycle where it was raised for one (R199, R267). -/
def State.tripAssert (s : State) (n : Nat) : State :=
  let t := if n < 128 then none else ((s.leg ((n - 128) / 2)).otr (n % 2)).src
  (match t with | some t => s.reach t | none => s).tripSource n

/-- The comparator of an input crosses a threshold, and its two sources act on their legs (R82, R262, R267). -/
def State.windowCross (s : State) (n : Nat) (v : Int) : State := ((s.window_cross n v).tripSource n).tripSource (64 + n)

/-- A listening line rises above V_CL (R197): the output is held low and its source asserts. -/
def State.otrClamp (s : State) (k out : Nat) : State :=
  let x := s.leg k
  let o := x.otr out
  if !o.listening then s
  else ((((s.srcRise k out).setLeg k (x.setOtr out { o with listening := false, clamped := true, src := some (match o.src with | some t => min t s.et | none => s.et) })).wrs k
    [(if out = 0 then L_OTRSTAT_CLAMPH else L_OTRSTAT_CLAMPL, 1), (if out = 0 then L_OTRSTAT_LISTENH else L_OTRSTAT_LISTENL, 0)]).legFault k 3 out 0).tripSource
      (128 + 2 * k + out)

/-- FAB first sees a latch, 3.75 ns to 5.0 ns after it set (R270, R271). -/
def State.latchSeen (s : State) (k : Nat) : State :=
  let x := s.leg k
  if !x.latch || x.seen then s
  else
    let s := s.reach x.seenAt
    let s := (s.setLeg k { x with seen := true }).wr L_STAT_TRIP k 1
    let s := s.wrs k [(SPR_L_CAUSE_VALID, 1), (SPR_L_CAUSE_MORE, if x.more then 1 else 0), (SPR_L_CAUSE_SOURCE, 0x8000 + x.latchSrc),
      (SPR_L_TIME_LO_TIME, s.tick), (SPR_L_TIME_HI_TIME, s.tick / 2 ^ 32)]
    ((s.addTo SPR_L_COUNT_COUNT k 1).publish (0xC40 + k)).setFlag 3 SPR_FAULT_FLAGS 0 0

/-- GO of SPR_REL from core c (R274, Table 11.3). -/
def State.legRelease (s : State) (c k : Nat) : State :=
  let x := s.leg k
  let r := if !x.latch then 1 else if s.srcActive k then 2 else if s.rd PRK_STATE_OP 0 = 3 then 3 else 0
  let s := s.wrs 0 [(SPR_REL_LEG, k), (SPR_RELSTAT_INIT, c), (SPR_RELSTAT_LEG, k), (SPR_RELSTAT_RESULT, r)]
  if r = 0 then (s.setLeg k { s.leg k with latch := false, seen := false, relAt := some (s.et / 64) }).wr L_STAT_TRIP k 0
  else if r = 1 then s else s.setFlag 3 SPR_FAULT_FLAGS 0 1

/-- The thermal cut-off of tile t acts on its twelve outputs (R193, R530). -/
def State.cutoff (s : State) (t : Nat) : State :=
  let s := (s.wr PIN_EOGRP_CUT 0 (setBit (s.rd PIN_EOGRP_CUT 0) t true)).raise PIN_EOGRP_EVER 0 (2 ^ t)
  ((List.range 6).map (6 * t + ·)).foldl (fun s k =>
    let s := (s.legFault k 4 0 0).legStop k 0
    let s := (s.drive k 0 false).drive k 1 false
    s.setLeg k { s.leg k with hiz := true, loDue := none }) s

/-- The sensor falls below 140 °C (R530). -/
def State.cutRelease (s : State) (t : Nat) : State := s.wr PIN_EOGRP_CUT 0 (setBit (s.rd PIN_EOGRP_CUT 0) t false)

/-- Every leg stops by rule 0. -/
def State.stopAll (s : State) : State := (List.range 48).foldl (fun s k => s.legStop k 0) s

end Sys2Proof.Machine
end

