-- ==== Sys2Proof/Machine/Memory.lean ====
section
/-!
DEFINITION. Byte memories and the check of their codewords (spec/22, R499, R500): engine data memory, TCM and shared SRAM are
lists of listed bytes at ascending addresses in which no listed byte is 0.
-/
namespace Sys2Proof.Machine
open F

/-- The byte at an address. Log entry 13 (DESIGN CHOICE). -/
def Mem.rd (m : Mem) (a : Nat) : BitVec 8 := mget m 0 a

/-- Store a byte; a zero byte is not listed. -/
def Mem.wr (m : Mem) (a : Nat) (b : BitVec 8) : Mem := mset m 0 a b

/-- n bytes from an address, little-endian. -/
def Mem.rdN (m : Mem) (a : Nat) : Nat → Nat
  | 0 => 0
  | n + 1 => (m.rd a).toNat + 256 * m.rdN (a + 1) n

/-- n bytes from an address, as a list. -/
def Mem.rdL (m : Mem) (a n : Nat) : List (BitVec 8) := (List.range n).map (fun i => m.rd (a + i))

/-- Store bytes from an address on. -/
def Mem.wrL (m : Mem) (a : Nat) : List (BitVec 8) → Mem
  | [] => m
  | b :: t => (m.wr a b).wrL (a + 1) t

/-- Store n little-endian bytes. -/
def Mem.wrN (m : Mem) (a n v : Nat) : Mem := m.wrL a (leBytes n v)

/-- The canonical form: addresses strictly rise and no listed byte is 0. -/
def Mem.wf : Mem → Bool
  | [] => true
  | [p] => p.2 != 0
  | p :: q :: t => p.2 != 0 && decide (p.1 < q.1) && Mem.wf (q :: t)

/-! ## Codewords of 16 bytes -/

/-- What a read of the codeword at an address finds: an uncorrectable error stays until the codeword is written whole (R500). -/
def State.eccAt (s : State) (cls inst addr : Nat) (e : Ecc) : Ecc :=
  if (cls, inst, addr / 16) ∈ s.badCw then .uncorr else e

/-- The class of Table 22.2 of a memory as the model numbers them: 8 stands for the warrant table, which shares class 5. -/
def eccClass (cls : Nat) : Nat := if cls = 8 then 5 else cls

/-- Count a corrected error; log, count and raise an uncorrectable one by the rules of R30 and R31 (R500); the engine counters
(R144). -/
def State.eccHit (s : State) (cls inst addr : Nat) (e : Ecc) (scrub : Bool) : State :=
  match e with
  | .ok => s
  | .corr =>
    let s := s.addTo NVM_ECCCNT_CORR (eccClass cls) 1
    if cls = 3 then (if inst < 48 then s.addTo LE_ECC_SCORR inst 1 else s.addTo LES_ECC_SCORR (inst - 48) 1)
    else if cls = 2 then (if inst < 48 then s.addTo LE_ECC_DCORR inst 1 else s.addTo LES_ECC_DCORR (inst - 48) 1)
    else s
  | .uncorr =>
    let s := { s with badCw := if (cls, inst, addr / 16) ∈ s.badCw then s.badCw else (cls, inst, addr / 16) :: s.badCw }
    let s := (s.addTo NVM_ECCCNT_UNCORR (eccClass cls) 1).logErr 3 NVM_ECCLOG_INFO_VALID NVM_ECCLOG_INFO_COUNT
      [NVM_ECCLOG_INFO_SCRUB, NVM_ECCLOG_INFO_CLASS, NVM_ECCLOG_INFO_INST, NVM_ECCLOG_ADDR_ADDR] 0 [if scrub then 1 else 0, eccClass cls, inst, addr / 16 * 16]
    s.setFlag 18 NVM_FAULT_FLAGS 0 0

/-- A read of a codeword: whether it is uncorrectable, and the state with the error counted. -/
def State.eccRead (s : State) (cls inst addr : Nat) (e : Ecc) : Bool × State :=
  let e := s.eccAt cls inst addr e
  (e == .uncorr, s.eccHit cls inst addr e false)

/-- Codewords of a span that a write of n bytes covers whole hold no error any more. -/
def State.eccClean (s : State) (cls inst addr n : Nat) : State :=
  { s with badCw := s.badCw.filter (fun c =>
      !(c.1 == cls && c.2.1 == inst && decide (addr ≤ 16 * c.2.2) && decide (16 * c.2.2 + 16 ≤ addr + n))) }

/-- A write of n bytes merges into a codeword that holds an uncorrectable error (Table 22.2). -/
def State.eccMergeBad (s : State) (cls inst addr n : Nat) : Bool :=
  s.badCw.any (fun c => c.1 == cls && c.2.1 == inst && decide (addr < 16 * c.2.2 + 16) && decide (16 * c.2.2 < addr + n)
    && !(decide (addr ≤ 16 * c.2.2) && decide (16 * c.2.2 + 16 ≤ addr + n)))

end Sys2Proof.Machine
end

