-- ==== Sys2Proof/Machine/Engines.lean ====
section
/-!
DEFINITION. Loop engines (spec/05) without their microcode: triggers and dispatch, the hold-off window of R223, fallback,
posts and CP, raw lanes, the mailbox, disable and enable, spare swaps, and scrubbing.
-/
namespace Sys2Proof.Machine
open F

def State.eng (s : State) (e : Nat) : Engine := mget s.engs {} e
def State.setEng (s : State) (e : Nat) (x : Engine) : State := { s with engs := mset s.engs {} e x }
def State.ltile (s : State) (t : Nat) : LeTile := mget s.ltiles {} t
def State.setLtile (s : State) (t : Nat) (x : LeTile) : State := { s with ltiles := mset s.ltiles {} t x }

/-- The tile of an engine: roles 6t to 6t + 5, and the role-less unit 48 + t (R17). -/
def engTile (e : Nat) : Nat := if e < 48 then e / 6 else e - 48

/-- Fetch cost f of a crossbar slot and post cost p of a leg (R19, R128, R129). -/
def fetchCost (e slot : Nat) : Nat := if slot < 64 && slot / 8 = engTile e then 2 else 4
def postCost (e leg : Nat) : Nat := if leg / 6 = engTile e then 3 else 5

/-- The legs of a job's slot, as a mask and as a list. -/
def State.slotMask (s : State) (e slot : Nat) : Nat :=
  s.rd LE_SLOT_LEGSLO_LEGS (8 * e + slot) + 2 ^ 32 * s.rd LE_SLOT_LEGSHI_LEGS (8 * e + slot)
def State.slotLegs (s : State) (e slot : Nat) : List Nat := (List.range 48).filter (fun k => bit (s.slotMask e slot) k)

/-- The slots of an engine that hold a job, and its legs (R139). -/
def State.engSlots (s : State) (e : Nat) : List Nat := (List.range 8).filter (fun i => decide (8 * e + i ∈ s.slotsUsed))
def State.engLegs (s : State) (e : Nat) : List Nat :=
  (List.range 48).filter (fun k => (s.engSlots e).any (fun i => bit (s.slotMask e i) k))

/-- LEn_STAT.STATE (Table 5.6). -/
def State.engState (s : State) (e : Nat) : Nat :=
  match (s.eng e).mode with
  | .fallback => 3
  | .faulted => 4
  | .disabled => 5
  | .normal => if (s.engSlots e).isEmpty then 0 else if (s.eng e).run.isSome then 2 else 1

/-- The start of the first ENG cycle at or after an instant. -/
def engCeil (t : Nat) : Nat := (t + 31) / 32 * 32

/-! ## Faults and fallback -/

/-- Legs go to their safe state by their stop rules. -/
def State.stopLegs (s : State) (ks : List Nat) : State := ks.foldl (fun s k => s.legStopOwn k) s

/-- The bindings of an engine's raw lanes end, and requests that would leave in this cycle or later (the third from the end of acceptance) are not
sent (R131, R134, R135). -/
def State.dropLanes (s : State) (e : Nat) : State :=
  let s := (List.range 4).foldl (fun s j => s.wr LE_RAW_CFG_EN (4 * e + j) 0) s
  let s := { s with lanesOn := s.lanesOn.filter (fun l => decide (l / 4 ≠ e)),
                    laneIn := s.laneIn.filter (fun p => decide (p.1 / 4 ≠ e)),
                    laneReqs := s.laneReqs.filter (fun r => !(r.engine == e && decide (s.et / 32 + 3 ≤ r.due / 32))) }
  s.setEng e { s.eng e with lanes := [], laneWr := [] }

/-- Start the horizontal program (R140): the run and its unaccepted posts are dropped, the engine's ACTIVE legs outside js are
held, and the first word issues in the ENG cycle after the fault (R173); atEnd: the fault comes at the end of its cycle (R126). -/
def State.fallbackStart (s : State) (e : Nat) (js : List Nat) (atEnd : Bool) : State :=
  let s := s.stopLegs js
  let s := { s with posts := s.posts.filter (fun q => !(q.engine == e && decide (s.et < q.due))) }
  let s := s.dropLanes e
  let held := (s.engLegs e).filter (fun k => decide (k ∉ js) && (s.leg k).st == .active)
  let s := held.foldl (fun s k => s.setLeg k { s.leg k with st := .fallback, holder := some e }) s
  let t := if atEnd then engCeil s.et else (s.et / 32 + 1) * 32
  s.setEng e { s.eng e with mode := .fallback, run := none, disReq := false, fb := some { start := t, next := t } }

/-- Fallback ends (R140): the legs it held go to their safe state by their stop rules; the engine is faulted, and a function
reset goes on to its reload (R142). -/
def State.fallbackEnd (s : State) (e : Nat) : State :=
  let held := (List.range 48).filter (fun k => (s.leg k).holder == some e && (s.leg k).st == .fallback)
  let s := s.stopLegs held
  let x := s.eng e
  if x.rst then
    (s.setEng e { x with mode := .faulted, fb := none, rst := false, reload := some (s.within (usec 200)) }).drawn
  else s.setEng e { x with mode := .faulted, fb := none }

/-- The faults of Table 5.4 that run fallback. -/
def runsFallback (b : Nat) : Bool := b ∈ [0, 1, 2, 4, 5, 10, 11]

/-- Raise engine fault 0x61 + b (R139 to R142, Table 5.4): its flag, LEn_FINFO and the fault producer, then the effects of the table. While fallback
runs, a fault that runs fallback changes nothing but its flag (R141). A faulted engine stays faulted, but for a function reset, which runs fallback
(R142). On the role-less unit only DBG_LSTAT.FCODE takes the fault, which ends its run (R516). Log entry 40 (DEDUCED). -/
def State.leFault (s : State) (e b : Nat) : State :=
  let x := s.eng e
  if 48 ≤ e then
    let s := s.wr DBG_LSTAT_FCODE 0 (0x61 + b)
    if b = 3 || (runsFallback b && x.fb.isNone) then s.setEng e { x with run := none, fb := none } else s
  else if runsFallback b && x.mode = .fallback then s.setFlag 11 LE_FAULT_FLAGS e b
  else
    let slot := match x.run with | some r => r.slot | none => 0
    let pc := match x.run with | some r => r.at_ | none => 0
    let s := s.wrs e [(LE_FINFO_CODE, 0x61 + b), (LE_FINFO_SLOT, slot), (LE_FINFO_INJOB, if x.run.isSome then 1 else 0),
      (LE_FINFO_ADDR, pc)]
    let s := (s.setFlag 11 LE_FAULT_FLAGS e b).publish (0x3C0 + e)
    if b = 3 then
      let s := s.stopLegs (s.engLegs e)
      if x.mode = .fallback then s.fallbackEnd e
      else
        let s := { s with posts := s.posts.filter (fun q => !(q.engine == e && decide (s.et < q.due))) }
        let s := s.dropLanes e
        s.setEng e { s.eng e with mode := .faulted, run := none, disReq := false }
    else if runsFallback b && (x.mode ≠ .faulted || x.rst) then
      let js := if b = 1 || b = 11 then [] else if x.run.isSome then s.slotLegs e slot else []
      s.fallbackStart e js (b = 0)
    else s

/-! ## Raw lanes: bindings and thresholds -/

/-- A RAWCFG descriptor binds or unbinds a lane (R131, R164): d0 as LEn_RAWj_CFG, d1 as LEn_RAWj_TH. -/
def State.rawBind (s : State) (e slot j d0 d1 : Nat) : State :=
  let l := 4 * e + j
  if !bit d0 31 then
    let s := { s with lanesOn := s.lanesOn.filter (· ≠ l), laneIn := mset s.laneIn [] l [] }
    s.wr LE_RAW_CFG_EN l 0
  else
    let m := bits d0 13 8
    let k := bits d0 19 14
    if m / 8 ≠ engTile e || k / 6 ≠ engTile e || !bit (s.slotMask e slot) k then s.leFault e 10
    else
      let s := s.wrs l [(LE_RAW_CFG_EN, 1), (LE_RAW_CFG_SLOT, slot), (LE_RAW_CFG_LEAK, bits d0 27 24), (LE_RAW_CFG_HIACT, bits d0 23 22),
        (LE_RAW_CFG_LOACT, bits d0 21 20), (LE_RAW_CFG_LEG, k), (LE_RAW_CFG_MOD, m), (LE_RAW_CFG_BLANK, bits d0 7 0),
        (LE_RAW_TH_HI, bits d1 31 16), (LE_RAW_TH_LO, bits d1 15 0), (LE_RAW_ACC_ACC, 0)]
      let s := { s with lanesOn := if l ∈ s.lanesOn then s.lanesOn else s.lanesOn ++ [l], laneIn := mset s.laneIn [] l [] }
      let x := s.eng e
      s.setEng e { x with lanes := mset x.lanes {} j { hi := true, lo := true } }

/-- A RAWTH or RAWCFG operation takes effect (R135, R164); RAWTH on an unbound lane does nothing. -/
def State.laneWrite (s : State) (e : Nat) : LaneWrite → State
  | .th j hi lo => if 4 * e + j ∈ s.lanesOn then s.wrs (4 * e + j) [(LE_RAW_TH_HI, hi), (LE_RAW_TH_LO, lo)] else s
  | .cfg slot j d0 d1 => s.rawBind e slot j d0 d1

/-- The RAWTH and RAWCFG operations of an engine that take effect by an instant do so, each in its cycle (R135, R164). -/
def State.laneDue (s : State) (e t : Nat) : State :=
  ((s.eng e).laneWr.filter (fun p => decide (p.2 ≤ t))).foldl (fun s p =>
    if p ∈ (s.eng e).laneWr then ((s.reach p.2).setEng e { s.eng e with laneWr := (s.eng e).laneWr.erase p }).laneWrite e p.1 else s) s

/-! ## Triggers and dispatch -/

/-- A trigger counts as arriving at its slot at an instant (R122, R124). -/
def State.triggerAt (s : State) (e slot t : Nat) : State :=
  let x := s.eng e
  let i := 8 * e + slot
  if x.mode ≠ .normal || s.committed.isNone || i ∉ s.slotsUsed then s
  else
    let drop (s : State) (b : Nat) : State := (s.satAdd LE_SLOT_STAT_LOST i).leFault e b
    let early := match mget x.disp none slot with
      | some d => decide (t < d + 32 * s.rd LE_SLOT_PERIOD_PERIOD i)
      | none => false
    if s.on LE_SLOT_STAT_PENDING i then drop s 6
    else if early then drop s 7
    else (s.setEng e { x with pend := mset x.pend 0 slot t }).wr LE_SLOT_STAT_PENDING i 1

/-- A trigger reaches a slot (R120, R122), or is held in the hold-off window of the engine's class T job (R223). -/
def State.jobTrigger (s : State) (e slot : Nat) : State :=
  match s.trigs.find? (fun p => p.1 == e && p.2.1 == slot) with
  | none => s
  | some p =>
    let s := { s with trigs := s.trigs.erase p }
    let t := engCeil p.2.2
    let s := s.reach t
    let x := s.eng e
    if x.holdP = 0 || slot ∉ x.classU then s.triggerAt e slot t
    else
      let now : Int := (t : Int) + 64 * s.dt0 - 64 * x.holdOff
      let left := ((-now) % (64 * x.holdP : Nat)).toNat / 32
      if 1 ≤ left && left ≤ x.holdH then s.setEng e { x with held := x.held ++ [(slot, t + 32 * (left + 1))] }
      else s.triggerAt e slot t

/-- A held trigger is presented in cycle t + 1 (R223). -/
def State.heldTrigger (s : State) (e slot : Nat) : State :=
  let x := s.eng e
  match x.held.find? (fun p => p.1 == slot) with
  | none => s
  | some p => ((s.setEng e { x with held := x.held.erase p }).reach p.2).triggerAt e slot p.2

/-- A free engine dispatches its lowest pending slot (R121, R123); no job starts during a structure load (R52). -/
def State.dispatch (s : State) (e : Nat) : State :=
  let x := s.eng e
  let ps := (s.engSlots e).filter (fun i => s.on LE_SLOT_STAT_PENDING (8 * e + i))
  if x.mode ≠ .normal || x.run.isSome || x.disReq || s.rd PRK_STATE_OP 0 = 3 || s.fnDrains (0x60 + e) then s
  else match ps with
    | [] => s
    | a :: l =>
      let first := l.foldl (fun m i => min m (mget x.pend 0 i)) (mget x.pend 0 a)
      let t := engCeil (max x.freeAt first)
      match ps.find? (fun i => decide (mget x.pend 0 i ≤ t)) with
      | none => s
      | some slot =>
        let i := 8 * e + slot
        let w := (t - mget x.pend 0 slot) / 32
        let s := s.reach t
        let s := s.wrs i [(LE_SLOT_STAT_PENDING, 0), (LE_SLOT_STAT_WAITMAX, max (s.rd LE_SLOT_STAT_WAITMAX i) (min w 127))]
        let pc := s.rd LE_SLOT_CODE_ENTRY i
        s.setEng e { x with run := some { slot := slot, t0 := t, pc := pc, at_ := pc },
                            disp := mset x.disp none slot (some t), pend := mset x.pend 0 slot 0 }

/-- A run ends at the end of its last microstep. -/
def State.runEnd (s : State) (e : Nat) : State :=
  let x := s.eng e
  match x.run with
  | none => s
  | some r => s.setEng e { x with run := none, freeAt := r.t0 + 32 * (r.steps + 1) }

/-- BUDGET microsteps have passed without END (R126): LE_OVERRUN at the end of that cycle. -/
def State.budgetExpiry (s : State) (e : Nat) : State :=
  match (s.eng e).run with
  | none => s
  | some r =>
    let b := s.rd LE_SLOT_BUDGET_BUDGET (8 * e + r.slot)
    let stop := r.t0 + 32 * (b + 1)
    let s := s.laneDue e stop
    if (s.eng e).run.isSome then (s.reach stop).leFault e 0 else s

/-! ## The horizontal program (R172 to R174) -/

/-- A leg held by an engine's fallback. -/
def State.heldBy (s : State) (e k : Nat) : Bool := (s.leg k).holder == some e && (s.leg k).st == .fallback

/-- One update of a horizontal word: register, operation and immediate. An uncorrectable data word loads 0 (R174). -/
def State.fbUpdate (s : State) (e : Nat) (f : FbRun) (hsel op imm : Nat) (ecc : Ecc) : FbRun × State :=
  let put (v : Nat) : FbRun := { f with h := mset f.h 0 hsel v }
  match op with
  | 1 => (put imm, s)
  | 2 => (put (min (max (((mget f.h 0 hsel : Nat) : Int) + toS 24 imm) 0) (2 ^ 24 - 1)).toNat, s)
  | 3 =>
    let a := 4 * (imm % 2 ^ 14)
    let r := s.eccRead 2 e a ecc
    if r.1 then (put 0, r.2.leFault e 2) else (put ((r.2.eng e).dm.rdN a 4 % 2 ^ 24), r.2)
  | _ => (f, s)

/-- A horizontal microword issues (R173) from its two codewords (R156); fetch is what the check of the first finds. On the role-less unit its post and
signal are not delivered (R516). -/
def State.fallbackWord (s : State) (e : Nat) (ecc data : Ecc) : State :=
  let x := s.eng e
  match x.fb with
  | none => s
  | some f =>
    if e < 48 && f.start + 32 * s.rd LE_FBLIM_LIMIT e ≤ f.next then s
    else
      let s := s.reach f.next
      let r := s.eccRead 3 e (16384 + 32 * f.pc) ecc
      let r := if r.1 then r else r.2.eccRead 3 e (16384 + 32 * f.pc + 16) .ok
      if r.1 then r.2.leFault e 3
      else
        let s := r.2
        let w := mget x.hs (2 ^ 159) f.pc
        let (f, s) := s.fbUpdate e f (bits w 99 98) (bits w 97 96) (bits w 95 72) data
        let (f, s) := s.fbUpdate e f (bits w 71 70) (bits w 69 68) (bits w 67 44) data
        let leg := bits w 111 106
        let pk := bits w 105 104
        let mask := bits w 103 100
        let hv (i : Nat) : Int := ((mget f.h 0 i : Nat) : Int)
        let vals : List (Option Int) :=
          if pk = 2 then [some (hv 0), some (hv 1)] else none :: (List.range 4).map fun i => if bit mask i then some (hv i) else none
        let s :=
          if 48 ≤ e then
            if pk = 1 || pk = 2 then
              s.setEng e { s.eng e with post := some (leg, if pk = 1 then (List.range 4).foldl (fun m i => if bit mask i then m + 2 ^ (3 - i) else m) 0 else 0, vals.filterMap id) }
            else s
          else if !s.heldBy e leg then s
          else if pk = 1 || pk = 2 then
            { s with posts := s.posts ++ [{ engine := e, leg := leg, slope := pk == 2, vals := vals, fallback := true, due := s.et + 32 * postCost e leg }] }
          else if pk = 3 then s.legStopOwn leg
          else s
        let st := bits w 35 22
        let s := if bit w 36 && st < 0x3E00 then s.setEng e { s.eng e with dm := (s.eng e).dm.wrN (4 * st) 4 (mget f.h 0 (bits w 21 20)) } else s
        let s := if bit w 43 && e < 48 then s.publishAt (0x300 + 4 * e + bits w 42 41) (s.tickAt (s.et + 95)) else s
        let cop := bits w 131 130
        let cnt := if cop = 1 then bits w 147 132 else if cop = 2 then f.cnt - 1 else f.cnt
        let brc := bits w 150 148
        let jump := brc = 1 || (brc = 2 && cnt = 0) || (brc = 3 && cnt ≠ 0) || (brc = 4 && (s.leg leg).latch)
        let pc := if jump then bits w 158 151 else (f.pc + 1) % 256
        if bit w 159 then
          let s := s.setEng e { s.eng e with fb := some { f with cnt := cnt, next := f.next + 32 } }
          let s := s.reach (f.next + 32)
          if 48 ≤ e then s.setEng e { s.eng e with fb := none } else s.fallbackEnd e
        else s.setEng e { s.eng e with fb := some { f with cnt := cnt, pc := pc, next := f.next + 32 * (1 + bits w 127 112) } }

/-- LEn_FBLIM ENG cycles of fallback have passed (R173). -/
def State.fblimExpiry (s : State) (e : Nat) : State :=
  match (s.eng e).fb with
  | none => s
  | some f =>
    if 48 ≤ e || (s.eng e).mode ≠ .fallback then s
    else (s.reach (f.start + 32 * s.rd LE_FBLIM_LIMIT e)).fallbackEnd e

/-! ## Posts -/

/-- A leg accepts its oldest post (R129, R182), and the engine records CP for the first post of a run (R127), with the ENG cycles for which the post
waited for the leg's tile (R206); a post is refused during a commit (R51, R181). -/
def State.postAccept (s : State) (k : Nat) : State :=
  match s.posts.find? (fun q => q.leg == k) with
  | none => s
  | some q =>
    let s := ({ s with posts := s.posts.erase q }).reach q.due
    if s.step12 then s else
    let s := s.legPost q
    match q.cp with
    | none => s
    | some (slot, cp, fp) =>
      let cp := if q.held then cp + (s.et - q.due + 31) / 32 else cp
      let i := 8 * q.engine + slot
      let s := s.wrs i [(LE_SLOT_CPATH_LASTCP, min cp 65535), (LE_SLOT_CPATH_MAXCP, max (s.rd LE_SLOT_CPATH_MAXCP i) (min cp 65535))]
      if s.rd LE_SLOT_BUDGET_U i + 1 + fp < cp then s.leFault q.engine 8 else s

/-- The posts to a leg whose acceptance ends by an instant are accepted. -/
def State.postsBy (s : State) (k d : Nat) : State :=
  (s.posts.filter (fun q => q.leg == k && decide (q.due ≤ d))).foldl (fun s _ => s.postAccept k) s

/-- A raw-lane request reaches its leg; a post accepted in the same cycle comes first (R134); refused during a commit (R51). -/
def State.laneStep (s : State) (r : LaneReq) : State :=
  let s := (({ s with laneReqs := s.laneReqs.erase r }).reach r.due).postsBy r.leg r.due
  if s.step12 then s else s.laneDo r

/-- The requests for a leg reach it in the order of R185 up to the first of an action; n bounds their number. -/
def State.laneRun : Nat → State → Nat → Nat → State
  | 0, s, _, _ => s
  | n + 1, s, k, action =>
    match s.firstReq k with
    | none => s
    | some r => if r.action = action then s.laneStep r else (s.laneStep r).laneRun n k action

/-- The oldest request of an action for a leg reaches it, after the requests that stand before it (R184, R185). -/
def State.laneAct (s : State) (k action : Nat) : State :=
  if s.laneReqs.any (fun r => r.leg == k && r.action == action) then s.laneRun s.laneReqs.length k action else s

/-! ## Raw lanes: codes -/

/-- A lane accumulates and compares one code of its source (R132 to R134). -/
def State.rawLane (s : State) (e j : Nat) : State :=
  let s := s.laneDue e s.et
  let l := 4 * e + j
  match mget s.laneIn [] l with
  | [] => s
  | c :: rest =>
    let s := { s with laneIn := mset s.laneIn [] l rest }
    if l ∉ s.lanesOn then s
    else
      let acc := toS 16 (s.rd LE_RAW_ACC_ACC l)
      let lk := s.rd LE_RAW_CFG_LEAK l
      let acc := satS 16 (acc - (if lk = 0 then 0 else Int.fdiv acc (2 ^ lk)) + (2 * (c : Int) - 15))
      let s := s.wr LE_RAW_ACC_ACC l (ofS 16 acc)
      let cyc := s.et / 32
      let blank := s.rd LE_RAW_CFG_BLANK l
      let x := s.eng e
      let y := mget x.lanes {} j
      let past := match y.blank with | some b => decide (b + blank < cyc) | none => false
      let y := if past then { y with hi := true, lo := true, blank := none } else y
      if y.blank.isSome then s.setEng e { x with lanes := mset x.lanes {} j y }
      else
        let hi := toS 16 (s.rd LE_RAW_TH_HI l)
        let lo := toS 16 (s.rd LE_RAW_TH_LO l)
        let ha := s.rd LE_RAW_CFG_HIACT l
        let la := s.rd LE_RAW_CFG_LOACT l
        let fh := y.hi && ha != 0 && decide (hi ≤ acc)
        let fl := !fh && y.lo && la != 0 && decide (acc ≤ lo)
        let y := { y with hi := if fh then false else y.hi || decide (acc < hi), lo := if fl then false else y.lo || decide (lo < acc) }
        let y := if (fh || fl) && blank ≠ 0 then { y with blank := some cyc } else y
        let s := s.setEng e { x with lanes := mset x.lanes {} j y }
        if fh || fl then
          let s := s.addTo LE_RAW_ACC_REQS l 1
          { s with laneReqs := s.laneReqs ++ [⟨s.rd LE_RAW_CFG_LEG l, if fh then ha else la, e, j, 32 * (cyc + 5)⟩] }
        else s

/-- Blanking ends and both actions are rearmed (R133). -/
def State.blankEnd (s : State) (e j : Nat) : State :=
  let y := mget (s.eng e).lanes {} j
  match y.blank with
  | none => s
  | some b =>
    let s := s.reach (32 * (b + s.rd LE_RAW_CFG_BLANK (4 * e + j) + 1))
    let x := s.eng e
    s.setEng e { x with lanes := mset x.lanes {} j { hi := true, lo := true, blank := none } }

/-! ## Parameter mailbox -/

/-- The CORE cycle of an instant. -/
def coreCyc (t : Nat) : Nat := 5 * t / 256

/-- A write of LEn_MBOX_DATA by an initiator (R136). -/
def State.mboxData (s : State) (e : Nat) (ini : Initiator) (w : Nat) : State := s.wr LE_MBOX_DATA_VALUE (32 * e + initNum ini) w

/-- An entry enters the FIFO (R136). Of the entries of one CORE cycle those of lower initiators stand first, so the one refused by a full FIFO is the
last of them; a refusal sets FULLERR and raises LE_MBOX_FULL. -/
def State.mboxEnter (s : State) (e : Nat) (m : MbEntry) : State :=
  let x := s.eng e
  let l := x.mbox.filter (fun q => !(decide (coreCyc q.enter = coreCyc m.enter) && decide (m.ini < q.ini)))
  let l := l ++ [m] ++ x.mbox.filter (fun q => decide (coreCyc q.enter = coreCyc m.enter) && decide (m.ini < q.ini))
  if l.length ≤ 8 then s.setEng e { x with mbox := l }
  else ((s.setEng e { x with mbox := l.take 8 }).raise LE_MBOX_STAT_FULLERR e 1).leFault e 9

/-- Pushes from outside CORE enter the FIFO when their crossing is complete (R136). -/
def State.mboxSettle (s : State) (e t : Nat) : State :=
  ((s.eng e).pushes.filter (fun m => decide (m.enter ≤ t))).foldl (fun s m =>
    ((s.setEng e { s.eng e with pushes := (s.eng e).pushes.erase m }).mboxEnter e m)) s

/-- What an engine has had due by now: pushes that enter its mailbox, and operations on its raw lanes (R135, R136, R164). -/
def State.leNow (s : State) (e : Nat) : State := (s.mboxSettle e s.et).laneDue e s.et

/-- A write of LEn_MBOX_PUSH (R136, R137): its fields, and with PUSH an entry. From a core it enters the FIFO at once, from any other initiator 2.0 ns to
3.0 ns later; it becomes visible 1.875 ns to 2.5 ns after it enters. -/
def State.mboxPush (s : State) (e : Nat) (ini : Initiator) (w : Nat) : State :=
  let s := s.wrs e [(LE_MBOX_PUSH_SLOT, bits w 11 9), (LE_MBOX_PUSH_HOLD, bits w 8 8), (LE_MBOX_PUSH_INDEX, bits w 5 0)]
  if !bit w 31 then s
  else
    let core := match ini with | .core _ => true | _ => false
    let s := s.mboxSettle e s.et
    let t := if core then s.et else s.et + 103 + s.fresh % 51
    let v := s.rd LE_MBOX_DATA_VALUE (32 * e + initNum ini)
    let m : MbEntry :=
      { slot := bits w 11 9, index := bits w 5 0, hold := bit w 8, value := v, due := some (t + 96 + s.fresh % 33), ini := initNum ini, enter := t }
    if core then s.drawn.mboxEnter e m else (s.setEng e { s.eng e with pushes := (s.eng e).pushes ++ [m] }).drawn

/-- The oldest entry still crossing becomes visible (R137). -/
def State.mboxVisible (s : State) (e : Nat) : State :=
  let dues := ((s.eng e).mbox.filterMap (·.due)) ++ (s.eng e).pushes.filterMap (·.due)
  match dues with
  | [] => s
  | d :: l =>
    let s := s.mboxSettle e (l.foldl min d)
    let x := s.eng e
    match x.mbox.find? (fun m => m.due.isSome) with
    | none => s
    | some m =>
      let s := s.reach (m.due.getD 0)
      s.setEng e { x with mbox := x.mbox.takeWhile (fun m => m.due.isNone) ++
        [{ m with due := none }] ++ (x.mbox.dropWhile (fun m => m.due.isNone)).drop 1 }

/-- The group at the front of the FIFO: entries with HOLD and the first without. Log entry 41 (DEDUCED). -/
def mboxGroup : List MbEntry → Option (List MbEntry × List MbEntry)
  | [] => none
  | m :: t =>
    if m.hold then
      match mboxGroup t with
      | some (g, r) => some (m :: g, r)
      | none => none
    else some ([m], t)

/-- One entry of a group is applied, or discarded and counted (R138). -/
def State.mboxApply (s : State) (e : Nat) (m : MbEntry) : State :=
  let x := s.eng e
  if 8 * e + m.slot ∈ s.slotsUsed && m.index < mget x.plen 0 m.slot then
    let a := 0xF800 + 0x100 * m.slot + 4 * m.index
    s.setEng e { x with dm := x.dm.wrN a 4 m.value }
  else s.addTo LE_MBOX_STAT_DROPPED e 1

/-- A visible group is applied in an ENG cycle in which no job runs or is dispatched (R137, R138). -/
def State.mboxGroupApply (s : State) (e : Nat) : State :=
  let s := s.mboxSettle e s.et
  let x := s.eng e
  let dispatching := x.mode = .normal && !x.disReq && (s.engSlots e).any (fun i => s.on LE_SLOT_STAT_PENDING (8 * e + i))
  if x.run.isSome || dispatching || x.staged then s
  else match mboxGroup x.mbox with
    | none => s
    | some (g, rest) =>
      if g.any (fun m => m.due.isSome) then s
      else g.foldl (fun s m => s.mboxApply e m) ((s.reach (engCeil (max s.et x.freeAt))).setEng e { x with mbox := rest })

/-! ## Disable and enable -/

/-- DISABLE (R143). -/
def State.engDisable (s : State) (e : Nat) : State :=
  let x := s.eng e
  if x.mode = .normal then s.setEng e { x with disReq := true } else s

/-- The running job and its posts are done, and the engine is disabled (R143). -/
def State.engDrained (s : State) (e : Nat) : State :=
  let x := s.eng e
  if !x.disReq || x.run.isSome || s.posts.any (fun q => q.engine == e) then s
  else
    let s := (s.dropLanes e).stopLegs (s.engLegs e)
    s.setEng e { s.eng e with mode := .disabled, disReq := false }

/-- The pending flags of an engine's slots are cleared. -/
def State.clearPending (s : State) (e : Nat) : State :=
  let s := (List.range 8).foldl (fun s i => s.wr LE_SLOT_STAT_PENDING (8 * e + i) 0) s
  s.setEng e { s.eng e with pend := [], held := [] }

/-- ENABLE (R143). -/
def State.engEnable (s : State) (e : Nat) : State :=
  if (s.eng e).mode = .disabled then (s.setEng e { s.eng e with mode := .normal }).clearPending e else s

/-- A swap or detachment of role e ends early, by a hard disable or a function reset (R150, R517): the unit without a role is the idle spare, or, after
a REPLACE, out of service. -/
def State.leSwapAbort (s : State) (e : Nat) : State :=
  let t := engTile e
  let ti := s.ltile t
  match ti.cur with
  | some w =>
    if w.req.role = e then
      let s := s.setLtile t { ti with cur := none, failed := ti.failed || w.req.kind = 1 }
      let s := if w.phase = 5 then (s.setEng (48 + t) { s.eng (48 + t) with run := none, fb := none }).wrs 0 [(DBG_LSTAT_DETACHED, 0), (DBG_LSTAT_INRUN, 0)]
        else s
      s.leFault e 12
    else s
  | none => s

/-- HDISABLE (R143, R150, Table 5.4). Log entry 40 (DEDUCED). -/
def State.engHdisable (s : State) (e : Nat) : State := (s.leSwapAbort e).leFault e 11

/-! ## Spare swap -/

/-- Ask Pillow for a run on an occasion (R217, R218). Log entry 29 (DEDUCED). -/
def State.plwAsk (s : State) (o : Nat) : State :=
  { s with plwAsked := s.plwAsked.filter (· ≠ o) ++ [o] }

/-- The unit without a role can take one (R146). -/
def LeTile.spareOk (x : LeTile) : Bool := !x.failed

/-- The unit that carries a role, and the unit of tile t that carries none (R28). -/
def LeTile.carrier (x : LeTile) (e : Nat) : Nat := mget x.units e e
def LeTile.idle (x : LeTile) (t : Nat) : Nat := x.free.getD (48 + t)

/-- A unit of tile t is out of service: only the one without a role can be (R145, R149, R150). -/
def LeTile.retired (x : LeTile) (t u : Nat) : Bool := x.failed && u == x.idle t

/-- A role is queued or in a swap. -/
def LeTile.has (x : LeTile) (e : Nat) : Bool :=
  x.queue.any (·.role == e) || (match x.cur with | some w => w.req.role == e | none => false)

/-- A swap request of kind 0, 1 or 2 for role e (R145, R146, R515); one for a role whose own swap is in progress changes nothing. Log entry 37 (DEDUCED). -/
def State.leSwapRequest (s : State) (e kind : Nat) : State :=
  let t := engTile e
  let x := s.ltile t
  let m := (s.eng e).mode
  if !x.spareOk || (kind ≠ 1 && (m = .faulted || m = .fallback)) then s.leFault e 14
  else if x.has e then
    s.setLtile t { x with queue := x.queue.map fun q => if q.role = e && kind = 1 && q.kind = 0 then { q with kind := 1 } else q }
  else s.setLtile t { x with queue := x.queue ++ [⟨e, kind⟩] }

/-- CANCEL removes a queued request (R145). -/
def State.leSwapCancel (s : State) (e : Nat) : State :=
  let t := engTile e
  let x := s.ltile t
  s.setLtile t { x with queue := x.queue.filter (·.role != e) }

/-- The tile serves its oldest request: the copy begins (R145, R147), or for a REPLACE of a faulted role the load of the spare (R146). A request whose turn
comes with no serviceable spare waits. Log entry 37 (DEDUCED). -/
def State.leSwapStart (s : State) (t : Nat) : State :=
  let x := s.ltile t
  if x.cur.isSome || s.prkBusy || !x.spareOk then s
  else match x.queue with
    | [] => s
    | q :: rest =>
      let load := (s.eng q.role).mode == .faulted && q.kind == 1
      let d := if load then s.within (usec 200) else s.et + 32 * 1360
      let s := if load then s.drawn else s
      s.setLtile t { x with queue := rest, cur := some { req := q, phase := 2, due := d, reload := load } }

/-- Bytes of data memory that the copy in progress has put into the unit without a role (R147): 64 bytes in an ENG cycle, after the two control stores.
Log entry 87 (DESIGN CHOICE). -/
def State.copied (s : State) (t : Nat) : Nat :=
  match (s.ltile t).cur with
  | some w => if (w.phase = 2 || w.phase = 4) && !w.reload then min 65536 (64 * ((s.et + 43520 - w.due) / 32) - 21504) else 0
  | none => 0

/-- Data memory of the unit without a role (R28): its own, but where a copy has passed the carrying unit's, with what was written there since. -/
def State.spareDm (s : State) (t : Nat) : Mem :=
  let own := (s.eng (48 + t)).dm
  match (s.ltile t).cur with
  | some w =>
    let n := s.copied t
    if n = 0 then own
    else w.own.foldl (fun m a => m.wr a (own.rd a)) ((s.eng w.req.role).dm.filter (fun c => decide (c.1 < n)) ++ own.filter (fun c => decide (n ≤ c.1)))
  | none => own

/-- Fields of a slot register that a unit holds. -/
def slotFields : List Field :=
  [LE_SLOT_JOB_VALID, LE_SLOT_JOB_TRIG, LE_SLOT_JOB_SRC, LE_SLOT_JOB_JOB, LE_SLOT_CODE_ENTRY, LE_SLOT_CODE_IMAGE,
    LE_SLOT_BUDGET_U, LE_SLOT_BUDGET_BUDGET, LE_SLOT_PERIOD_PERIOD, LE_SLOT_LEGSLO_LEGS, LE_SLOT_LEGSHI_LEGS]

/-- Role e moves to the unit without a role, and the unit that carried it is the one without (R28, R148): it keeps its stores, data memory, slots and
ECC counters. copied: the new unit holds a copy of them; its data memory may differ where it was written through its own window. -/
def State.releaseUnit (s : State) (e : Nat) (copied : Bool) : State :=
  let t := engTile e
  let x := s.eng e
  let old := s.eng (48 + t)
  let cnt (f g : Field) (s : State) : State := let v := s.rd f e; let w := s.rd g t; let s := s.wr g t v; if copied then s else s.wr f e w
  let dm := s.spareDm t
  let s := s.setEng (48 + t) { vs := x.vs, hs := x.hs, dm := x.dm, plen := x.plen, fp := x.fp }
  let s := if copied then s.setEng e { x with dm := dm } else s.setEng e { x with vs := old.vs, hs := old.hs, dm := old.dm }
  let s := cnt LE_ECC_DCORR LES_ECC_DCORR (cnt LE_ECC_SCORR LES_ECC_SCORR s)
  let of (u : Nat) (c : Nat × Nat × Nat) : Bool := (c.1 == 2 || c.1 == 3) && c.2.1 == u
  let s := { s with badCw := s.badCw.filter (fun c => !of (48 + t) c) ++ (s.badCw.filter (of e)).map (fun (c : Nat × Nat × Nat) => (c.1, 48 + t, c.2.2)) }
  let ti := s.ltile t
  let u := ti.carrier e
  let s := s.setLtile t { ti with units := mset ti.units e e (ti.idle t), free := if u = 48 + t then none else some u }
  (List.range 8).foldl (fun s i => slotFields.foldl (fun s f => s.wr f (8 * (48 + t) + i) (s.rd f (8 * e + i))) s) s

/-- The switch (R147, R148): in the first free cycle after the copy the other unit takes the role. reload puts the role's stores and
slots back from the committed pricking, for a REPLACE of a faulted engine (R146). -/
def State.leSwitch (s : State) (t : Nat) (reload : State → Nat → State) : State :=
  match (s.ltile t).cur with
  | none => s
  | some w =>
    let e := w.req.role
    if (w.phase ≠ 2 && w.phase ≠ 4) || (s.eng e).run.isSome then s
    else
      let s := s.reach (engCeil (max w.due (s.eng e).freeAt))
      let s := (s.plwAsk 3).releaseUnit e (!w.reload)
      let s := if w.phase = 2 && w.req.kind = 1 && (w.reload || (s.eng e).mode = .faulted) then reload s e else s
      let x := s.ltile t
      if w.phase = 4 then s.setLtile t { x with cur := none }
      else if w.req.kind = 1 then s.setLtile t { x with cur := none, failed := true }
      else if w.req.kind = 2 then
        (s.setLtile t { x with cur := some { w with phase := 5, own := [] } }).wrs 0
          [(DBG_LSTAT_DETACHED, 1), (DBG_LSTAT_INRUN, 0), (DBG_LSTAT_BPHIT, 0), (DBG_LSTAT_FCODE, 0), (DBG_LSTAT_ADDR, 0)]
      else (s.setLtile t { x with cur := some { w with phase := 3, due := s.within (usec 200), own := [] } }).drawn

/-- The released engine's self-test ends (R149). -/
def State.selftestDone (s : State) (t : Nat) (pass : Bool) : State :=
  let x := s.ltile t
  match x.cur with
  | none => s
  | some w =>
    if w.phase ≠ 3 then s
    else
      let s := s.reach w.due
      if pass then s.setLtile t { x with cur := some { w with phase := 4, due := s.et + 32 * 1360 } }
      else (s.setLtile t { x with cur := none, failed := true }).leFault w.req.role 13

/-! ## Scrubbing -/

/-- A scrub reads a codeword (R144, R501): an uncorrectable error in a control store raises LE_VECC or LE_FBECC; the horizontal
store's codewords follow the vertical store's 16 KB. Log entry 40 (DEDUCED). -/
def State.eccScrub (s : State) (cls inst addr : Nat) (e : Ecc) : State :=
  let e := s.eccAt cls inst addr e
  let s := s.eccHit cls inst addr e true
  if cls = 3 && e = .uncorr && inst < 48 then s.leFault inst (if addr < 16384 then 1 else 3) else s

end Sys2Proof.Machine
end

