-- ==== Sys2Proof/Machine/Microcode.lean ====
section
/-!
DEFINITION. Vertical microcode (spec/06): the microwords, their encodings (Tables 6.2 and 6.3), issue with its stalls (R157, R158),
and what each operation does.
-/
namespace Sys2Proof.Machine
open F

/-- A vertical microword with its operands (Table 6.3): d, a, b value registers; k an accumulator; n an address register. -/
inductive UOp where
  | nop | fin | jmp (t : Nat) | br (cond t : Nat) | call (t : Nat) | ret | dbnz (d t : Nat)
  | fetch (d slot : Nat) | post (leg vs mask : Nat) | spost (leg vd vsl : Nat)
  | rawcfg (lane n off : Nat) | rawth (lane a b : Nat) | rawrd (d lane : Nat) | prm (d idx : Nat) | sig (k : Nat)
  | mov (d a : Nat) | ldi (d imm : Nat) | ldih (d imm : Nat)
  | add (d a b : Nat) | sub (d a b : Nat) | addi (d a imm : Nat) | abs (d a : Nat) | min (d a b : Nat) | max (d a b : Nat)
  | clamp (d a b : Nat) | and (d a b : Nat) | or (d a b : Nat) | xor (d a b : Nat) | shl (d a sh : Nat) | shr (d a sh : Nat)
  | cmp (a b : Nat)
  | mul (k a b : Nat) | mac (k a b : Nat) | msu (k a b : Nat) | accld (k a sh : Nat) | accadd (k a sh : Nat) | accsum (k : Nat)
  | accrd (k d sh : Nat) | accclr (k : Nat) | accsv (k n off : Nat) | accrs (k n off : Nat)
  | ld (d n off : Nat) | st (a n off : Nat) | lda (n imm : Nat) | adda (n imm : Nat) | tlu (d a n off : Nat) | movs (d sel : Nat)
  deriving DecidableEq, Repr

/-- The microword that 32 bits encode (Tables 6.2 and 6.3); none for a reserved opcode. -/
def decodeU (w : Nat) : Option UOp :=
  let d := bits w 25 22
  let s1 := bits w 21 18
  let s2 := bits w 17 14
  let t := bits w 11 0
  let sh := bits w 5 0
  let k := bits w 25 25
  let lane := bits w 25 24
  let n := bits w 21 20
  let off := bits w 13 0
  match w / 2 ^ 26 % 64 with
  | 0x00 => some .nop
  | 0x01 => some .fin
  | 0x02 => some (.jmp t)
  | 0x03 => some (.br d t)
  | 0x04 => some (.call t)
  | 0x05 => some .ret
  | 0x06 => some (.dbnz d t)
  | 0x08 => some (.fetch d (bits w 9 0))
  | 0x09 => some (.post (bits w 25 20) (bits w 19 16) (bits w 15 11))
  | 0x0A => some (.spost (bits w 25 20) (bits w 19 16) (bits w 15 12))
  | 0x0B => some (.rawcfg lane n off)
  | 0x0C => some (.rawth lane s1 s2)
  | 0x0D => some (.rawrd d n)
  | 0x0E => some (.prm d (bits w 5 0))
  | 0x0F => some (.sig (bits w 1 0))
  | 0x10 => some (.mov d s1)
  | 0x11 => some (.ldi d (bits w 21 0))
  | 0x12 => some (.ldih d t)
  | 0x13 => some (.add d s1 s2)
  | 0x14 => some (.sub d s1 s2)
  | 0x15 => some (.addi d s1 off)
  | 0x16 => some (.abs d s1)
  | 0x17 => some (.min d s1 s2)
  | 0x18 => some (.max d s1 s2)
  | 0x19 => some (.clamp d s1 s2)
  | 0x1A => some (.and d s1 s2)
  | 0x1B => some (.or d s1 s2)
  | 0x1C => some (.xor d s1 s2)
  | 0x1D => some (.shl d s1 (bits w 4 0))
  | 0x1E => some (.shr d s1 (bits w 4 0))
  | 0x1F => some (.cmp s1 s2)
  | 0x20 => some (.mul k s1 s2)
  | 0x21 => some (.mac k s1 s2)
  | 0x22 => some (.msu k s1 s2)
  | 0x23 => some (.accld k s1 sh)
  | 0x24 => some (.accadd k s1 sh)
  | 0x25 => some (.accsum k)
  | 0x26 => some (.accrd k s1 sh)
  | 0x27 => some (.accclr k)
  | 0x28 => some (.accsv k n off)
  | 0x29 => some (.accrs k n off)
  | 0x2A => some (.ld d n off)
  | 0x2B => some (.st d n off)
  | 0x2C => some (.lda n off)
  | 0x2D => some (.adda n off)
  | 0x2E => some (.tlu d (bits w 19 16) n off)
  | 0x2F => some (.movs d (bits w 1 0))
  | _ => none

/-! ## Issue (R157, R158). Resources: 0 to 15 v; 16 to 19 a; 20, 21 A0, A1 to the next operation that accumulates into them; 22, 23
the same to every other reader; 24 Z and N; 25 S; 26 Q. -/

/-- Microsteps (Table 6.3). -/
def UOp.cost : UOp → Nat
  | .jmp _ | .br _ _ | .call _ | .ret | .dbnz _ _ | .rawcfg _ _ _ | .accsv _ _ _ | .accrs _ _ _ => 2
  | .tlu _ _ _ _ => 3
  | _ => 1

/-- What a microword waits for: all that it reads, and what it writes except S and Q. -/
def UOp.waits : UOp → List Nat
  | .nop | .fin | .jmp _ | .call _ | .ret | .sig _ => []
  | .br c _ => if c < 6 then [24] else if c < 8 then [26] else [25]
  | .dbnz d _ => [d]
  | .fetch d _ | .rawrd d _ | .prm d _ | .ldi d _ | .ldih d _ => [d]
  | .post _ vs mask => (List.range ((List.range 5).filter (bit mask)).length).map (vs + ·)
  | .spost _ vd vsl => [vd, vsl]
  | .rawcfg _ n _ | .adda n _ | .lda n _ => [16 + n]
  | .rawth _ a b => [a, b]
  | .mov d a | .addi d a _ | .abs d a | .shl d a _ | .shr d a _ => [d, a, 24]
  | .add d a b | .sub d a b | .min d a b | .max d a b | .clamp d a b | .and d a b | .or d a b | .xor d a b => [d, a, b, 24]
  | .cmp a b => [a, b, 24]
  | .mul k a b | .mac k a b | .msu k a b => [20 + k, a, b]
  | .accld k a _ | .accadd k a _ => [20 + k, a]
  | .accsum k => [20 + k, 23 - k]
  | .accrd k d _ => [22 + k, d, 24]
  | .accclr k => [20 + k]
  | .accsv k n _ | .accrs k n _ => [22 + k, 16 + n]
  | .ld d n _ => [d, 16 + n]
  | .st a n _ => [a, 16 + n]
  | .tlu d a n _ => [d, a, 16 + n, 24]
  | .movs d sel => if sel = 1 then [d, 24, 25, 26] else [d]

/-- The cycle in which the next microword issues. -/
def ERun.issueAt (r : ERun) (o : UOp) : Nat :=
  o.waits.foldl (fun c k => max c (mget r.ready 0 k)) (r.steps + 1)

/-! ## Values -/

def ERun.rv (r : ERun) (i : Nat) : Int := mget r.v 0 i
def ERun.racc (r : ERun) (k : Nat) : Int := mget r.acc 0 k
def ERun.ra (r : ERun) (n : Nat) : Nat := mget r.a 0 n

/-- A resource is ready from a cycle on. -/
def ERun.rdy (r : ERun) (k c : Nat) : ERun := { r with ready := mset r.ready 0 k c }

/-- D takes a value, ready in cycle c. -/
def ERun.setV (r : ERun) (d : Nat) (x : Int) (c : Nat) : ERun := ({ r with v := mset r.v 0 d x }).rdy d c

/-- Z and N from a result (R161), ready in cycle c. -/
def ERun.setZN (r : ERun) (x : Int) (c : Nat) : ERun := ({ r with z := decide (x = 0), n := decide (x < 0) }).rdy 24 c

/-- A value that sat24 or sat48 changed sets S (R161), and a reader of S waits for cycle c. -/
def ERun.setS (r : ERun) (changed : Bool) (c : Nat) : ERun :=
  ({ r with sat := r.sat || changed }).rdy 25 (max c (mget r.ready 0 25))

/-- D = x with Z and N, no clamp. -/
def ERun.resZN (r : ERun) (d : Nat) (x : Int) (c : Nat) : ERun := (r.setV d x c).setZN x c

/-- D = sat24(x) with Z, N and S. -/
def ERun.res24 (r : ERun) (d : Nat) (x : Int) (c : Nat) : ERun :=
  ((r.setV d (satS 24 x) c).setZN (satS 24 x) c).setS (satS 24 x != x) c

/-- A = x, ready at c + 1 to the next accumulation and at c + 2 to other readers (R158). -/
def ERun.setAcc (r : ERun) (k : Nat) (x : Int) (c : Nat) : ERun :=
  (({ r with acc := mset r.acc 0 k x }).rdy (20 + k) (c + 1)).rdy (22 + k) (c + 2)

/-- A = sat48(x) with S. -/
def ERun.acc48 (r : ERun) (k : Nat) (x : Int) (c : Nat) : ERun := (r.setAcc k (satS 48 x) c).setS (satS 48 x != x) (c + 2)

/-- A 24-bit pattern operation. -/
def u24 (x : Int) : Nat := ofS 24 x

/-- FETCH results that have arrived by a cycle (R162): the record and Q follow them in issue order. Log entry 39 (DESIGN CHOICE). -/
def ERun.arrive (r : ERun) (c : Nat) : ERun :=
  let got := r.fetches.takeWhile (fun f => decide (f.due ≤ c))
  got.foldl (fun (r : ERun) (f : Fetch) => ({ r with v := mset r.v 0 f.d f.value, qual := f.qual, seq := f.seq, q := f.qual != 0 } : ERun))
    ({ r with fetches := r.fetches.drop got.length } : ERun)

/-- The oldest FETCH result of an engine's run arrives (R162). -/
def State.fetchResult (s : State) (e : Nat) : State :=
  match (s.eng e).run with
  | none => s
  | some r =>
    match r.fetches with
    | [] => s
    | f :: _ => (s.reach (r.t0 + 32 * f.due)).setEng e { s.eng e with run := some (r.arrive f.due) }

/-- The sample of a crossbar slot: value, quality, sequence number (R128, R162). -/
def State.xslot (s : State) (n : Nat) : Int × Nat × Nat :=
  if n < 64 then
    (if s.on MOD_CFG_EN n then (toS 24 (s.rd MOD_SAMPLE_VALUE n), s.rd MOD_SAMPLE_QUAL n, (s.mrole n).seq) else (0, 3, 0))
  else mget s.xslots (0, 3, 0) n

/-- The branch condition (Table 6.4). -/
def ERun.cond (r : ERun) : Nat → Bool
  | 0 => r.z
  | 1 => !r.z
  | 2 => r.n
  | 3 => !r.n
  | 4 => !r.n && !r.z
  | 5 => r.n || r.z
  | 6 => r.q
  | 7 => !r.q
  | 8 => r.sat
  | 9 => !r.sat
  | _ => false

/-- Bits [23:0] of a data-memory word, signed. -/
def State.dword (s : State) (e w : Nat) : Int := toS 24 ((s.eng e).dm.rdN (4 * (w % 16384)) 4)

/-- Store a 32-bit data-memory word, except in the parameter area (R153); each word of ACCSV is judged on its own. Log entry 88 (DESIGN CHOICE). -/
def State.dstore (s : State) (e w v : Nat) : State :=
  if w % 16384 < 0x3E00 then s.setEng e { s.eng e with dm := (s.eng e).dm.wrN (4 * (w % 16384)) 4 v } else s

/-- The entries of a table that an interpolation reads (R165): one at either end, two between. -/
def interpIdx (d0 d1 : Nat) (x : Int) : List Nat :=
  let nm1 := bits d0 25 14
  let t := x - toS 24 d1
  let i := (t / 2 ^ bits d0 29 26).toNat
  if t < 0 then [0] else if nm1 ≤ i then [nm1] else [i, i + 1]

/-- Interpolation of R165 for an input x over the table of a descriptor. -/
def State.interp (s : State) (e d0 d1 : Nat) (x : Int) : Int :=
  let ent (i : Nat) : Int := s.dword e (bits d0 13 0 + i)
  match interpIdx d0 d1 x with
  | [i, j] =>
    let sh := bits d0 29 26
    let phi := x - toS 24 d1 - (i : Int) * 2 ^ sh
    ent i + Int.fdiv (2 * ((ent j - ent i) * phi) + 2 ^ sh) (2 ^ (sh + 1))
  | [i] => ent i
  | _ => 0

/-- Send a post of a run to a leg, or LE_BIND for a leg outside the job's LEGS (R130, R163); the first one carries CP (R127). -/
def State.sendPost (s : State) (e : Nat) (r : ERun) (c leg : Nat) (slope : Bool) (vals : List (Option Int)) (mask : Nat) : State :=
  if 48 ≤ e then s.setEng e { s.eng e with post := some (leg, mask, vals.filterMap id) }
  else if leg / 48 ≠ 0 || !bit (s.slotMask e r.slot) leg then s.leFault e 10
  else
    let p := postCost e leg
    let cp := if r.posted then none else some (r.slot, c + p, mget (s.eng e).fp 0 r.slot)
    let q : Post := { engine := e, leg := leg, slope := slope, vals := vals, fallback := false, due := r.t0 + 32 * (c + p), cp := cp }
    let s := { s with posts := s.posts ++ [q] }
    match (s.eng e).run with
    | some r => s.setEng e { s.eng e with run := some { r with posted := true } }
    | none => s

/-- Put the run of an engine. -/
def State.putRun (s : State) (e : Nat) (r : ERun) : State := s.setEng e { s.eng e with run := some r }

/-- Reads of data memory by a run: on an uncorrectable error LE_DECC (R153), else what follows. The check result given is that of
the first word; an error that stands in a codeword is met by every read of it. All words of one operation are read in its issue cycle. Log entry 88
(DESIGN CHOICE). -/
def State.dread (s : State) (e : Nat) (ecc : Ecc) : List Nat → (State → State) → State
  | [], f => f s
  | w :: t, f =>
    let q := s.eccRead 2 e (4 * (w % 16384)) ecc
    if q.1 then q.2.leFault e 2 else q.2.dread e .ok t f

/-- A RAWTH or RAWCFG operation is issued, and takes effect at an instant (R135, R164). -/
def State.laneLater (s : State) (e : Nat) (w : LaneWrite) (t : Nat) : State :=
  s.setEng e { s.eng e with laneWr := (s.eng e).laneWr ++ [(w, t)] }

/-- Operations on value registers alone, issued in cycle c: the run after them (Table 6.3). -/
def ERun.alu (r : ERun) (o : UOp) (c : Nat) : ERun :=
  match o with
  | .mov d a => r.resZN d (r.rv a) (c + 1)
  | .ldi d imm => r.setV d (toS 22 imm) (c + 1)
  | .ldih d imm => r.setV d (toS 24 (u24 (r.rv d) % 2 ^ 12 + 2 ^ 12 * imm)) (c + 1)
  | .add d a b => r.res24 d (r.rv a + r.rv b) (c + 1)
  | .sub d a b => r.res24 d (r.rv a - r.rv b) (c + 1)
  | .addi d a imm => r.res24 d (r.rv a + toS 14 imm) (c + 1)
  | .abs d a => r.res24 d ((r.rv a).natAbs : Nat) (c + 1)
  | .min d a b => r.resZN d (min (r.rv a) (r.rv b)) (c + 1)
  | .max d a b => r.resZN d (max (r.rv a) (r.rv b)) (c + 1)
  | .clamp d a b => r.resZN d (min (max (r.rv d) (r.rv a)) (r.rv b)) (c + 1)
  | .and d a b => r.resZN d (toS 24 (u24 (r.rv a) &&& u24 (r.rv b))) (c + 1)
  | .or d a b => r.resZN d (toS 24 (u24 (r.rv a) ||| u24 (r.rv b))) (c + 1)
  | .xor d a b => r.resZN d (toS 24 (u24 (r.rv a) ^^^ u24 (r.rv b))) (c + 1)
  | .shl d a sh => r.res24 d (r.rv a * 2 ^ sh) (c + 1)
  | .shr d a sh => r.resZN d (Int.fdiv (r.rv a) (2 ^ sh)) (c + 1)
  | .cmp a b => ({ r with z := decide (r.rv a = r.rv b), n := decide (r.rv a < r.rv b) }).rdy 24 (c + 1)
  | .mul k a b => r.setAcc k (r.rv a * r.rv b) c
  | .mac k a b => r.acc48 k (r.racc k + r.rv a * r.rv b) c
  | .msu k a b => r.acc48 k (r.racc k - r.rv a * r.rv b) c
  | .accld k a sh => r.acc48 k (r.rv a * 2 ^ sh) c
  | .accadd k a sh => r.acc48 k (r.racc k + r.rv a * 2 ^ sh) c
  | .accsum k => r.acc48 k (r.racc k + r.racc (1 - k)) c
  | .accrd k d sh => r.res24 d (Int.fdiv (2 * r.racc k + 2 ^ sh) (2 ^ (sh + 1))) (c + 1)
  | .accclr k => r.setAcc k 0 c
  | .lda n imm => ({ r with a := mset r.a 0 n imm }).rdy (16 + n) (c + 1)
  | .adda n imm => ({ r with a := mset r.a 0 n (ofS 14 (((r.ra n : Nat) : Int) + toS 14 imm)) }).rdy (16 + n) (c + 1)
  | .dbnz d t =>
    let x := u24 (r.rv d - 1)
    let r := r.setV d (toS 24 x) (c + 1)
    if x = 0 then r else { r with pc := t }
  | .jmp t => { r with pc := t }
  | .br cond t => if r.cond cond then { r with pc := t } else r
  | .movs d sel =>
    if sel = 0 then r.setV d ((r.qual * 2 ^ 16 + r.seq % 2 ^ 16 : Nat) : Int) (c + 1)
    else
      let fl : Nat := (if r.sat then 8 else 0) + (if r.q then 4 else 0) + (if r.n then 2 else 0) + (if r.z then 1 else 0)
      r.setV d (fl : Int) (c + 1)
  | _ => r

/-- What a microword issued in cycle c does, the run standing with its pc past the word and its microsteps counted. -/
def State.uEffect (s : State) (e : Nat) (r : ERun) (o : UOp) (c : Nat) (ecc : Ecc) : State :=
  let s := s.putRun e r
  let ea (n off : Nat) : Nat := (r.ra n + off) % 16384
  match o with
  | .fin =>
    let i := 8 * e + r.slot
    let s := if e < 48 then s.wr LE_SLOT_STAT_MAXSTEPS i (max (s.rd LE_SLOT_STAT_MAXSTEPS i) r.steps) else s
    s.runEnd e
  | .call t =>
    if 8 ≤ r.stack.length then s.leFault e 4
    else s.putRun e { r with stack := r.pc :: r.stack, pc := t }
  | .ret =>
    match r.stack with
    | [] => s.leFault e 5
    | a :: st => s.putRun e { r with stack := st, pc := a }
  | .fetch d slot =>
    let x := s.xslot slot
    let last := (r.fetches.getLast?.map (·.due)).getD 0
    let due := max (c + fetchCost e slot) last
    let fe : Fetch := ⟨d, due, x.1, x.2.1, x.2.2⟩
    s.putRun e ((({ r with fetches := r.fetches ++ [fe] } : ERun).rdy d due).rdy 26 due)
  | .post leg vs mask =>
    let r' := (List.range 5).foldl (fun (p : List (Option Int) × Nat) i =>
      if bit mask (4 - i) then (p.1 ++ [some (r.rv p.2)], p.2 + 1) else (p.1 ++ [none], p.2)) (([] : List (Option Int)), vs)
    s.sendPost e r c leg false r'.1 mask
  | .spost leg vd vsl => s.sendPost e r c leg true [some (r.rv vd), some (r.rv vsl)] 0
  | .rawcfg lane n off =>
    s.dread e ecc [ea n off, ea n (off + 1)] fun s =>
      if 48 ≤ e then s
      else s.laneLater e (.cfg r.slot lane ((s.eng e).dm.rdN (4 * ea n off) 4) ((s.eng e).dm.rdN (4 * ea n (off + 1)) 4)) (r.t0 + 32 * (c + 2))
  | .rawth lane a b =>
    let hi := satS 16 (r.rv a)
    let lo := satS 16 (r.rv b)
    if 4 * e + lane ∈ s.lanesOn then
      (s.putRun e (r.setS (hi != r.rv a || lo != r.rv b) (c + 1))).laneLater e (.th lane (ofS 16 hi) (ofS 16 lo)) (r.t0 + 32 * (c + 1))
    else s
  | .rawrd d lane =>
    let x := if 4 * e + lane ∈ s.lanesOn then toS 16 (s.rd LE_RAW_ACC_ACC (4 * e + lane)) else 0
    s.putRun e (r.setV d x (c + 1))
  | .prm d idx =>
    let w := 0x3E00 + 0x40 * r.slot + idx
    s.dread e ecc [w] fun s => s.putRun e (r.setV d (s.dword e w) (c + 2))
  | .sig k => if e < 48 then s.publishAt (0x300 + 4 * e + k) (s.tickAt (s.et + 95)) else s
  | .accsv k n off =>
    let x := ofS 48 (r.racc k)
    (s.dstore e (ea n off) (x % 2 ^ 24)).dstore e (ea n (off + 1)) (ofS 32 (toS 24 (x / 2 ^ 24)))
  | .accrs k n off =>
    s.dread e ecc [ea n off, ea n (off + 1)] fun s =>
      let x := u24 (s.dword e (ea n off)) + 2 ^ 24 * u24 (s.dword e (ea n (off + 1)))
      s.putRun e ((({ r with acc := mset r.acc 0 k (toS 48 x) }).rdy (20 + k) (c + 3)).rdy (22 + k) (c + 3))
  | .ld d n off => s.dread e ecc [ea n off] fun s => s.putRun e (r.setV d (s.dword e (ea n off)) (c + 2))
  | .st a n off => s.dstore e (ea n off) (ofS 32 (r.rv a))
  | .tlu d a n off =>
    let d0 := (s.eng e).dm.rdN (4 * ea n off) 4
    let d1 := (s.eng e).dm.rdN (4 * ea n (off + 1)) 4
    s.dread e ecc ([ea n off, ea n (off + 1)] ++ (interpIdx d0 d1 (r.rv a)).map (bits d0 13 0 + ·)) fun s =>
      s.putRun e (r.res24 d (s.interp e d0 d1 (r.rv a)) (c + 4))
  | .movs d sel =>
    if sel = 2 then s.putRun e (r.setV d (toS 24 s.tick) (c + 1))
    else if sel = 3 then s.putRun e (r.setV d (toS 24 (2 ^ 12 * s.rd LE_SLOT_JOB_JOB (8 * e + r.slot) + r.slot)) (c + 1))
    else s.putRun e (r.alu o c)
  | o => s.putRun e (r.alu o c)

/-- An engine's run issues a microword in its issue cycle (R157, R158), once what its raw lanes have due by then has taken effect. The codeword it is
fetched from is checked, and an uncorrectable error is LE_VECC (R156): fetch is what that check finds, ecc what the first data word it reads finds.
Nothing when no job runs, or when the run has reached its budget; a word that cannot issue within the budget is never issued (R126). Log entry 38 (DEDUCED). -/
def State.uword (s : State) (e : Nat) (fetch : Ecc) (o : UOp) (ecc : Ecc) : State :=
  match (s.eng e).run with
  | none => s
  | some r =>
    let b := s.rd LE_SLOT_BUDGET_BUDGET (8 * e + r.slot)
    let c := r.issueAt o
    let s := s.laneDue e (r.t0 + 32 * min b c)
    if (s.eng e).run.isNone || b ≤ r.steps then s
    else if b < c then (s.reach (r.t0 + 32 * b)).putRun e { r with steps := b, at_ := r.pc }
    else
      let s := s.reach (r.t0 + 32 * c)
      let q := s.eccRead 3 e (4 * r.pc) fetch
      let r := { r.arrive c with at_ := r.pc }
      if q.1 then (q.2.putRun e r).leFault e 1
      else
        let last := c + o.cost - 1
        q.2.uEffect e { r with steps := if o = .fin then last else min last b, pc := (r.pc + 1) % 4096 } o c ecc

end Sys2Proof.Machine
end

