-- ==== Sys2Proof/Machine/Timers.lean ====
section
/-!
DEFINITION. General timers and device time (spec/12): counting with the fractional prescaler, ARM, compare and end, capture,
master and slave, and the 64-bit reads.
A timer's count is kept as it stood after a numbered source edge and brought up to an instant when it is needed.
-/
namespace Sys2Proof.Machine
open F

def State.timer (s : State) (n : Nat) : Timer := mget s.timers {} n
def State.setTimer (s : State) (n : Nat) (x : Timer) : State := { s with timers := mset s.timers {} n x }

/-- SRC, N, F, TPIN, SLAVE, MEV, MASTER as the plan sets them now; a timer without a record counts AON with N 1 (R278). -/
def State.gtPlan (s : State) (n : Nat) : List Nat :=
  if s.rd GT_CFG_N n = 0 then [0, 1, 0, 0, 0, 0, 0]
  else [s.rd GT_CFG_SRC n, s.rd GT_CFG_N n, s.rd GT_CFG_F n, s.rd GT_CFG_TPIN n, s.rd GT_LINK_SLAVE n, s.rd GT_LINK_MEV n,
    s.rd GT_LINK_MASTER n]

def Timer.src (x : Timer) : Nat := x.cfg.getD 0 0
def Timer.m (x : Timer) : Nat := 256 * x.cfg.getD 1 1 + x.cfg.getD 2 0
def Timer.tpin (x : Timer) : Nat := x.cfg.getD 3 0
def Timer.slave (x : Timer) : Nat := x.cfg.getD 4 0
def Timer.mev (x : Timer) : Nat := x.cfg.getD 5 0
def Timer.master (x : Timer) : Nat := x.cfg.getD 6 0

/-- The source whose domain a timer's writes and captures cross into: in RUN the one it was armed with, else its record's (R282, R283, R289). -/
def State.gtSrc (s : State) (n : Nat) : Nat := if s.rd GT_STAT_STATE n = 1 then (s.timer n).src else (s.gtPlan n).getD 0 0

/-- Number of the last edge of a clock source at or before an instant: AON, FAB, CORE (Table 12.1). -/
def clockEdges (src t : Nat) : Nat := if src = 1 then t / 64 else if src = 2 then 5 * t / 256 else t / 2048

/-- Instant of a clock source's edge. -/
def clockTime (src i : Nat) : Nat := if src = 1 then 64 * i else if src = 2 then (256 * i + 4) / 5 else 2048 * i

/-- Source edges of a timer up to an instant. -/
def State.gtEdges (s : State) (x : Timer) (t : Nat) : Nat :=
  if x.src = 3 then mget s.pinEdges 0 x.tpin else clockEdges x.src t

/-- The edge that ends the third complete source cycle after an instant (R282); pin sources count AON cycles. -/
def crossAt (src t : Nat) : Nat :=
  let k := if src = 3 then 0 else src
  let i := clockEdges k t
  clockTime k ((if clockTime k i = t then i else i + 1) + 3)

def State.gtCmp (s : State) (n : Nat) : Nat := s.rd GT_CMP_LO_CMP n + 2 ^ 32 * s.rd GT_CMP_HI_CMP n
def State.gtEnd (s : State) (n : Nat) : Nat := s.rd GT_END_LO_END n + 2 ^ 32 * s.rd GT_END_HI_END n

/-- Raise a producer of a timer at a count edge (R288): a FAB timer publishes in the cycle that begins there, any other after 3
synchroniser stages into FAB. -/
def State.gtPublish (s : State) (prod src t : Nat) : State :=
  s.publishAt prod (if src = 1 then s.tickAt t else s.tickAt (t + 63) + 3)

/-- The timers of a group that follow timer n. -/
def State.gtSlaves (s : State) (n : Nat) : List Nat :=
  ((List.range 16).map (16 * (n / 16) + ·)).filter (fun k =>
    let x := s.timer k
    k != n && x.slave != 0 && x.master == n && s.rd GT_STAT_STATE k == 1)

/-- A count edge has brought the timer to its COUNT: compare and end (R281, R286, R287), and the master's events (R291). -/
def State.gtFire (s : State) (n t : Nat) : State :=
  let x := s.timer n
  let m := s.on GT_STAT_ARMED n && (x.late || decide (s.gtCmp n ≤ x.count))
  let e := decide (s.gtEnd n ≤ x.count)
  let s0 := s
  let s := if m then ((s.raise GT_STAT_MATCH n 1).wr GT_STAT_ARMED n 0).raise GT_STAT_LATE n (b2n x.late) else s
  let s := if m then (s.setTimer n { s.timer n with late := false }).gtPublish (0x500 + n) x.src t else s
  let s := if e then ((s.wr GT_STAT_STATE n 2).raise GT_STAT_END n 1).gtPublish (0x540 + n) x.src t else s
  let s := if m || e then
      (s.gtSlaves n).foldl (fun s k =>
        let y := s.timer k
        if y.slave = 1 || !(if y.mev = 0 then m else e) then s
        else
          let c := if y.slave = 2 then GtChange.zero else .clock
          if y.src = 3 then s.setTimer k { y with onPin := y.onPin ++ [c] }
          else s.setTimer k { y with chg := y.chg ++ [(clockTime y.src (clockEdges y.src t + 1), c)] }) s
    else s
  if m || e then State.edge (n / 16 + 5) s0 s else s

/-- Source edges now reach the timer's prescaler (R281, R291). -/
def State.gtCounts (s : State) (n : Nat) : Bool :=
  let x := s.timer n
  s.rd GT_STAT_STATE n == 1 && x.slave != 3 && (x.slave != 1 || s.rd GT_STAT_STATE x.master == 1)

/-- Count edges still to go before the compare or the end can fire. -/
def State.gtTarget (s : State) (n : Nat) : Nat :=
  let x := s.timer n
  let e := max 1 (s.gtEnd n - x.count)
  if s.on GT_STAT_ARMED n then min e (if x.late then 1 else max 1 (s.gtCmp n - x.count)) else e

/-- Apply a change at its source edge (R281, R282, R285, R291). Log entry 50 (DEDUCED). -/
def State.gtApply (s : State) (n t : Nat) (c : GtChange) : State :=
  let x := s.timer n
  match c with
  | .arm =>
    let y := { x with count := 0, acc := 0, cfg := s.gtPlan n, late := decide (s.gtCmp n = 0) }
    let e := s.gtEdges y t
    (s.setTimer n { y with base := if y.src = 3 then e else e - 1 }).wrs n [(GT_STAT_STATE, 1), (GT_STAT_ARMED, 1)]
  | .cmp v =>
    (s.setTimer n { x with late := decide (v ≤ x.count) }).wrs n [(GT_CMP_LO_CMP, v), (GT_CMP_HI_CMP, v / 2 ^ 32), (GT_STAT_ARMED, 1)]
  | .fin v => s.wrs n [(GT_END_LO_END, v), (GT_END_HI_END, v / 2 ^ 32)]
  | .zero =>
    if s.rd GT_STAT_STATE n ≠ 1 then s
    else
      let acc := if s.gtCounts n then (x.acc + 256) % x.m else x.acc
      s.setTimer n { x with count := 0, acc := acc, base := x.base + 1 }
  | .clock =>
    if s.rd GT_STAT_STATE n = 1 then (s.setTimer n { x with count := x.count + 1 }).gtFire n t else s

/-- Count the source edges from the base up to edge number e, none of which fires. -/
def State.gtMove (s : State) (n e : Nat) : State :=
  let x := s.timer n
  let k := e - x.base
  if s.gtCounts n then s.setTimer n { x with count := x.count + (x.acc + 256 * k) / x.m, acc := (x.acc + 256 * k) % x.m, base := max x.base e }
  else s.setTimer n { x with base := max x.base e }

/-- Bring a timer up to an instant, firing compare and end and applying the changes that fall due on the way, in order; a gated
slave is brought up first when its master changes state. -/
def State.gtRun : Nat → State → Nat → Nat → State
  | 0, s, _, _ => s
  | fuel + 1, s, n, t =>
    let x := s.timer n
    let next := x.chg.foldl (fun (m : Option (Nat × GtChange)) p =>
      if t < p.1 then m else match m with | some q => if p.1 < q.1 then some p else some q | none => some p) none
    let lim := match next with
      | some (c, .zero) => s.gtEdges x c - 1
      | some (c, _) => s.gtEdges x c
      | none => s.gtEdges x t
    let j := s.gtTarget n
    let need := (j * x.m - x.acc + 255) / 256
    let sync (s : State) (u : Nat) : State :=
      ((s.gtSlaves n).filter (fun k => (s.timer k).slave == 1)).foldl (fun s k => State.gtRun fuel s k u) s
    if s.gtCounts n && decide (x.base + need ≤ lim) then
      let e := x.base + need
      let u := if x.src = 3 then t else clockTime x.src e
      State.gtRun fuel ((sync (s.gtMove n e) u).gtFire n u) n t
    else
      let s := s.gtMove n lim
      match next with
      | none => s
      | some (c, g) =>
        let s := s.setTimer n { s.timer n with chg := (s.timer n).chg.erase (c, g) }
        let s := if g = .arm || g = .clock then sync s c else s
        State.gtRun fuel (s.gtApply n c g) n t

/-- Bring a timer up to now. -/
def State.gtNow (s : State) (n : Nat) : State := State.gtRun 200 s n s.et

/-- Bring the gated slaves of a timer up to now, before the timer changes state. -/
def State.gtGated (s : State) (n : Nat) : State := ((s.gtSlaves n).filter (fun k => (s.timer k).slave == 1)).foldl (fun s k => s.gtNow k) s

/-- ARM of one timer (R281, R282). -/
def State.gtArm (s : State) (n : Nat) : State :=
  let s := s.gtNow n
  let x := s.timer n
  let src := (s.gtPlan n).getD 0 0
  if s.fnHeld (0xD0 + n / 16) then s else s.setTimer n { x with chg := x.chg ++ [(crossAt src s.et, .arm)] }

/-- A TGg_ARM write: the timers whose bits are set (R282). -/
def State.tgArm (s : State) (g mask : Nat) : State :=
  ((List.range 16).filter (bit mask)).foldl (fun s i => s.gtArm (16 * g + i)) s

/-- The ARM of a timer takes effect (R282). -/
def State.armEffect (s : State) (n : Nat) : State :=
  match (s.timer n).chg.find? (fun p => p.2 == .arm) with
  | none => s
  | some p => State.gtRun 200 (s.reach p.1) n (max s.et p.1)

/-- The instant of a timer's count edge number count from now, at its nominal rate, for a clock source (R463). -/
def State.gtNominal (s : State) (n count : Nat) : Option Nat :=
  let x := s.timer n
  if x.src = 3 then none else some (clockTime x.src (x.base + (count * x.m - x.acc + 255) / 256))

/-- The instant of the count edge that fires next, for a clock source. -/
def State.gtNextAt (s : State) (n count : Nat) : Option Nat := if s.gtCounts n then s.gtNominal n count else none

/-- The earliest change that waits for a source edge. -/
def State.gtChangeAt (s : State) (n : Nat) : Option Nat :=
  (s.timer n).chg.foldl (fun (m : Option Nat) p => match m with | some t => some (min t p.1) | none => some p.1) none

/-- Let time reach the next count edge that fires, taking the changes that come into force before it. -/
def State.gtUntil (want : State → Option Nat) : Nat → State → Nat → State
  | 0, s, _ => s
  | fuel + 1, s, n =>
    let upTo (t : Nat) : State := State.gtRun 200 (s.reach t) n (max s.et t)
    match want s, s.gtChangeAt n with
    | some f, some c => if c < f then State.gtUntil want fuel (upTo c) n else upTo f
    | some f, none => upTo f
    | none, some c => State.gtUntil want fuel (upTo c) n
    | none, none => s

/-- A count edge brings COUNT to the compare value (R286). -/
def State.compareMatch (s : State) (n : Nat) : State :=
  let s := s.gtNow n
  State.gtUntil (fun s =>
    let x := s.timer n
    if s.on GT_STAT_ARMED n then s.gtNextAt n (if x.late then 1 else max 1 (s.gtCmp n - x.count)) else none)
    ((s.timer n).chg.length + 1) s n

/-- A count edge brings COUNT to END (R281, R287). -/
def State.endOfCount (s : State) (n : Nat) : State :=
  let s := s.gtNow n
  State.gtUntil (fun s => s.gtNextAt n (max 1 (s.gtEnd n - (s.timer n).count))) ((s.timer n).chg.length + 1) s n

/-- A write of CMP_LO or END_LO is held for the writing initiator; of CMP_HI or END_HI commits the pair (R285). Log entry 16 (DEDUCED). -/
def State.cmpLo (s : State) (ini n w : Nat) : State :=
  let x := s.timer n
  s.setTimer n { x with cmpLo := mset x.cmpLo none ini (some w) }
def State.endLo (s : State) (ini n w : Nat) : State :=
  let x := s.timer n
  s.setTimer n { x with endLo := mset x.endLo none ini (some w) }
def State.cmpHi (s : State) (ini n w : Nat) : State :=
  let s := s.gtNow n
  let x := s.timer n
  let lo := (mget x.cmpLo none ini).getD (s.rd GT_CMP_LO_CMP n)
  s.setTimer n { x with cmpLo := mset x.cmpLo none ini none, chg := x.chg ++ [(crossAt (s.gtSrc n) s.et, .cmp (lo + 2 ^ 32 * w))] }
def State.endHi (s : State) (ini n w : Nat) : State :=
  let s := s.gtNow n
  let x := s.timer n
  let lo := (mget x.endLo none ini).getD (s.rd GT_END_LO_END n)
  s.setTimer n { x with endLo := mset x.endLo none ini none, chg := x.chg ++ [(crossAt (s.gtSrc n) s.et, .fin (lo + 2 ^ 32 * w))] }

/-- An event reaches the capture input (R289): a FAB timer takes it at its delivery edge, another after 2 synchroniser stages. -/
def State.gtCapEvent (s : State) (n : Nat) : State :=
  let x := s.timer n
  let k := if s.gtSrc n = 3 then 0 else s.gtSrc n
  let i := clockEdges k s.et
  let t := if k = 1 then s.et else clockTime k ((if clockTime k i = s.et then i else i + 1) + 2)
  s.setTimer n { x with caps := x.caps ++ [t] }

/-- A capture writes COUNT into CAP (R289, R290). -/
def State.timerCapture (s : State) (n : Nat) : State :=
  match (s.timer n).caps with
  | [] => s
  | t :: rest =>
    let s := ((s.setTimer n { s.timer n with caps := rest }).reach t).gtNow n
    let c := (s.timer n).count
    let past := s.on GT_STAT_PEND n
    let s0 := s
    let s := s.setTimer n { s.timer n with capWas := some (s.et / 64, s.rd GT_CAP_LO_CAP n + 2 ^ 32 * s.rd GT_CAP_HI_CAP n) }
    let s := s.wrs n [(GT_CAP_LO_CAP, c), (GT_CAP_HI_CAP, c / 2 ^ 32), (GT_STAT_PEND, 1)]
    if past then State.edge (n / 16 + 5) s0 ((s.raise GT_STAT_OVR n 1).raise TG_FAULT_FLAGS (n / 16) 1)
    else s

/-- A rising edge on a timer pin, counted, or a pulse shorter than 2 AON cycles (R279). What a master gives its slave at this edge acts at the next
(R291). -/
def State.tpinEdge (s : State) (m : Nat) (short : Bool) : State :=
  let users := (List.range 64).filter (fun n =>
    let x := s.timer n
    ((s.gtPlan n).getD 0 0 = 3 && (s.gtPlan n).getD 3 0 = m) || (s.rd GT_STAT_STATE n = 1 && x.src = 3 && x.tpin = m))
  if short then
    ((List.range 4).filter (fun g => users.any (fun n => n / 16 = g))).foldl (fun s g => s.setFlag (g + 5) TG_FAULT_FLAGS g 1) s
  else
    let s := users.foldl (fun s n => s.gtNow n) s
    let acts := users.map fun n => (n, (s.timer n).onPin)
    let s := users.foldl (fun s n => s.setTimer n { s.timer n with onPin := [] }) s
    let s := { s with pinEdges := mset s.pinEdges 0 m (mget s.pinEdges 0 m + 1) }
    acts.foldl (fun s p =>
      if p.2.contains .zero then (s.gtApply p.1 s.et .zero).gtNow p.1
      else if p.2.contains .clock then ((s.gtGated p.1).gtApply p.1 s.et .clock).gtNow p.1
      else s.gtNow p.1) s

/-! ## 64-bit reads (R292) -/

/-- The synchronised copy of device time (R26): at most 4 ticks behind the counter, and never before an earlier reading. -/
def State.dtRead (s : State) (dom : Nat) : Nat × State :=
  let v := max (mget s.dtSeen 0 dom) (s.tick - s.fresh % 5)
  (v, { s.drawn with dtSeen := mset s.dtSeen 0 dom v })

/-- The domain from which an initiator reads: 0 CORE, 1 HOST. -/
def iniDom (ini : Nat) : Nat := if ini < 16 || (20 ≤ ini && ini < 24) then 0 else 1

/-- Latch an upper half for an initiator, up to the end of the 16th bus cycle after this one (R292); a CORE and a HOST cycle both take 1 ns. A register is numbered 2n COUNT, 2n + 1 CAP, 128 device
time. Log entry 81 (DEDUCED). -/
def State.latch (s : State) (ini reg v : Nat) : State :=
  { s with shadows := mset s.shadows none ini (some (reg, v / 2 ^ 32 % 2 ^ 32, clockTime 2 (clockEdges 2 s.et + 17) - 1)) }

/-- A GTn_COUNT_LO read. -/
def State.countLoRead (s : State) (ini n : Nat) : Nat × State :=
  let s := s.gtNow n
  let c := (s.timer n).count
  (c % 2 ^ 32, s.latch ini (2 * n) c)

/-- A GTn_CAP_LO read (R290): in the FAB cycle of a capture it returns the value before it, and PEND stays set for the new one. Log entry 50
(DEDUCED). -/
def State.capLoRead (s : State) (ini n : Nat) : Nat × State :=
  let c := s.rd GT_CAP_LO_CAP n + 2 ^ 32 * s.rd GT_CAP_HI_CAP n
  match (s.timer n).capWas.filter fun p => p.1 == s.et / 64 with
  | some p => (p.2 % 2 ^ 32, s.latch ini (2 * n + 1) p.2)
  | none => (c % 2 ^ 32, (s.latch ini (2 * n + 1) c).wr GT_STAT_PEND n 0)

/-- A TG0_DTIME_LO read. -/
def State.dtimeLoRead (s : State) (ini : Nat) : Nat × State :=
  let r := s.dtRead (iniDom ini)
  (r.1 % 2 ^ 32, r.2.latch ini 128 r.1)

/-- A HI read: the shadow within its 16 bus cycles, which it releases, else the live upper half (R292). -/
def State.hiRead (s : State) (ini reg : Nat) : Nat × State :=
  let live : Nat × State :=
    if reg = 128 then (let r := s.dtRead (iniDom ini); (r.1 / 2 ^ 32, r.2))
    else if reg % 2 = 0 then (let s := s.gtNow (reg / 2); ((s.timer (reg / 2)).count / 2 ^ 32 % 2 ^ 32, s))
    else (s.rd GT_CAP_HI_CAP (reg / 2), s)
  match mget s.shadows none ini with
  | some (r, v, t) => if r = reg && s.et ≤ t then (v, { s with shadows := mset s.shadows none ini none }) else live
  | none => live

/-- 16 bus cycles after the LO read the shadow is released. -/
def State.shadowExpiry (s : State) (ini : Nat) : State :=
  match mget s.shadows none ini with
  | none => s
  | some (_, _, t) => { s.reach t with shadows := mset s.shadows none ini none }

/-- GTn_STAT.OLDPLAN (R283). -/
def State.gtOldPlan (s : State) (n : Nat) : Bool := s.rd GT_STAT_STATE n == 1 && (s.timer n).cfg != s.gtPlan n

/-- Function reset of TGg, or device reset (R296). -/
def State.tgReset (s : State) (g : Nat) : State :=
  let s := ((List.range 16).map (16 * g + ·)).foldl (fun s n =>
    (s.setTimer n {}).rstFields n [GT_STAT_STATE, GT_STAT_ARMED, GT_STAT_OVR, GT_STAT_PEND, GT_STAT_LATE, GT_STAT_END, GT_STAT_MATCH,
      GT_IEN_OVR_IE, GT_IEN_END_IE, GT_IEN_MATCH_IE, GT_CMP_LO_CMP, GT_CMP_HI_CMP, GT_END_LO_END, GT_END_HI_END, GT_CAP_LO_CAP,
      GT_CAP_HI_CAP]) s
  { s with shadows := s.shadows.filter (fun p => match p.2 with | some (r, _, _) => decide (r / 32 ≠ g) | none => false) }

end Sys2Proof.Machine
end

