-- ==== Sys2Proof/Machine/Warrants.lean ====
section
/-!
DEFINITION. Warrants (spec/15): handles and the table, the checks of an access, root warrants, derivation, revocation, and the
bound sets of the host functions.
-/
namespace Sys2Proof.Machine
open F

def State.core (s : State) (c : Nat) : Core := mget s.cores {} c
def State.setCore (s : State) (c : Nat) (x : Core) : State := { s with cores := mset s.cores {} c x }

/-- The instant of a CORE edge, and the first CORE edge at or after an instant. -/
def cycTime (k : Nat) : Nat := (256 * k + 4) / 5
def cycAt (t : Nat) : Nat := (5 * t + 251) / 256

/-- Pair CPp runs in lockstep (R369); the core number that stands for a core: the lead of a lockstep pair (R245). -/
def State.lockstep (s : State) (c : Nat) : Bool := !bit (s.rd SYS_CFG_SPLIT 0) (c / 2)

/-- A core that exists for software: not the shadow of a lockstep pair. -/
def State.coreOk (s : State) (c : Nat) : Bool := decide (c < 16) && !(c % 2 == 1 && s.lockstep c)

/-! ## Handles and entries -/

def State.went (s : State) (i : Nat) : WEntry := mget s.wtab {} i
def State.setWent (s : State) (i : Nat) (x : WEntry) : State := { s with wtab := mset s.wtab {} i x }

/-- An entry is allocated; one whose codeword holds an uncorrectable error is treated as not allocated (Table 22.2). -/
def State.walloc (s : State) (i : Nat) : Bool := (s.went i).alloc && decide ((8, 0, i) ∉ s.badCw)

/-- The generation of an entry; at 0xF_FFFF it is retired (R349). -/
def State.wgenOf (s : State) (i : Nat) : Nat := min 0xFFFFF (s.wgen + (s.went i).gen)
def State.retired (s : State) (i : Nat) : Bool := s.wgenOf i == 0xFFFFF && !(s.went i).alloc

/-- CHECK of a handle's low word (R348). -/
def State.wcheck (s : State) (lo : Nat) : Nat := Config.handleCheck s.wkey (lo % 2 ^ 32) % 2 ^ 32

/-- The handle of an entry now. -/
def State.handleOf (s : State) (i : Nat) : Nat :=
  let lo := s.wgenOf i * 2 ^ 12 + i
  s.wcheck lo * 2 ^ 32 + lo

/-- Why a handle is not valid: 6 its check or index, 7 its entry (Table 15.3); 0 for a valid one (R348). -/
def State.handleBad (s : State) (h : Nat) : Nat :=
  let i := h % 2 ^ 12
  if i = 0 || h / 2 ^ 32 % 2 ^ 32 ≠ s.wcheck (h % 2 ^ 32) then 6
  else if !s.walloc i || h / 2 ^ 12 % 2 ^ 20 ≠ s.wgenOf i then 7 else 0

/-- The warrant register that a valid handle fills (R351). -/
def State.wregOf (s : State) (h : Nat) : WReg :=
  let x := s.went (h % 2 ^ 12)
  { handle := h, kind := x.kind, rights := x.rights, base := x.base, limit := x.limit, parent := x.parent }

/-- A register or slot with a handle: its copy when the handle is valid, else null. -/
def State.wregFor (s : State) (h : Nat) : WReg := if s.handleBad h = 0 then s.wregOf h else {}

/-! ## Checks -/

/-- The check of an access against one warrant register (R352, R353, Table 15.3): 0, or the first condition that fails. The mask
names the rights any of which suffices; an access covers a span of identifiers. -/
def WReg.check (w : WReg) (kind mask : Nat) (ids : List (Nat × Nat)) : Nat :=
  if w.handle = 0 then 1
  else if w.stale then 2
  else if w.kind ≠ kind then 3
  else if w.rights &&& mask = 0 then 4
  else if ids.all (fun p => decide (w.base ≤ p.1) && decide (p.2 ≤ w.limit)) then 0 else 5

/-- Record a refused guarded access (R353, by the rules of R30). -/
def State.wrtRefuse (s : State) (ini addr cause kind rights : Nat) : State :=
  s.logErr 2 WRT_REFUSE_INFO_VALID WRT_REFUSE_INFO_COUNT [WRT_REFUSE_INFO_CAUSE, WRT_REFUSE_INFO_KIND, WRT_REFUSE_INFO_RIGHTS, WRT_REFUSE_INFO_INIT,
    WRT_REFUSE_ADDR_ADDR] ini [cause, kind, rights, ini, addr]

/-- A slot of a function's bound set: its warrant (R366). -/
def State.boundReg (s : State) (f slot : Nat) : WReg := s.wregFor (mget (s.fn f).bound 0 slot)

/-- The check of a host access against a bound set (R355): 0 when some slot grants it, else the cause that comes latest. -/
def State.boundCheck (s : State) (f kind mask : Nat) (ids : List (Nat × Nat)) : Nat :=
  let cs := (List.range 8).map fun i => (s.boundReg f i).check kind mask ids
  if cs.contains 0 then 0 else cs.foldl max 1

/-! ## Derivation and revocation -/

/-- The free entries: until the first full commit has freed every entry (R356), none counts as free. Log entry 91 (DEDUCED). -/
def State.wfrees (s : State) : List Nat :=
  if s.wgen = 0 then [] else ((List.range 4095).map (· + 1)).filter fun i => !(s.went i).alloc && !s.retired i

/-- The lowest free entry (R360). -/
def State.wfree (s : State) : Option Nat := s.wfrees.head?

/-- An entry descends from another, or is it (R362). -/
def State.descends (s : State) : Nat → Nat → Nat → Bool
  | 0, i, a => decide (i = a)
  | fuel + 1, i, a => decide (i = a) || ((s.went i).parent != 0 && s.descends fuel (s.went i).parent a)

/-- The allocated entries of a subtree. -/
def State.subtree (s : State) (a : Nat) : List Nat :=
  ((s.wtab.filter (fun p => p.2.alloc && s.descends s.wtab.length p.1 a)).map (·.1)).dedup

/-- Free an entry and advance its generation (R349, R362). -/
def State.wfreeEntry (s : State) (i : Nat) : State :=
  { (s.setWent i { gen := (s.went i).gen + 1 }) with badCw := s.badCw.filter fun c => decide (c ≠ (8, 0, i)) }

/-- Mark stale every warrant register that holds a handle of an entry, on every core (R362). -/
def State.markStale (s : State) (is : List Nat) : State :=
  let mark (w : WReg) : WReg := if w.handle % 2 ^ 12 ∈ is && s.handleBad w.handle = 0 then { w with stale := true } else w
  { s with cores := s.cores.map fun p => (p.1, { p.2 with arch := { p.2.arch with wr := p.2.arch.wr.map fun q => (q.1, mark q.2) } }) }

/-- Revoke a subtree (R362): stale marks, bound sets, then the entries. -/
def State.revoke (s : State) (is : List Nat) : State :=
  let s := s.markStale is
  let s := { s with fns := s.fns.map fun p => (p.1, { p.2 with bound := p.2.bound.filter fun q => decide (q.2 % 2 ^ 12 ∉ is) }) }
  is.foldl (fun s i => s.wfreeEntry i) s

/-! ## Root warrants (R356 to R358) -/

/-- The roots of section 0x0B as their holder takes them: index, kind, rights, base, limit, holder word. -/
structure RootRec where
  index : Nat
  kind : Nat
  rights : Nat
  base : Nat
  limit : Nat
  holder : Nat
  deriving DecidableEq, Repr

/-- The full commit's work on the table (R356): every entry is freed and its generation advanced, roots are allocated and handed
out; a retired one leaves its holder null and sets ROOTRET. Log entry 79 (DEDUCED). -/
def State.loadRoots (s : State) (rs : List RootRec) : State :=
  let freed (p : Nat × WEntry) : Nat × WEntry := (p.1, { gen := p.2.gen })
  let unbound (p : Nat × PcieFn) : Nat × PcieFn := (p.1, { p.2 with bound := [] })
  let unrooted (p : Nat × Core) : Nat × Core := (p.1, { p.2 with roots := [], entryw := 0 })
  let s := { s with wtab := (s.wtab.map freed).filter (fun p => decide (p.2 ≠ ({} : WEntry))), wgen := s.wgen + 1,
                    badCw := s.badCw.filter (fun c => decide (c.1 ≠ 8)), fns := s.fns.map unbound, cores := s.cores.map unrooted }
  let s := s.wr WRT_STAT_ROOTRET 0 0
  (rs.foldl (fun (q : State × List Nat) r =>
    let s := q.1
    let ret := s.retired r.index
    let e : WEntry := { (s.went r.index) with alloc := true, kind := r.kind, rights := r.rights, base := r.base, limit := r.limit,
                                              parent := 0, root := true, entryw := decide (r.holder % 256 = 2) }
    let s := if ret then s.wr WRT_STAT_ROOTRET 0 1 else s.setWent r.index e
    let h := if ret then 0 else s.handleOf r.index
    let who := r.holder / 256 % 256
    match r.holder % 256 with
    | 1 => (s.setCore who { s.core who with roots := mset (s.core who).roots 0 (r.holder / 2 ^ 16 % 8) h }, q.2)
    | 2 => (s.setCore who { s.core who with entryw := h }, q.2)
    | _ => (s.setFn who { s.fn who with bound := mset (s.fn who).bound 0 (q.2.count who) h }, q.2 ++ [who])) (s, [])).1

/-! ## Binding (R366) -/

/-- A write of WRT_BIND_LO is held for the writer. -/
def State.wrtBindLo (s : State) (ini : Initiator) (w : Nat) : State :=
  { s with bindLo := mset s.bindLo none (initNum ini) (some w) }

/-- A write of WRT_BIND_HI commits a valid handle to the writer's selected slot, or sets the writer's ERR. -/
def State.wrtBindHi (s : State) (ini : Initiator) (w : Nat) : State :=
  let k := initNum ini
  let f := s.rd WRT_BINDSEL_FN k
  let slot := s.rd WRT_BINDSEL_SLOT k
  let x := s.fn f
  let lo := (mget s.bindLo none k).getD (mget x.bound 0 slot % 2 ^ 32)
  let h := w * 2 ^ 32 + lo
  let s := { s with bindLo := mset s.bindLo none k none }
  if s.handleBad h = 0 then s.setFn f { x with bound := mset x.bound 0 slot h } else s.raise WRT_BINDSTAT_ERR k 1

end Sys2Proof.Machine
end

