-- ==== Sys2Proof/Machine/CoreBase.lean ====
section
/-!
DEFINITION. Cores and pairs apart from their instructions: status and DET, entry (R337, R338), start (R373), the undo journal and the
side-effect log (R375 to R377), mismatch and replay (R378 to R381), the comparator test (R371, R372), pair reset (R480).
-/
namespace Sys2Proof.Machine
open F

def State.tcmOf (s : State) (c : Nat) : Mem := mget s.tcm [] c
def State.setTcm (s : State) (c : Nat) (m : Mem) : State := { s with tcm := mset s.tcm [] c m }

/-- Raise core or pair fault 0xB1 + b of core c, or of the pair it leads (R347, R384). -/
def State.coreFault (s : State) (c b : Nat) : State := s.setFlag 4 CP_FAULT_FLAGS c b

/-- Change the architectural part of a core. -/
def State.modArch (s : State) (c : Nat) (f : CArch → CArch) : State := s.setCore c { s.core c with arch := f (s.core c).arch }

/-- A general register: 32 bits, and gr0 reads 0 (R300). -/
def CArch.reg (x : CArch) (i : Nat) : Nat := if i = 0 then 0 else mget x.gr 0 i % 2 ^ 32

/-- Write a general register; gr0 discards it (R300). -/
def CArch.setReg (x : CArch) (i v : Nat) : CArch := if i = 0 then x else { x with gr := mset x.gr 0 i (v % 2 ^ 32) }

def CArch.wreg (x : CArch) (i : Nat) : WReg := mget x.wr {} i

/-- STATUS.DET as it stands after a write of a warrant register or of DETF (R351). -/
def CArch.detNow (x : CArch) : CArch :=
  { x with det := x.detf || x.wr.any (fun p => p.2.handle != 0 && bit p.2.rights 6) }

def CArch.setWreg (x : CArch) (i : Nat) (w : WReg) : CArch := ({ x with wr := mset x.wr {} i w }).detNow

/-- STATUS (Table 13.6). -/
def CArch.status (x : CArch) : Nat :=
  let b (v : Bool) (n : Nat) : Nat := if v then n else 0
  b x.inh 32 + b x.pf 16 + b (x.ijbar || x.det) 8 + b x.ijbar 4 + b x.detf 2 + b x.det 1

/-! ## Fetch and loop buffers (R321, R325, R326) -/

/-- n bytes that issue from an address: those of the fetch buffer where it was filled before TCM was written, else those of TCM. -/
def Core.code (k : Core) (m : Mem) (a n : Nat) : List (BitVec 8) :=
  (List.range n).map fun i => ((k.stale.find? fun (p : Nat × BitVec 8) => p.1 == a + i).map fun (p : Nat × BitVec 8) => p.2).getD (m.rd (a + i))

/-- The instruction at an address as the loop buffer holds it, from the second iteration on (R325). -/
def Core.looped (k : Core) (a : Nat) : Option (List (BitVec 8)) :=
  if k.lphase = 2 && k.arch.lcount ≠ 0 then (k.lbuf.find? fun (p : Nat × List (BitVec 8)) => p.1 == a).map fun (p : Nat × List (BitVec 8)) => p.2 else none

/-- n bytes that issue from an address. -/
def State.codeAt (s : State) (c a n : Nat) : List (BitVec 8) :=
  match (s.core c).looped a with
  | some l => l ++ List.replicate (n - l.length) 0
  | none => (s.core c).code (s.tcmOf c) a n

/-- A core with an empty loop buffer, and with both buffers empty. -/
def Core.noLoop (k : Core) : Core := { k with lphase := 0, lbuf := [] }
def Core.noFetch (k : Core) : Core := { k.noLoop with stale := [] }

/-- The loop buffer after the instruction at pc, of bytes l, has completed and execution goes on at pc' (R325): a body of at most 32 instructions is
recorded in its first iteration, and a transfer out of the body or the end of the loop empties it. ends: the loop end was applied; left: LCOUNT
before. Log entry 52 (DESIGN CHOICE). -/
def Core.loopStep (k : Core) (pc pc' : Nat) (l : List (BitVec 8)) (transfer ends : Bool) (left : Nat) : Core :=
  let inside (a : Nat) : Bool := decide (k.arch.lstart ≤ a) && decide (a ≤ k.arch.lend)
  if k.lphase = 0 then k
  else if (transfer && !inside pc') || (ends && left ≤ 1) then k.noLoop
  else
    let k := if k.lphase = 1 && inside pc && !k.lbuf.any (fun p => p.1 == pc) then { k with lbuf := k.lbuf ++ [(pc, l)] } else k
    if 32 < k.lbuf.length then k.noLoop else if ends then { k with lphase := 2 } else k

/-- A write of n bytes from an offset of a core's TCM leaves the bytes that its fetch buffer holds as they were fetched (R326). How many of the up to
32 bytes ahead it holds is a fresh value. Log entry 52 (DESIGN CHOICE). -/
def State.codeWritten (s : State) (c off n : Nat) : State :=
  let k := s.core c
  let a := k.arch.pc
  if k.st = 0 || n = 0 || off + n ≤ a || a + k.ilen + 32 ≤ off then s
  else
    let held := (List.range n).filter fun i =>
      decide (a ≤ off + i) && decide (off + i < a + k.ilen + s.fresh % 33) && !k.stale.any (fun p => p.1 == off + i)
    (s.setCore c { k with stale := k.stale ++ held.map fun i => (off + i, (s.tcmOf c).rd (off + i)) }).drawn

/-! ## Instruction trace (R518, R519) -/

/-- The bytes of a trace record (Table 23.3). -/
def State.traceBytes (s : State) (c pc typ info : Nat) : List (BitVec 8) :=
  leBytes 8 s.tick ++ leBytes 4 pc ++ [BitVec.ofNat 8 typ, BitVec.ofNat 8 c] ++ leBytes 2 info

/-- A trace block of the records staged (R519): KIND 6, STREAM 0xFFFF. -/
def State.traceBlock (s : State) : State :=
  let t := s.tracer
  if t.pay.isEmpty then s
  else
    let b : CapBlock := { kind := 6, stream := 0xFFFF, seat := s.rd SYS_CFG_SEAT 0, seq := t.seq, bytes := t.pay, dtime := t.first.getD 0,
                          dropped := t.lost, gap := t.lost != 0, replayed := false }
    { s with tracer := { t with pay := [], first := none, seq := t.seq + 1, full := t.full ++ [b], lost := 0 } }

/-- Records are lost: DBG_TDROP counts them, and the next block shows the gap (R518, R519). -/
def State.traceLose (s : State) (n : Nat) : State :=
  ({ s with tracer := { s.tracer with lost := min (s.tracer.lost + n) (2 ^ 32 - 1) } }).addTo DBG_TDROP_VALUE 0 n

/-- A record goes to the ring in shared SRAM, or into a block of 254 for the capture ring; with capture off it is dropped (R519). -/
def State.traceOut (s : State) (l : List (BitVec 8)) : State :=
  if s.on DBG_TCTL_DEST 0 then
    if !s.on CAP_CTL_EN 0 then s.traceLose 1
    else
      let t := s.tracer
      let s := { s with tracer := { t with pay := t.pay ++ l, first := some (t.first.getD s.tick), at_ := if t.pay.isEmpty then s.et else t.at_ } }
      if 254 * 16 ≤ s.tracer.pay.length then s.traceBlock else s
  else
    let size := s.rd DBG_TSIZE_VALUE 0
    if size = 0 then s.traceLose 1
    else
      let a := (s.rd DBG_TBASE_VALUE 0 + s.rd DBG_TWR_VALUE 0 % size) % 2 ^ 25
      (({ s with sram := s.sram.wrL a l }).bankCount a l.length).addTo DBG_TWR_VALUE 0 16

/-- A record enters the buffer of core c, which it leaves at a free instant after those before it, or is dropped where 32 stand there (R518). Log entry
60 (DEDUCED). -/
def State.traceRec (s : State) (c pc typ info : Nat) : State :=
  let t := s.tracer
  let q := (mget t.bufs [] c).filter fun x => decide (s.et < x)
  if 32 ≤ q.length then ({ s with tracer := { t with over_ := mset t.over_ 0 c (mget t.over_ 0 c + 1) } }).traceLose 1
  else (({ s with tracer := { t with bufs := mset t.bufs [] c (q ++ [max s.et (q.getLastD 0) + s.fresh]) } }).drawn).traceOut (s.traceBytes c pc typ info)

/-- A record of core c while its trace is on (R518): after a record of those dropped, once space has returned, and after a sync record where 256
have gone by. Log entry 60 (DEDUCED). -/
def State.trace (s : State) (c pc typ info : Nat) : State :=
  if !bit (s.rd DBG_TCTL_EN 0) c then s
  else
    let put (s : State) (k : Nat) : State := { s with tracer := { s.tracer with since := mset s.tracer.since 0 c k } }
    let n := mget s.tracer.over_ 0 c
    let room := ((mget s.tracer.bufs [] c).filter fun x => decide (s.et < x)).length < 32
    let s := if n ≠ 0 && room then ({ s with tracer := { s.tracer with over_ := mset s.tracer.over_ 0 c 0 } }).traceRec c pc 6 n else s
    let s := if typ ≠ 1 && 256 ≤ mget s.tracer.since 0 c then put (s.traceRec c pc 1 0) 0 else s
    put (s.traceRec c pc typ info) (if typ = 1 then 0 else mget s.tracer.since 0 c + 1)

/-- An exception that an instruction raises: code, KIND, EINFO, and the FETCH, STORE, LOOPEND and WR fields of ECAUSE. -/
structure Exc where
  code : Nat
  kind : Nat := 0
  info : Nat := 0
  fetch : Bool := false
  store : Bool := false
  wr : Nat := 0
  deriving DecidableEq, Repr

/-- ECAUSE of an exception (Table 14.5). -/
def Exc.cause (x : Exc) (loopend slot : Bool) : Nat :=
  let b (v : Bool) (n : Nat) : Nat := if v then 2 ^ n else 0
  x.kind * 2 ^ 16 + b x.fetch 15 + b x.store 14 + b loopend 13 + b slot 12 + x.wr * 2 ^ 8 + x.code

/-- Entry (R337): the frame is pushed, INH set, LCOUNT and both buffers cleared, wr7 loaded with the entry warrant, the HOLD window closed, and the
core continues at EVEC after 6 cycles. With 4 frames held the core stops with CORE_FRAMEFULL (R338). -/
def State.coreEntry (s : State) (c : Nat) (x : Exc) (pc : Nat) (loopend : Bool) (pend : Option PLoad) : State :=
  let k := s.core c
  if 4 ≤ k.arch.frames.length then
    (s.setCore c { k with st := 3, full := true, pload := none, wait := .none }).coreFault c 1
  else
    let a := k.arch
    let cause := x.cause loopend pend.isSome
    let f : Frame := { pc := pc, status := a.status, ecause := cause, einfo := x.info, lstart := a.lstart, lend := a.lend,
                       lcount := a.lcount, pend := pend, wr := a.wr }
    let a := ({ a with frames := f :: a.frames, inh := true, lcount := 0, hold := 0, holdNew := false, pc := s.rd CP_EVEC_EVEC c } : CArch)
    let a := a.setWreg 7 (s.wregFor k.entryw)
    let s := s.setCore c { k with arch := a, pload := none, wait := .none, ecause := cause, einfo := x.info, epc := pc, estatus := f.status,
                                  free := k.free + 6, fresh := true, skipBp := false, lphase := 0, lbuf := [], ilen := 0, stale := [] }
    s.trace c pc 3 x.code

/-- An exception raised by the instruction at pc, whose saved PC is given; the pending load of its slot goes into the frame
(R343), and a fault at LEND leaves the loop end unapplied (R345). -/
def State.coreRaise (s : State) (c : Nat) (x : Exc) (saved : Nat) : State :=
  let k := s.core c
  let a := k.arch
  let le := a.pc == a.lend && a.lcount != 0 && x.code != 5 && x.code != 6
  s.coreEntry c x saved le k.pload

/-! ## Starting and stopping -/

/-- Warrant registers under R358: the roots that name them, else null. -/
def State.rootRegs (s : State) (c : Nat) : List (Nat × WReg) :=
  (s.core c).roots.map fun p => (p.1, s.wregFor p.2)

/-- The start state of a core (R373, R375), at the pc given. -/
def State.startArch (s : State) (c pc : Nat) : CArch :=
  ({ pc := pc, wr := (s.rootRegs c).filter (fun p => decide (p.2 ≠ ({} : WReg))) } : CArch).detNow

/-- n bytes of the NVM from an offset, without listing zeros: the window of the array shifted to address 0. -/
def Mem.window (m : Mem) (off n : Nat) : Mem :=
  (m.filter (fun p => decide (off ≤ p.1) && decide (p.1 < off + n))).map (fun p => (p.1 - off, p.2))

/-- TCM loaded from the core's section 0x11 record: the image, and zero beyond it (R373). -/
def State.loadTcm (s : State) (c : Nat) : State :=
  match (s.core c).task with
  | none => s
  | some (_, _, off, len) =>
    let s := s.setTcm c (s.nvm.window off len)
    s.eccClean 0 c 0 (2 ^ 18)

/-- Step 6 of R52 for one core (R373): it starts with an implicit checkpoint. A core without a record, or of a pair that failed its
comparator test, stays in reset. -/
def State.startCore (s : State) (c : Nat) : State :=
  match (s.core c).task with
  | none => s
  | some (pc, _, _, _) =>
    if s.on CP_STAT_CMPFAIL (c / 2 * 2) && s.lockstep c then s
    else
      let a := s.startArch c pc
      let n := cycAt s.et
      let k := s.core c
      let s := s.setCore c { st := 1, arch := a, free := n, cyc0 := n, ckpt := if s.lockstep c then some a else none, roots := k.roots, entryw := k.entryw, task := k.task, wlo := k.wlo }
      (s.wr CP_TASKENTRY_PC c pc).wrs c [(CP_STAT_JVOID, 0), (CP_STAT_LOGOVF, 0), (CP_MMINFO_SINCE, 0)]

/-- A core goes into reset: frames, waits, event counts, table and history are gone (R256, R329). -/
def State.stopCore (s : State) (c : Nat) : State :=
  let k := s.core c
  s.setCore c { st := 0, roots := k.roots, entryw := k.entryw, task := k.task }

/-! ## Checkpoint, journal and log -/

/-- CKPT in lockstep (R375). -/
def State.checkpoint (s : State) (c : Nat) : State :=
  let k := s.core c
  (s.setCore c { k with ckpt := some k.arch, jrnl := [], slog := [] }).wrs c [(CP_STAT_JVOID, 0), (CP_STAT_LOGOVF, 0), (CP_MMINFO_SINCE, 0)]

/-- A store of n bytes is journaled before it is made (R376); addr is a TCM address or an offset in shared SRAM. -/
def State.journal (s : State) (c : Nat) (sram : Bool) (addr n : Nat) : State :=
  if !s.lockstep c then s
  else
    let k := s.core c
    if 512 ≤ k.jrnl.length then (s.wr CP_STAT_JVOID c 1).coreFault c 3
    else
      let old := if sram then s.sram.rdL addr n else (s.tcmOf c).rdL addr n
      s.setCore c { k with jrnl := ⟨sram, addr, old⟩ :: k.jrnl }

/-- A released effect enters the side-effect log: KIND, DETAIL, ADDR, DATA (R377). -/
def State.slogAdd (s : State) (c kind detail addr data : Nat) : State :=
  if !s.lockstep c then s
  else
    let k := s.core c
    if 64 ≤ k.slog.length then (s.wr CP_STAT_LOGOVF c 1).coreFault c 4
    else s.setCore c { k with slog := k.slog ++ [[kind, detail, addr, data]] }

/-! ## Mismatch and replay -/

/-- Restored warrant registers are revalidated (R364): null stays null; stale or invalid ones become null and set their bit of
WSTALE. -/
def State.revalidate (s : State) (a : CArch) : CArch :=
  let bad := a.wr.filter (fun p => p.2.handle != 0 && (p.2.stale || s.handleBad p.2.handle != 0))
  let stale := bad.foldl (fun m p => setBit m p.1 true) a.wstale
  ({ a with wr := a.wr.filter (fun p => !(p.2.stale || s.handleBad p.2.handle != 0)), wstale := stale } : CArch).detNow

/-- A failed comparison of a lockstep pair in a signal group (R378 to R381). -/
def State.mismatch (s : State) (p g : Nat) : State :=
  let c := 2 * p
  let k := s.core c
  if !s.lockstep c || k.st ≠ 1 then s
  else
    let n := s.rd CP_MMINFO_SINCE c + 1
    let s := s.wrs c [(CP_MMINFO_TOTAL, satInc (s.rd CP_MMINFO_TOTAL c) 255), (CP_MMINFO_SINCE, n), (CP_MMINFO_GROUP, g), (CP_MMPC_VALUE, k.arch.pc)]
    let s := s.coreFault c 2
    if 3 ≤ n then (s.setCore c { k with st := 3, wait := .none, pload := none }).coreFault c 6
    else
      let void := s.on CP_STAT_JVOID c
      let undo := if void then [] else k.jrnl
      let s := undo.foldl (fun s e => if e.sram then ({ s with sram := s.sram.wrL e.addr e.old } : State).bankCount e.addr e.old.length else s.setTcm c ((s.tcmOf c).wrL e.addr e.old)) s
      let cost := 24 + (undo.map (fun e => if e.sram then 34 else 2)).sum
      let task := s.rd CP_TASKENTRY_PC c
      let a := if void then s.startArch c task else s.revalidate (k.ckpt.getD {})
      let info := k.slog.length + (if s.on CP_STAT_LOGOVF c then 128 else 0)
      let e := max k.free (cycAt s.et) + cost
      let s := s.setCore c { k with arch := a, pload := none, wait := .none, jrnl := [], free := e, recov := e, ready := [] }
      let s := s.wr CP_STAT_REPLAYS c (satInc (s.rd CP_STAT_REPLAYS c) 255)
      s.coreEntry c { code := if void then 9 else 8, info := info } a.pc false none

/-! ## Comparator test and resets -/

/-- The comparator test of a pair has ended (R371, R372), with the groups that detected both injections. -/
def State.cmpResult (s : State) (p pass : Nat) : State :=
  let c := 2 * p
  let s := s.wrs c [(CP_CMPRES_DONE, 1), (CP_CMPRES_RUN, 0), (CP_CMPRES_PASS, pass)]
  if pass % 4096 = 4095 then s.wr CP_STAT_CMPFAIL c 0
  else if s.lockstep c then (s.wr CP_STAT_CMPFAIL c 1).coreFault c 5
  else s

/-- CMPTEST (R372): taken only while the committed pricking has no record for the pair. -/
def State.cmpTest (s : State) (p : Nat) : State :=
  let c := 2 * p
  if (s.core c).task.isSome || (s.core (c + 1)).task.isSome then s.raise CP_CMPRES_BUSY c 1
  else ((s.setCore c { s.core c with cmpDue := some (s.within 128000) }).drawn).wr CP_CMPRES_RUN c 1

/-- The repeated comparator test ends (R372). -/
def State.cmpTestDone (s : State) (p pass : Nat) : State :=
  s.due (s.core (2 * p)).cmpDue fun s => (s.setCore (2 * p) { s.core (2 * p) with cmpDue := none }).cmpResult p pass

/-- A pair reset, or the function reset of a split core (R479, R480): TCM is reloaded and the core starts again from its record. -/
def State.coreReset (s : State) (c : Nat) : State :=
  let s := s.stopCore c
  let s := s.wrs c [(CP_STAT_JVOID, 0), (CP_STAT_LOGOVF, 0)]
  let s := if s.lockstep c then s.wr CP_STAT_REPLAYS c 0 else s
  s.loadTcm c

end Sys2Proof.Machine
end

