-- ==== Sys2Proof/Machine/RegMap.lean ====
section
/-!
DEFINITION. Where each register lies (spec/01, Table 1.7, R29; spec/16, R385; spec/17, R411; spec/23, R520): from an address to the
block instance, the repetition and the fields, and back for the checks of settings records (R43).
-/
namespace Sys2Proof.Machine
open F

/-- The register blocks of Table 1.7, with the DMA channels, the capture streams and the debug registers of cores on their own. -/
inductive Blk where
  | sys | prk | plw | frst | pwr | nvm | dbg | dbgc | pin | spr | gnd | wrt | ec | picot | gt | tg | mod | mods | tile | mc | le | les
  | leg | cp | dma | dmac | cap | caps | cappt | pcie | b
  deriving DecidableEq, Repr

/-- A register: its block, the instance of the block, the repetition inside it, and its row of the register map. -/
structure Reg where
  blk  : Blk
  inst : Nat
  idx  : Nat
  row  : RegRow
  deriving DecidableEq, Repr

/-- The instance number of the register's fields in the store. -/
def Reg.key (r : Reg) : Nat := r.inst * r.row.n + r.idx

/-- A block at its base: instances, stride, bytes of one instance, and its rows. -/
structure BlkAt where
  blk  : Blk
  base : Nat
  n    : Nat
  st   : Nat
  size : Nat
  rows : List RegRow

/-- Table 1.7, offsets from 0x4000_0000. -/
def blkMap : List BlkAt :=
  [⟨.sys, 0x0000, 1, 0x1000, 0x1000, regsSYS⟩, ⟨.prk, 0x1000, 1, 0x1000, 0x1000, regsPRK⟩, ⟨.plw, 0x2000, 1, 0x1000, 0x1000, regsPLW⟩,
   ⟨.frst, 0x3000, 1, 0x1000, 0x1000, regsFRST⟩, ⟨.pwr, 0x4000, 1, 0x1000, 0x1000, regsPWR⟩, ⟨.nvm, 0x5000, 1, 0x1000, 0x1000, regsNVM⟩,
   ⟨.dbg, 0x6000, 1, 0x100, 0x100, regsDBG⟩, ⟨.dbgc, 0x6100, 16, 0x20, 0x20, regsDBGC⟩, ⟨.pin, 0x7000, 1, 0x1000, 0x1000, regsPIN⟩,
   ⟨.spr, 0x8000, 1, 0x1000, 0x1000, regsSPR⟩, ⟨.gnd, 0x9000, 1, 0x1000, 0x1000, regsGND⟩, ⟨.wrt, 0xA000, 1, 0x1000, 0x1000, regsWRT⟩,
   ⟨.ec, 0x10000, 1024, 0x10, 0x10, regsEC⟩, ⟨.picot, 0x14000, 256, 0x10, 0x10, regsPICOT⟩, ⟨.gt, 0x20000, 64, 0x40, 0x40, regsGT⟩,
   ⟨.tg, 0x21000, 4, 0x40, 0x40, regsTG⟩, ⟨.mod, 0x100000, 64, 0x100, 0x100, regsMOD⟩, ⟨.mods, 0x104000, 8, 0x100, 0x100, regsMODS⟩,
   ⟨.tile, 0x110000, 8, 0x100, 0x100, regsTILE⟩, ⟨.mc, 0x120000, 16, 0x100, 0x100, regsMC⟩, ⟨.le, 0x200000, 48, 0x1000, 0x1000, regsLE⟩,
   ⟨.les, 0x230000, 8, 0x1000, 0x1000, regsLES⟩, ⟨.leg, 0x300000, 48, 0x100, 0x100, regsL⟩, ⟨.dma, 0x500000, 4, 0x1000, 0x100, regsDMA⟩,
   ⟨.cap, 0x510000, 1, 0x400, 0x400, regsCAP⟩, ⟨.caps, 0x510400, 256, 0x40, 0x40, regsCAPS⟩, ⟨.cappt, 0x600000, 1, 0x80000, 0x80000, regsCAPPT⟩,
   ⟨.pcie, 0x700000, 1, 0x1000, 0x1000, regsPCIE⟩, ⟨.b, 0x710000, 2, 0x1000, 0x1000, regsB⟩]

/-- The row and repetition at an offset of a block. -/
def rowAt (rows : List RegRow) (o : Nat) : Option (RegRow × Nat) :=
  (rows.find? (fun r => decide (r.off ≤ o) && (if r.n ≤ 1 then decide (o = r.off)
    else (o - r.off) % r.st == 0 && decide ((o - r.off) / r.st < r.n)))).map
    (fun r => (r, if r.n ≤ 1 then 0 else (o - r.off) / r.st))

/-- The registers that core C(2p+1) has on its own in split mode (R385). -/
def cpShadowOffs : List Nat := [0x000, 0x004, 0x008, 0x00C, 0x010, 0x014, 0x02C, 0x030]

/-- The register at an address of register space, if there is one (R29, R30). The split settings decide about CP blocks (R385). -/
def regAt (split addr : Nat) : Option Reg :=
  let o := addr - 0x40000000
  if addr % 4 ≠ 0 || addr < 0x40000000 then none
  else if 0x400000 ≤ o && o < 0x408000 then
    let p := (o - 0x400000) / 0x1000
    let q := o % 0x1000
    if q < 0x800 then (rowAt regsCP q).map fun r => ⟨.cp, 2 * p, r.2, r.1⟩
    else if bit split p && (q - 0x800) ∈ cpShadowOffs then (rowAt regsCP (q - 0x800)).map fun r => ⟨.cp, 2 * p + 1, r.2, r.1⟩
    else none
  else if 0x500000 ≤ o && o < 0x504000 && 0x100 ≤ o % 0x1000 then
    let e := (o - 0x500000) / 0x1000
    let q := o % 0x1000 - 0x100
    if q / 0x80 < 8 then (rowAt regsDMAC (q % 0x80)).map fun r => ⟨.dmac, 8 * e + q / 0x80, r.2, r.1⟩ else none
  else
    match blkMap.find? (fun b => decide (b.base ≤ o) && decide (o < b.base + b.n * b.st)) with
    | none => none
    | some b =>
      let i := (o - b.base) / b.st
      let q := (o - b.base) % b.st
      if b.size ≤ q || (b.blk = .tg && 0 < i && 0x10 ≤ q) then none
      else (rowAt b.rows q).map fun r => ⟨b.blk, i, r.2, r.1⟩

/-- A run-time register: one with no WL field (R43). -/
def runTime (split addr : Nat) : Bool :=
  match regAt split addr with
  | some r => r.row.fs.all (fun f => f.acc != .wl)
  | none => false

/-- The registers held separately for each initiator: the mailbox data, Pillow's and the warrant table's selects, the loop page, the
intent select, and the error bit of a binding. Their copies stand at instance 32 * (instance) + (initiator number). -/
def perIni (f : Field) : Bool :=
  f ∈ [LE_MBOX_DATA_VALUE, PLW_JSEL_JOB, PLW_ESEL_ENGINE, PLW_TSEL_ID, PLW_CSEL_STREAM, PLW_RSEL_SAMPLE, GND_LOOPSEL_PAGE, WRT_ESEL_INDEX,
    WRT_BINDSEL_SLOT, WRT_BINDSEL_FN, WRT_BINDSTAT_ERR, PCIE_ISEL_VF]

/-- The store instance of a field for an initiator. -/
def fieldInst (f : Field) (key ini : Nat) : Nat := if perIni f then 32 * key + ini else key

end Sys2Proof.Machine
end

