-- ==== Sys2Proof/Machine/Image.lean ====
section
/-!
DEFINITION. The pricking container (spec/02, R35 to R42): bytes of a slot, the section walk with the places R534 names, and steps 2 to 8
of validation.
-/
namespace Sys2Proof.Machine
open F

/-- A rejection (R48): code, section type, record index, image offset. -/
structure Rej where
  code : Nat
  sect : Nat := 0
  ri   : Nat := 0
  ofs  : Nat := 0
  deriving DecidableEq, Repr

/-- n bytes from an address of a memory, unlisted ones 0; the memory's bytes below the address are gone. -/
def Mem.dense : Nat → Mem → Nat → List (BitVec 8)
  | 0, _, _ => []
  | n + 1, [], a => 0 :: Mem.dense n [] (a + 1)
  | n + 1, (k, v) :: t, a => if k = a then v :: Mem.dense n t (a + 1) else 0 :: Mem.dense n ((k, v) :: t) (a + 1)

/-- n bytes of the NVM from an offset. -/
def State.nvmBytes (s : State) (off n : Nat) : List (BitVec 8) := Mem.dense n (s.nvm.window off n) 0

/-- Where slot n starts in the NVM (Table 22.1). -/
def slotBase (n : Nat) : Nat := n * 0x800000

/-- A little-endian field of n bytes at an offset of a record. -/
def u (r : Rec) (off n : Nat) : Nat := ofLE ((r.drop off).take n)

/-- A big-endian number of n bytes at an offset. -/
def uBE (r : Rec) (off n : Nat) : Nat := ofBE ((r.drop off).take n)

/-- The first byte of a span that is not zero. -/
def nzAt (r : List (BitVec 8)) (off n : Nat) : Option Nat :=
  ((List.range n).find? (fun i => (r.drop off).getD i 0 != 0)).map (off + ·)

/-- Up to the next multiple of a power of two or other step. -/
def padTo (n k : Nat) : Nat := (n + k - 1) / k * k

/-- The records' fixed size of a section, 0 for the sections with variable-length records (Table 2.5). -/
def recSize (t : Nat) : Nat :=
  [0, 64, 8, 4, 48, 40, 8, 8, 0, 0, 8, 24, 0, 16, 16, 32, 16, 64, 8].getD t (if t = 255 then 208 else 1)

/-- The length of the record that a body begins with, in a section with variable-length records. -/
def varLen (t : Nat) (b : List (BitVec 8)) (maps : Bool) : Nat :=
  if t = 8 then padTo (12 + 4 * u b 2 2 + 20 * u b 4 2 + u b 8 4) 4
  else if t = 9 then 32 + 4 * u b 27 1
  else if maps || 0x8000 ≤ u b 0 2 then 8 else 4

/-- Cut a body into its records; none if they do not fill it (R36). In section 0x0C every record after the first map record is a map
record. -/
def cut (t : Nat) : Nat → List (BitVec 8) → Bool → Option (List Rec)
  | 0, b, _ => if b.isEmpty then some [] else none
  | n + 1, b, maps =>
    let k := if recSize t = 0 then varLen t b maps else recSize t
    if b.length < k || b.isEmpty then none
    else (cut t n (b.drop k) (maps || (t = 12 && k = 8))).map (b.take k :: ·)

/-- A walked section: type, start, records. -/
structure Sec where
  typ  : Nat
  ofs  : Nat
  recs : List Rec
  deriving DecidableEq, Repr

/-- A section type that an image of a kind may carry (R41). -/
def secAllowed (kind t : Nat) : Bool :=
  if kind = 1 then decide (t ∈ [1, 8, 9, 255]) else (decide (1 ≤ t) && decide (t ≤ 18)) || t == 255

/-- The first required section between two types (R41): a patch requires at least one of 0x08 and 0x09. -/
def secMissing (kind prev t : Nat) : Option Nat :=
  if prev < 1 && 1 < t then some 1
  else if kind = 1 then (if prev < 8 && 9 < t then some 8 else if prev < 255 && 255 < t then some 255 else none)
  else if prev < 2 && 2 < t then some 2 else if prev < 255 && 255 < t then some 255 else none

/-- A span of a section that must be zero: padding, and the reserved bytes of header and trailer bodies (R35, R38, R39). -/
def secZero (t len : Nat) (b : List (BitVec 8)) : Option Nat :=
  let pad := nzAt b (8 + len) (padTo len 8 - len)
  if t = 1 then (nzAt b 56 16).orElse fun _ => pad
  else if t = 255 then ((nzAt b 13 3).orElse fun _ => nzAt b 113 7).orElse fun _ => pad
  else pad

/-- The section walk from a position on (step 4; R534). b holds the bytes from pos to the image end n. -/
def walk (kind n : Nat) : Nat → List (BitVec 8) → Nat → Nat → Except Rej (List Sec)
  | 0, _, pos, _ => .error ⟨8, 0, 0, pos⟩
  | fuel + 1, b, pos, prev =>
    if b.isEmpty then
      match secMissing kind prev 256 with
      | some t => .error ⟨8, t, 0, n⟩
      | none => .ok []
    else
      let t := u b 0 1
      let cnt := u b 2 2
      let len := u b 4 4
      match secMissing kind prev t with
      | some q => .error ⟨8, q, 0, pos⟩
      | none =>
        if t ≤ prev || !secAllowed kind t then .error ⟨8, t, 0, pos⟩
        else if u b 1 1 ≠ 0 then .error ⟨8, t, 0, pos + 1⟩
        else if b.length < 8 + padTo len 8 then .error ⟨8, t, 0, 16⟩
        else
          let single := decide (t ∈ [1, 2, 15, 16, 255])
          match (if single && cnt ≠ 1 then none else cut t cnt ((b.drop 8).take len) false) with
          | none => .error ⟨8, t, 0, pos + 2⟩
          | some rs =>
            match secZero t len b with
            | some o => .error ⟨8, t, 0, pos + o⟩
            | none =>
              match walk kind n fuel (b.drop (8 + padTo len 8)) (pos + 8 + padTo len 8) t with
              | .error e => .error e
              | .ok l => .ok (⟨t, pos, rs⟩ :: l)

/-- The parsed image of header body h and walked sections. -/
def mkImage (h : Rec) (l : List Sec) : Image :=
  { kind := u h 5 1, len := u h 8 4, serial := u h 12 4, base := u h 16 4, svn := u h 20 4, split := u h 24 1, layout := u h 28 4,
    apply := u h 32 8, secs := l.map fun x => (x.typ, x.recs), offs := l.map fun x => (x.typ, x.ofs) }

/-- The records of a section, none when it is absent. -/
def Image.sec (im : Image) (t : Nat) : List Rec := mget im.secs [] t

/-- Image offset of a record. -/
def Image.recOfs (im : Image) (t i : Nat) : Nat := mget im.offs 0 t + 8 + ((im.sec t).take i |>.map List.length).sum

/-- The record of a section that holds the byte at an image offset, the first for its header (R48). -/
def Image.recAt (im : Image) (t o : Nat) : Nat := ((List.range (im.sec t).length).filter fun i => decide (im.recOfs t i ≤ o)).length - 1

/-- Where a section stands or would stand (R535). -/
def Image.secOfs (im : Image) (t : Nat) : Nat :=
  match im.offs.find? (fun p => decide (t ≤ p.1)) with
  | some p => p.2
  | none => im.len

/-- A codeword of a slot's image that holds an uncorrectable error: its image offset (R500). -/
def State.badIn (s : State) (off len : Nat) : Option Nat :=
  (s.badCw.filter (fun c => c.1 == 4 && decide (off < 16 * c.2.2 + 16) && decide (16 * c.2.2 < off + len))).foldl
    (fun m c => let o := 16 * c.2.2 - off; match m with | some x => some (min x o) | none => some o) none

/-- Step 8 against a patch's committed pricking. -/
def State.step8 (s : State) (im : Image) : Option Rej :=
  if im.svn < s.nv.svnmin then some ⟨0x0C, 1, 0, 28⟩
  else if im.kind = 1 && im.base ≠ s.rd PRK_SERIAL_SERIAL 0 then some ⟨0x31, 1, 0, 24⟩
  else if im.kind = 1 && im.serial ≤ s.rd PRK_PSERIAL_SERIAL 0 then some ⟨0x33, 1, 0, 20⟩
  else none

/-- Steps 2 to 7 of Table 2.7 on a slot. kinds: the KINDs the command takes. Log entry 24 (DEDUCED). Log entry 30 (DEDUCED). -/
def State.steps2to7 (s : State) (slot : Nat) (kinds : List Nat) : Except Rej Image :=
  let b0 := s.nvmBytes (slotBase slot) 304
  let h := (b0.drop 8).take 64
  let len := u h 8 4
  if len < 304 || 8388608 < len || len % 8 ≠ 0 then .error ⟨4, 1, 0, 16⟩
  else if u h 0 4 ≠ 0x514B5250 then .error ⟨5, 1, 0, 8⟩
  else if u h 4 1 ≠ 0x10 then .error ⟨6, 1, 0, 12⟩
  else if u h 6 2 ≠ 0x9664 then .error ⟨7, 1, 0, 14⟩
  else if s.rd SYS_ID_STEP 0 < u h 25 1 then .error ⟨7, 1, 0, 33⟩
  else if u h 24 1 ≠ s.rd SYS_CFG_SPLIT 0 then .error ⟨7, 1, 0, 32⟩
  else if u h 5 1 ∉ kinds then .error ⟨0x37, 1, 0, 13⟩
  else
    let b := s.nvmBytes (slotBase slot) len
    match walk (u h 5 1) len 20 b 0 0 with
    | .error e => .error e
    | .ok l =>
      if u h 26 2 ≠ l.length then .error ⟨8, 1, 0, 34⟩
      else
        let tr := len - 208
        let t := b.drop tr
        let key := u t 4 1
        if (crc32c (b.take tr)).toNat ≠ u t 0 4 || (s.badIn (slotBase slot) len).isSome then .error ⟨9, 255, 0, tr⟩
        else if 4 ≤ key || !s.nv.keys.any (fun p => p.1 == key) || key ∈ s.nv.revoked then .error ⟨0x0A, 255, 0, tr + 4⟩
        else if sha384 ((t.drop 8).take 97) ≠ mget s.nv.keys 0 key then .error ⟨0x0A, 255, 0, tr + 8⟩
        else if u t 8 1 ≠ 4 || !ecdsaVerify (sha384 (b.take (len - 96))) (uBE t 9 48) (uBE t 57 48) (uBE t 112 48) (uBE t 160 48) then
          .error ⟨0x0B, 255, 0, tr + 112⟩
        else .ok (mkImage h l)

/-- Steps 2 to 8. -/
def State.steps2to8 (s : State) (slot : Nat) (kinds : List Nat) : Except Rej Image :=
  match s.steps2to7 slot kinds with
  | .error r => .error r
  | .ok im =>
    match s.step8 im with
    | some r => .error r
    | none => .ok im

/-! ## Records read by several checks -/

/-- A job record (Table 2.6). -/
structure JobRec where
  ri     : Nat
  job    : Nat
  image  : Nat
  entry  : Nat
  trig   : Nat
  pin    : Bool
  src    : Nat
  input  : Nat
  budget : Nat
  u      : Nat
  period : Nat
  legs   : Nat
  engine : Nat
  target : Nat
  param  : List Nat
  deriving DecidableEq, Repr

/-- The record's fields. -/
def jobRec (ri : Nat) (r : Rec) : JobRec :=
  { ri := ri, job := u r 0 2, image := u r 2 2, entry := u r 4 2, trig := u r 6 1, pin := bit (u r 7 1) 0, src := u r 8 2,
    input := u r 10 2, budget := u r 12 2, u := u r 14 2, period := u r 16 4, legs := u r 20 6, engine := u r 26 1, target := u r 28 4,
    param := (List.range (u r 27 1)).map fun i => u r (32 + 4 * i) 4 }

/-- The job records of an image. -/
def Image.jobs (im : Image) : List JobRec := (im.sec 9).zipIdx.map fun (p : Rec × Nat) => jobRec p.2 p.1

/-- An engine image record (Table 2.5). -/
def engImage (r : Rec) : EngImage :=
  let v := u r 2 2
  let h := u r 4 2
  { id := u r 0 2, vert := (List.range v).map fun i => u r (12 + 4 * i) 4, horiz := (List.range h).map fun i => u r (12 + 4 * v + 20 * i) 20,
    init := (r.drop (12 + 4 * v + 20 * h)).take (u r 8 4) }

/-- The engine images of an image. -/
def Image.engImages (im : Image) : List EngImage := (im.sec 8).map engImage

/-- The Braid plan in an image, with the defaults of R433: SEAT, RING, FOLLOWER, PORTS, GFIRST, GCOUNT. -/
structure Plan where
  seat : Nat := 0
  ring : Nat := 1
  follower : Nat := 0
  ports : Nat := 0
  gfirst : Nat := 0
  gcount : Nat := 0
  deriving DecidableEq, Repr

def Image.plan (im : Image) : Plan :=
  match im.sec 16 with
  | r :: _ => { seat := u r 0 1, ring := u r 1 1, follower := u r 2 1, ports := u r 3 1, gfirst := u r 4 2, gcount := u r 6 2 }
  | [] => {}

/-- The identity of section 0x0F with the defaults of R413: subsystem vendor, subsystem, class, TotalVFs, speed, width, flags. -/
def Image.ident (im : Image) : List Nat :=
  match im.sec 15 with
  | r :: _ => [u r 0 2, u r 2 2, u r 4 3, u r 8 1, u r 9 1, u r 10 1, u r 11 1]
  | [] => [0x1C9E, 0x9664, 0x118000, 0, 5, 16, 7]

/-- The clock plan: CREF, SSC, AONLOCK. -/
def Image.clock (im : Image) : List Nat :=
  match im.sec 2 with
  | r :: _ => [u r 0 1, u r 1 1, u r 2 1]
  | [] => [0, 0, 0]

/-- A channel is in the global range. -/
def Plan.global (p : Plan) (ec : Nat) : Bool := decide (p.gfirst ≤ ec) && decide (ec < p.gfirst + p.gcount)

/-- Ring samples of this seat: channel, source seat and interval P of every global record marked as one, ascending EC (R443, R444). -/
def Image.ringSamples (im : Image) : List (Nat × Nat × Nat) :=
  let p := im.plan
  let l := (im.sec 6).filterMap fun r =>
    let w := u r 7 1
    let d := u r 6 1 + 1
    if p.global (u r 0 2) && 0xF000 ≤ u r 2 2 && 1 ≤ w then
      some (u r 0 2, u r 2 2 - 0xF000, if w = 5 then d else 2 * w * d) else none
  l.foldl (fun (acc : List (Nat × Nat × Nat)) x => acc.filter (fun y => decide (y.1 < x.1)) ++ x :: acc.filter (fun y => decide (x.1 < y.1))) []

end Sys2Proof.Machine
end

