-- ==== Sys2Proof/Machine/Checks.lean ====
section
/-!
DEFINITION. Validation step 9 (spec/02, R38, R42, R56; the owning chapters' FIELD rules: R78, R115, R119, R226, R259, R265, R295, R350,
R359, R374, R395, R413, R433, R525). A check names a code and the offset of the first offending byte in its record.
-/
namespace Sys2Proof.Machine
open F

/-- One check: fails with a code at an offset of the record. -/
def chk (bad : Bool) (code ofs : Nat) : Option (Nat × Nat) := if bad then some (code, ofs) else none

/-- A field out of range, at its first byte. -/
def fld (bad : Bool) (ofs : Nat) : Option (Nat × Nat) := chk bad 0x10 ofs

/-- A reserved span that is not zero. -/
def resv (r : Rec) (off n : Nat) : Option (Nat × Nat) := (nzAt r off n).map fun o => (0x10, o)

/-- The first check of a list that fails. -/
def firstBad (l : List (Option (Nat × Nat))) : Option (Nat × Nat) := l.findSome? id

/-- A code of Table 4.2 other than none. -/
def mcSource (c : Nat) : Bool :=
  decide (c < 0x60) || (decide (0x100 ≤ c) && decide (c < 0x140)) || decide (c ∈ [0x200, 0x201, 0x202, 0x203, 0x204, 0x205, 0x210, 0x211, 0x220, 0x221])

/-- A producer code of Table 10.1. -/
def producerOk (c : Nat) : Bool :=
  decide (c < 0x180) || (decide (0x200 ≤ c) && decide (c < 0x220)) || (decide (0x300 ≤ c) && decide (c < 0x3F0))
    || (decide (0x400 ≤ c) && decide (c < 0x460)) || (decide (0x500 ≤ c) && decide (c < 0x580)) || (decide (0x600 ≤ c) && decide (c < 0x620))
    || (decide (0x700 ≤ c) && decide (c < 0x710)) || (decide (0x800 ≤ c) && decide (c < 0xB00))
    || (decide (0xB01 ≤ c) && decide (c ≤ 0xB3E)) || (decide (0xC00 ≤ c) && decide (c ≤ 0xC02)) || (decide (0xC40 ≤ c) && decide (c < 0xC70))
    || (decide (0xD00 ≤ c) && decide (c ≤ 0xD01)) || (decide (0xF000 ≤ c) && decide (c ≤ 0xF007))

/-- A consumer code of Table 10.2. -/
def consumerOk (c : Nat) : Bool :=
  decide (c < 0x180) || (decide (0x200 ≤ c) && decide (c < 0x280)) || (decide (0x400 ≤ c) && decide (c < 0x840))
    || (decide (0x840 ≤ c) && decide (c < 0x8A1)) || (decide (0xF000 ≤ c) && decide (c ≤ 0xF007))

/-- The largest identifier and the defined rights bits [2:0] of a resource kind (Table 15.2). -/
def kindTop (k : Nat) : Nat := [0, 0xFFFFFFFF, 1023, 47, 47, 63, 31, 255, 16383, 63, 255].getD k 0
def kindRights (k : Nat) : Nat := [0, 7, 3, 1, 3, 3, 1, 1, 1, 1, 1].getD k 0

/-- Section 0x05, selectors against the scan mask (R115). -/
def selBad (r : Rec) : Option (Nat × Nat) :=
  (List.range 16).findSome? fun i =>
    let c := u r (8 + 2 * i) 2
    fld (if bit (u r 2 2) i then !mcSource c else c != 0xFFFF) (8 + 2 * i)

/-- The checks of one record at step 9, in byte order. before: the records of the section before it. Log entry 26 (DEDUCED). -/
def fieldChecks (split : Nat) (t i : Nat) (r : Rec) (before : List Rec) : List (Option (Nat × Nat)) :=
  match t with
  | 2 => [fld (1 < u r 0 1) 0, fld (1 < u r 1 1) 1, fld (1 < u r 2 1) 2, resv r 3 5]
  | 3 =>
    let p := u r 0 2
    let f := u r 2 1
    let o := u r 3 1
    [fld (47 < p) 0, fld (!(f == 2 || (f == 0 && decide (p < 32)) || (f == 1 && decide (32 ≤ p)))) 2, fld (o % 4 == 3 || decide (32 ≤ o)) 3]
  | 4 =>
    let k := u r 2 1
    let d := u r 4 2
    let ilv := bit (u r 1 1) 1
    [fld (63 < u r 0 1) 0, fld (ilv && u r 0 1 % 2 == 1) 1, fld (k < 1 || 4 < k) 2, fld (3 < u r 3 1 || (ilv && u r 3 1 != 0)) 3,
      fld (d < 4 || 256 < d) 4, resv r 6 10]
  | 5 =>
    [fld (15 < u r 0 1 || before.any (fun q => u q 0 1 == u r 0 1)) 0, fld (1 < u r 1 1) 1,
      fld (u r 1 1 == 0 && (decide (u r 4 4 < 8000) || decide (80000000 < u r 4 4))) 4, selBad r]
  | 6 => [fld (1023 < u r 0 2) 0, fld (!producerOk (u r 2 2)) 2, fld (!consumerOk (u r 4 2)) 4, fld (23 < u r 7 1) 7]
  | 7 =>
    let ff := bit (u r 1 1) 0
    let gf := bit (u r 1 1) 1
    [fld (4 ≤ u r 1 1 || (gf && !ff)) 1, fld (!ff && bit (u r 2 2) 0) 2, fld (gf && u r 4 1 == 0) 4, resv r 5 3]
  | 8 =>
    let n := 12 + 4 * u r 2 2 + 20 * u r 4 2 + u r 8 4
    [fld (u r 2 2 < 1 || 4096 < u r 2 2) 2, fld (u r 4 2 < 1 || 256 < u r 4 2) 4, resv r 6 2, fld (65536 < u r 8 4) 8, resv r n (r.length - n)]
  | 9 =>
    let j := jobRec i r
    [fld (383 < j.job) 0, fld (4095 < j.entry) 4, fld (1 < j.trig) 6, fld (2 ≤ u r 7 1) 7,
      fld (if j.trig = 0 then 1023 < j.src else 63 < j.src) 8, fld (63 < j.input && j.input ≠ 0xFFFF) 10, fld (j.budget = 0) 12,
      fld (j.budget < j.u) 14, fld (j.period < j.budget + 1) 16, fld (if j.pin then 47 < j.engine else j.engine ≠ 0) 26, fld (64 < u r 27 1) 27]
  | 10 =>
    let k := u r 0 1
    [fld (k = 0 || 4 < k) 0, resv r 1 1, fld (k = 4 && (decide (u r 4 2 < 1) || decide (8192 < u r 4 2))) 4, resv r 6 2]
  | 11 =>
    let k := u r 2 1
    let h := u r 4 4
    [fld (u r 0 2 = 0 || 4095 < u r 0 2) 0, fld (k = 0 || 10 < k) 2, fld (u r 3 1 % 8 &&& (7 - kindRights k) ≠ 0 || u r 3 1 / 8 % 8 ≠ 0) 3,
      fld (h % 256 = 0 || 3 < h % 256) 4, fld (2 ^ 19 ≤ h) 6, resv r 12 4, fld (u r 16 4 < u r 8 4) 8, fld (kindTop k < u r 16 4) 16, resv r 20 4]
  | 12 =>
    if r.length = 8 then
      let c := u r 0 2
      [fld (c < 0x8000 || 0x80E0 ≤ c) 0, fld (u r 2 6 = 0) 2]
    else [fld (47 < u r 0 1) 0, fld (1 < u r 1 1) 1, fld (2 < u r 2 1) 2, resv r 3 1]
  | 13 =>
    let m := u r 3 1
    [fld (63 < u r 0 1) 0, fld (3 < u r 1 1) 1, fld (15 < u r 2 1 || (u r 2 1 ≠ 0 && u r 1 1 ≠ 3)) 2,
      fld (8 ≤ m || (m % 4 = 3 && (u r 4 2 ≠ 1 || u r 6 1 ≠ 0))) 3, fld (u r 4 2 = 0) 4, fld (m % 4 = 0 && u r 7 1 ≠ 0) 7, resv r 10 6]
  | 14 =>
    let k := u r 0 1
    let c := u r 2 2
    let v := u r 8 4
    let src : Bool := if k = 1 then c < 64 || (0x100 ≤ c && c < 0x108) || c = 0x200 else if k = 2 || k = 5 then c < 64
      else if k = 3 then c = 0 else c < 48 || (0x100 ≤ c && c < 0x108) || c = 0x200
    let div : Bool := if k = 1 || k = 5 then v = 1 else if k = 2 then 1 ≤ v && v ≤ 65536 else 1 ≤ v && v ≤ 13000
    [fld (256 ≤ i) 0, fld (k = 0 || 5 < k) 0, fld (2 ≤ u r 1 1) 1, fld (!src) 2,
      fld (u r 4 1 ∉ [0, 1, 2, 255] || (k = 5 && u r 4 1 ≠ 0)) 4, resv r 5 3, fld (!div) 8, resv r 12 4]
  | 15 =>
    [resv r 7 1, fld (62 < u r 8 1) 8, fld (u r 9 1 < 1 || 5 < u r 9 1) 9, fld (u r 10 1 ∉ [1, 4, 8, 16]) 10, fld (8 ≤ u r 11 1) 11, resv r 12 20]
  | 16 =>
    let ring := u r 1 1
    [fld (ring ≤ u r 0 1) 0, fld (ring < 1 || 8 < ring) 1, fld (u r 2 1 ≠ (if u r 0 1 = 0 then 0 else 1)) 2,
      fld (4 ≤ u r 3 1 || (ring = 1 && u r 3 1 ≠ 0)) 3, fld (1024 < u r 4 2 + u r 6 2) 4, resv r 8 8]
  | 17 =>
    [fld (15 < u r 0 1) 0, resv r 1 1, fld (u r 2 2 = 0 || 512 < u r 2 2) 2, fld (0x2000000 < u r 4 4 + u r 8 4) 4,
      fld (u r 8 4 = 0 || 262144 < u r 8 4) 8, fld (u r 8 4 ≤ u r 12 4) 12]
  | 18 => [fld (!runTime split (u r 0 4)) 0]
  | _ => []

/-- The first byte before PARAM at which two job records differ (R56). -/
def jobDiff (a b : Rec) : Option Nat := (List.range 32).find? fun i => a.getD i 0 != b.getD i 0

/-- The scope of a patch's record (R56), after its fields are in range. -/
def State.scopeChecks (s : State) (c : Image) (t i : Nat) (r : Rec) : List (Option (Nat × Nat)) :=
  if t = 8 then [chk (c.jobs.any (fun j => j.image == u r 0 2)) 0x32 0]
  else if t = 9 then
    let j := jobRec i r
    match (c.sec 9).find? (fun q => u q 0 2 == j.job) with
    | some q => [(jobDiff q r).map fun o => (0x32, o)]
    | none =>
      let ks := (List.range 48).filter (bit j.legs)
      [chk (!j.pin) 0x34 7, chk (ks.any fun k => (s.leg k).st ≠ .safe || c.jobs.any (fun q => bit q.legs k)) 0x32 20]
  else []

/-- Step 9: the header, then every section in type order and every record in order. -/
def State.step9 (s : State) (im : Image) : Option Rej :=
  let hdr := firstBad [fld (im.kind = 0 && im.base ≠ 0) 24, fld (63 < im.svn) 28, fld (im.kind = 1 && im.layout ≠ 0) 36,
    fld (im.kind = 0 && im.apply ≠ 0) 40]
  match hdr with
  | some (c, o) => some ⟨c, 1, 0, o⟩
  | none =>
    im.secs.findSome? fun (p : Nat × List Rec) =>
      if p.1 = 1 || p.1 = 255 then none
      else p.2.zipIdx.findSome? fun (q : Rec × Nat) =>
        let scope := if im.kind = 1 then s.scopeChecks (s.committed.getD {}) p.1 q.2 q.1 else []
        (firstBad (fieldChecks (s.rd SYS_CFG_SPLIT 0) p.1 q.2 q.1 (p.2.take q.2) ++ scope)).map fun x =>
          ⟨x.1, p.1, q.2, im.recOfs p.1 q.2 + x.2⟩

end Sys2Proof.Machine
end

