-- ==== Sys2Proof/Machine/Refs.lean ====
section
/-!
DEFINITION. Validation step 10 (spec/02, R535, R536; the owning chapters' cross-reference rules: R78, R115, R119, R170, R208, R226,
R235, R245, R251, R257, R259, R265, R295, R359, R374, R395, R443, R525).
-/
namespace Sys2Proof.Machine
open F

/-! ## Microcode (R170) -/

/-- The 32 bits of a microword, unused fields zero (Tables 6.2 and 6.3). -/
def encodeU (o : UOp) : Nat :=
  let op (c : Nat) : Nat := c * 2 ^ 26
  let d (x : Nat) : Nat := x * 2 ^ 22
  let a (x : Nat) : Nat := x * 2 ^ 18
  let b (x : Nat) : Nat := x * 2 ^ 14
  let k (x : Nat) : Nat := x * 2 ^ 25
  let n (x : Nat) : Nat := x * 2 ^ 20
  match o with
  | .nop => op 0x00 | .fin => op 0x01 | .jmp t => op 0x02 + t | .br c t => op 0x03 + d c + t | .call t => op 0x04 + t | .ret => op 0x05
  | .dbnz x t => op 0x06 + d x + t | .fetch x s => op 0x08 + d x + s
  | .post l v m => op 0x09 + l * 2 ^ 20 + v * 2 ^ 16 + m * 2 ^ 11 | .spost l v w => op 0x0A + l * 2 ^ 20 + v * 2 ^ 16 + w * 2 ^ 12
  | .rawcfg l m f => op 0x0B + l * 2 ^ 24 + n m + f | .rawth l x y => op 0x0C + l * 2 ^ 24 + a x + b y | .rawrd x l => op 0x0D + d x + l * 2 ^ 20
  | .prm x i => op 0x0E + d x + i | .sig i => op 0x0F + i | .mov x y => op 0x10 + d x + a y | .ldi x i => op 0x11 + d x + i
  | .ldih x i => op 0x12 + d x + i | .add x y z => op 0x13 + d x + a y + b z | .sub x y z => op 0x14 + d x + a y + b z
  | .addi x y i => op 0x15 + d x + a y + i | .abs x y => op 0x16 + d x + a y | .min x y z => op 0x17 + d x + a y + b z
  | .max x y z => op 0x18 + d x + a y + b z | .clamp x y z => op 0x19 + d x + a y + b z | .and x y z => op 0x1A + d x + a y + b z
  | .or x y z => op 0x1B + d x + a y + b z | .xor x y z => op 0x1C + d x + a y + b z | .shl x y i => op 0x1D + d x + a y + i
  | .shr x y i => op 0x1E + d x + a y + i | .cmp y z => op 0x1F + a y + b z
  | .mul q y z => op 0x20 + k q + a y + b z | .mac q y z => op 0x21 + k q + a y + b z | .msu q y z => op 0x22 + k q + a y + b z
  | .accld q y i => op 0x23 + k q + a y + i | .accadd q y i => op 0x24 + k q + a y + i | .accsum q => op 0x25 + k q
  | .accrd q y i => op 0x26 + k q + a y + i | .accclr q => op 0x27 + k q | .accsv q m f => op 0x28 + k q + n m + f
  | .accrs q m f => op 0x29 + k q + n m + f | .ld x m f => op 0x2A + d x + n m + f | .st x m f => op 0x2B + d x + n m + f
  | .lda m f => op 0x2C + n m + f | .adda m f => op 0x2D + n m + f | .tlu x y m f => op 0x2E + d x + n m + y * 2 ^ 16 + f
  | .movs x i => op 0x2F + d x + i

/-- Ones in the mask of a POST. -/
def ones (m : Nat) : Nat := ((List.range 8).filter (bit m)).length

/-- A vertical word among the first v is rejected (R170). -/
def vertBad (v w : Nat) : Bool :=
  match decodeU w with
  | none => true
  | some o => encodeU o != w || (match o with
    | .jmp t | .call t | .dbnz _ t => decide (v ≤ t)
    | .br c t => decide (v ≤ t) || decide (9 < c)
    | .post l x m => decide (47 < l) || m == 0 || decide (16 < x + ones m)
    | .spost l _ _ => decide (47 < l)
    | .accld _ _ i | .accadd _ _ i | .accrd _ _ i => decide (47 < i)
    | .shl _ _ i | .shr _ _ i => decide (23 < i)
    | _ => false)

/-- A horizontal word among the first h is rejected (R170). -/
def horizBad (h w : Nat) : Bool :=
  let pk := bits w 105 104
  bits w 129 128 != 0 || bits w 40 37 != 0 || bits w 19 0 != 0 || decide (4 < bits w 150 148) || bits w 131 130 == 3
    || decide (h ≤ bits w 158 151) || (decide (47 < bits w 111 106) && pk != 0) || (pk == 1 && bits w 103 100 == 0)
    || (bits w 97 96 == 3 && bits w 95 86 != 0) || (bits w 69 68 == 3 && bits w 67 58 != 0)

/-- The offset in its record of the first word of an image that is rejected. -/
def microBad (r : Rec) : Option Nat :=
  let v := u r 2 2
  let h := u r 4 2
  match (List.range v).find? (fun i => vertBad v (u r (12 + 4 * i) 4)) with
  | some i => some (12 + 4 * i)
  | none => ((List.range h).find? (fun i => horizBad h (u r (12 + 4 * v + 20 * i) 20))).map fun i => 12 + 4 * v + 20 * i

/-! ## Loops of picots (R251) -/

/-- Arcs of the graph: from picot, to picot, storm limit, record index. -/
def Image.arcs (im : Image) : List (Nat × Nat × Nat × Nat) :=
  (im.sec 6).zipIdx.filterMap fun (p : Rec × Nat) =>
    let pr := u p.1 2 2
    let co := u p.1 4 2
    if 0x800 ≤ pr && pr < 0xA00 && 0x400 ≤ co && co < 0x800 then some (pr % 256, (co - 0x400) / 4, u p.1 6 1, p.2) else none

/-- A picot with flip-flop. -/
def Image.picotFF (im : Image) (p : Nat) : Bool := (im.sec 7).any fun r => u r 0 1 == p && bit (u r 1 1) 0

/-- Shortest walks from a start back to it, breadth first in ascending picot number; a walk's state is the picot and whether it has
passed a flip-flop. The frontier holds walks, newest picot first. Log entry 27 (DEDUCED). -/
def loopSearch (arcs : List (Nat × Nat)) (ff : Nat → Bool) (start : Nat) (needFF : Bool) :
    Nat → List (List Nat × Bool) → List (Nat × Bool) → Option (List Nat)
  | 0, _, _ => none
  | fuel + 1, front, seen =>
    let nexts := front.flatMap fun (w : List Nat × Bool) =>
      ((arcs.filter (fun a => w.1.head? == some a.1)).map (·.2)).map fun (b : Nat) => (b :: w.1, w.2 || ff b)
    match nexts.find? (fun (w : List Nat × Bool) => w.1.head? == some start && (w.2 || !needFF)) with
    | some w => some w.1.tail.reverse
    | none =>
      let r := nexts.foldl (fun (q : List (List Nat × Bool) × List (Nat × Bool)) (w : List Nat × Bool) =>
        let key := (w.1.headD 0, w.2)
        if key ∈ q.2 then q else (q.1 ++ [w], key :: q.2)) ([], seen)
      if r.1.isEmpty then none else loopSearch arcs ff start needFF fuel r.1 r.2

/-- Put the lowest picot of a loop first. -/
def rotLow (l : List Nat) : List Nat :=
  match l with
  | [] => []
  | a :: t =>
    let m := t.foldl min a
    let i := l.findIdx (· == m)
    l.drop i ++ l.take i

/-- The first offending loop, from each picot in ascending number: through picots without flip-flop only, or over channels none of
which has a storm limit. -/
def Image.loop (im : Image) : Option (List Nat) :=
  let as := im.arcs
  let comb := ((as.filter (fun a => !im.picotFF a.1 && !im.picotFF a.2.1)).map fun a => (a.1, a.2.1)).mergeSort (fun x y => decide (x.2 ≤ y.2))
  let free := ((as.filter (fun a => a.2.2.1 == 0)).map fun a => (a.1, a.2.1)).mergeSort (fun x y => decide (x.2 ≤ y.2))
  let simple (l : List Nat) : Bool := decide (l.eraseDups.length = l.length)
  ((List.range 256).findSome? fun p =>
    let a := if im.picotFF p then none else loopSearch comb (fun _ => false) p false 257 [([p], false)] []
    let b := loopSearch free im.picotFF p true 513 [([p], im.picotFF p)] []
    match a, b with
    | some l, _ => some l
    | none, some l => if simple l then some l else none
    | none, none => none).map rotLow

/-- The record of the channel that leads from a loop's first picot to its next (R251). -/
def Image.loopRec (im : Image) (l : List Nat) : Nat :=
  match l with
  | [] => 0
  | a :: t => ((im.arcs.find? (fun x => x.1 == a && x.2.1 == (t.headD a))).map (·.2.2.2)).getD 0

/-! ## References -/

/-- The enabled record of a modulator (R78). -/
def Image.modRec (im : Image) (n : Nat) : Option Rec := (im.sec 4).find? (fun r => u r 0 1 == n && bit (u r 1 1) 0)
def Image.modOn (im : Image) (n : Nat) : Bool := (im.modRec n).isSome
def Image.modPair (im : Image) (n : Nat) : Bool := match im.modRec n with | some r => bit (u r 1 1) 1 | none => false

/-- The channel record of an EC. -/
def Image.ecRec (im : Image) (c : Nat) : Option Rec := (im.sec 6).find? (fun r => u r 0 2 == c)

/-- A core number that names something (R245). -/
def coreNamed (split c : Nat) : Bool := c % 2 == 0 || bit split (c / 2)

/-- A producer or consumer code names nothing: an instance that does not exist, is not enabled, or that R245 excludes (R259). -/
def Image.prodNone (im : Image) (split c : Nat) : Bool :=
  if c < 0x40 then !im.modOn c
  else if 0x140 ≤ c && c < 0x180 then !im.modOn (c - 0x140)
  else if 0x700 ≤ c && c < 0x710 then !coreNamed split (c - 0x700)
  else if 0xA00 ≤ c && c < 0xB00 then decide (im.ringSamples.length ≤ c - 0xA00)
  else if 0xB00 ≤ c && c < 0xB40 then decide (im.ident.getD 3 0 < c - 0xB00)
  else if 0xD00 ≤ c && c < 0xD02 then !bit im.plan.ports (c - 0xD00)
  else false

def Image.consNone (im : Image) (split ec c : Nat) : Bool :=
  if c < 0x180 then !(im.jobs.any (fun j => j.job == c && j.trig == 0 && j.src == ec))
  else if 0x200 ≤ c && c < 0x280 then !coreNamed split ((c - 0x200) / 8)
  else false

/-- The rules of a record with remote codes (R257, R443), with its seat and the storm bytes of the consumer's seat. -/
def Plan.remoteBad (p : Plan) (r : Rec) : Bool :=
  let pr := u r 2 2
  let co := u r 4 2
  let rp := decide (0xF000 ≤ pr)
  let rc := decide (0xF000 ≤ co)
  let seat := (if rp then pr else co) - 0xF000
  let w := u r 7 1
  let l := u r 6 1
  if !p.global (u r 0 2) then rp || rc
  else rp == rc || seat == p.seat || decide (p.ring ≤ seat)
    || (rp && !((w == 0 && l == 0) || (decide (1 ≤ w) && decide (w ≤ 5) && decide (3 ≤ l))))

/-- A consumer takes one channel only (Table 10.2). -/
def oneOnly (c : Nat) : Bool := !((decide (0x200 ≤ c) && decide (c < 0x280)) || c == 0x8A0 || decide (0xF000 ≤ c))

/-- The masters of a timer lead back to a timer already met (R295). -/
def masterLoop (im : Image) : Nat → Nat → List Nat → Bool
  | 0, _, _ => true
  | fuel + 1, n, seen =>
    if n ∈ seen then true
    else match (im.sec 13).find? (fun r => u r 0 1 == n) with
      | some r => if u r 3 1 % 4 = 0 then false else masterLoop im fuel (u r 7 1) (n :: seen)
      | none => false

/-- The modulators of a stream's source (Table 17.1). -/
def Image.srcMods (src : Nat) : List Nat :=
  if src < 64 then [src] else if src < 0x200 then (List.range 8).map (8 * (src - 0x100) + ·) else List.range 64

/-- The checks of one record at step 10 in the order of Table 2.7's codes; cx is the image with, for a patch, the committed sections
beneath it; before: the earlier records of the section. Log entry 25 (DEDUCED). Log entry 26 (DEDUCED). -/
def State.refChecks (s : State) (cx : Image) (t i : Nat) (r : Rec) (before : List Rec) : List (Option (Nat × Nat)) :=
  let split := s.rd SYS_CFG_SPLIT 0
  let ref (b : Bool) (o : Nat) : Option (Nat × Nat) := chk b 0x11 o
  let dup (n : Nat) : Bool := before.any fun q => u q 0 n == u r 0 n
  match t with
  | 3 => [ref (dup 2) 0]
  | 4 =>
    let n := u r 0 1
    let en (q : Rec) : Bool := bit (u q 1 1) 0
    let pr (q : Rec) : Bool := en q && bit (u q 1 1) 1
    [ref (dup 1) 0, ref ((pr r && before.any (fun q => en q && u q 0 1 == n + 1)) || (en r && before.any (fun q => pr q && u q 0 1 + 1 == n))) 0]
  | 5 => [ref (u r 1 1 == 1 && !((cx.ecRec (u r 4 4)).any fun q => u q 4 2 == 0x800 + u r 0 1)) 4]
  | 6 =>
    let ec := u r 0 2
    let rs := before.filter fun q => cx.plan.global (u q 0 2) && 0xF000 ≤ u q 2 2 && u q 7 1 != 0
    [ref (cx.prodNone split (u r 2 2)) 2, ref (cx.consNone split ec (u r 4 2)) 4, ref (cx.plan.remoteBad r) (if 0xF000 ≤ u r 2 2 || u r 4 2 < 0xF000 then 2 else 4),
      ref (cx.plan.global ec && 0xF000 ≤ u r 2 2 && u r 7 1 != 0 && decide (256 ≤ rs.length)) 0,
      chk (dup 2) 0x12 0, chk (oneOnly (u r 4 2) && before.any (fun q => u q 4 2 == u r 4 2)) 0x12 4]
  | 7 => [chk (dup 1) 0x12 0]
  | 8 => [ref (dup 2) 0, (microBad r).map fun o => (0x14, o)]
  | 9 =>
    let j := jobRec i r
    let im := (cx.sec 8).find? (fun q => u q 0 2 == j.image)
    let ring := (cx.ecRec j.src).any fun q => cx.plan.global j.src && 0xF000 ≤ u q 2 2 && u q 7 1 != 0
    [ref (dup 2) 0, ref im.isNone 2, ref (im.any fun q => decide (u q 2 2 ≤ j.entry)) 4,
      ref (if j.trig = 1 then !cx.modOn j.src else !((cx.ecRec j.src).any fun q => u q 4 2 == j.job)) 8,
      ref (before.any fun q => u q 20 6 &&& j.legs != 0) 20,
      ref (j.target != 0 && !(if j.trig = 1 then j.src == j.input else j.input == 0xFFFF && ring)) 28]
  | 10 =>
    let k := u r 0 1
    let job (n : Nat) : Bool := cx.jobs.any fun j => j.job == n
    [ref (if k = 4 then before.any (fun q => u q 0 1 == 4 && u q 2 2 == u r 2 2) else !job (u r 2 2)) 2,
      ref (if k = 4 then false else if k = 3 then decide (47 < u r 4 2) else !job (u r 4 2)) 4]
  | 11 =>
    let hk := u r 4 1
    let who := u r 5 1
    let same (q : Rec) : Bool := u q 4 1 == hk && u q 5 1 == who
    [ref (dup 2) 0, ref (hk == 2 && (u r 2 1 != 1 || !bit (u r 3 1) 2)) 2,
      ref (if hk = 3 then decide (cx.ident.getD 3 0 + 1 < who) else decide (15 < who) || !coreNamed split who) 5,
      ref (hk == 1 && before.any fun q => same q && u q 6 1 == u r 6 1) 6, ref (hk == 2 && before.any same) 4,
      ref (hk == 3 && decide (8 ≤ (before.filter same).length)) 4]
  | 12 => [ref (before.any fun q => q.length == r.length && (if r.length = 8 then u q 0 2 == u r 0 2 else u q 0 1 == u r 0 1)) 0]
  | 13 =>
    let n := u r 0 1
    let m := u r 7 1
    let slave := u r 3 1 % 4 != 0
    let mr := (cx.sec 13).find? (fun q => u q 0 1 == m)
    let msrc := match mr with | some q => (u q 1 1, u q 2 1) | none => (0, 0)
    let pub := u r 8 2
    [ref (dup 1) 0, ref (u r 1 1 == 3 && !((cx.sec 3).any fun q => u q 0 2 == 32 + u r 2 1 && u q 2 1 == 1)) 2,
      ref (slave && (m / 16 != n / 16 || m == n || msrc != (u r 1 1, u r 2 1) || masterLoop cx 17 n [])) 7,
      ref (pub != 0xFFFF && !((cx.ecRec pub).any fun q => u q 2 2 == 0x500 + n || u q 2 2 == 0x540 + n)) 8]
  | 14 =>
    let k := u r 0 1
    let src := u r 2 2
    let ms := Image.srcMods src
    let on := ms.filter fun n => cx.modOn n || (n % 2 == 1 && cx.modPair (n - 1))
    let rate (n : Nat) : Nat := match cx.modRec (if cx.modOn n then n else n - 1) with | some q => u q 3 1 | none => 0
    let route := u r 4 1
    [ref (k == 3 && before.any (fun q => u q 0 1 == 3)) 0, ref (k == 5 && decide (16 ≤ (before.filter fun q => u q 0 1 == 5).length)) 0,
      ref ((k == 1 || k == 2 || k == 5) && decide (src < 64) && (if k = 1 then on.isEmpty else !cx.modOn src)) 2,
      ref (k == 1 && decide (64 ≤ src) && on.any fun n => rate n != rate (on.headD 0)) 2,
      ref (k == 5 && before.any (fun q => u q 0 1 == 5 && u q 2 2 == src)) 2,
      ref ((route == 1 || route == 2) && !bit cx.plan.ports (route - 1)) 4]
  | 17 =>
    let c := u r 0 1
    let o := u r 4 4
    let n := u r 8 4
    [ref (dup 1 || (c % 2 == 1 && s.lockstep c) || s.on CP_STAT_CMPFAIL (c / 2 * 2)) 0, ref (decide (o < 0x1800000) || decide (0x1C00000 < o + n)) 4,
      chk (sha384 (s.nvmBytes o n) != uBE r 16 48 || (s.badIn o n).isSome) 0x15 16]
  | _ => []

/-- Boot-bound sections compare by meaning (R536). -/
def bootBad (im c : Image) (t : Nat) : Bool :=
  if t = 2 then im.clock != c.clock else if t = 15 then im.ident != c.ident else if t = 16 then im.plan != c.plan else false

/-- For a patch, the committed image with the patch's images and jobs in place of those it names (R56). -/
def underlay (im c : Image) : Image :=
  let new8 := im.sec 8
  let new9 := im.sec 9
  let s8 := (c.sec 8).filter (fun q => !new8.any fun r => u r 0 2 == u q 0 2) ++ new8
  let s9 := ((c.sec 9).map fun q => (new9.find? (fun r => u r 0 2 == u q 0 2)).getD q) ++ new9.filter (fun r => !(c.sec 9).any (fun q => u q 0 2 == u r 0 2))
  { c with secs := mins (mdel (mins (mdel c.secs 8) 8 s8) 9) 9 s9 }

/-- Step 10 (R535): sections in ascending type order, records in order; boot-bound checks and the loop check in their places. -/
def State.step10 (s : State) (im : Image) : Option Rej :=
  let com := s.committed
  let cx := if im.kind = 1 then underlay im (com.getD {}) else im
  (List.range 19).findSome? fun t =>
    let boot : Option Rej :=
      match com with
      | some c => if im.kind = 0 && bootBad im c t then
          some ⟨0x16, t, 0, if (im.sec t).isEmpty then im.secOfs t else im.recOfs t 0⟩ else none
      | none => none
    let recs := (im.sec t).zipIdx.findSome? fun (q : Rec × Nat) =>
      (firstBad (s.refChecks cx t q.2 q.1 ((im.sec t).take q.2))).map fun x => (⟨x.1, t, q.2, im.recOfs t q.2 + x.2⟩ : Rej)
    let loop : Option Rej :=
      if t = 7 && im.kind = 0 then im.loop.map fun l => ⟨0x13, 6, im.loopRec l, im.recOfs 6 (im.loopRec l)⟩ else none
    ((boot.orElse fun _ => recs).orElse fun _ => loop)

/-- Steps 2 to 10 of a command on a slot. -/
def State.steps2to10 (s : State) (slot : Nat) (kinds : List Nat) : Except Rej Image :=
  match s.steps2to8 slot kinds with
  | .error e => .error e
  | .ok im =>
    match s.step9 im with
    | some e => .error e
    | none =>
      match s.step10 im with
      | some e => .error e
      | none => .ok im

end Sys2Proof.Machine
end

