-- ==== Sys2Proof/Machine/Pillow.lean ====
section
/-!
DEFINITION. Pillow (spec/09): job classes, the acceptance test, placement (R229 to R236), the latency bound (R204, R207, R232),
ring paths and capture routes, and the placement record (R242).
-/
namespace Sys2Proof.Machine
open F

/-! ## Intervals and bounds -/

/-- The boundary interval in ticks of an enabled modulator of an image (R72). -/
def Image.interval (im : Image) (n : Nat) : Nat :=
  match im.modRec n with
  | some r => if bit (u r 1 1) 1 then u r 4 2 else 2 * (u r 3 1 + 1) * u r 4 2
  | none => 0

/-- The ring sample that a channel carries to this seat: index, source seat, interval. -/
def Image.ringOf (im : Image) (ec : Nat) : Option (Nat × Nat × Nat) :=
  (im.ringSamples.zipIdx.find? (fun (p : (Nat × Nat × Nat) × Nat) => p.1.1 == ec)).map fun (p : (Nat × Nat × Nat) × Nat) => (p.2, p.1.2.1, p.1.2.2)

/-- A job triggered by the arrival of a ring sample (R220). -/
def Image.byRing (im : Image) (j : JobRec) : Bool := j.trig == 0 && (im.ringOf j.src).isSome

/-- The class of a job: 1 T, 2 S, 3 U (R220). -/
def Image.cls (im : Image) (j : JobRec) : Nat :=
  if j.target ≠ 0 then 1 else if j.trig = 1 || im.byRing j then 2 else 3

/-- The boundary interval in ticks of the source that triggers a class T or S job. -/
def Image.trigInt (im : Image) (j : JobRec) : Nat :=
  if j.trig = 1 then im.interval j.src else match im.ringOf j.src with | some r => r.2.2 | none => 0

/-- The floor T_m (1 + G + F) in ps for T_m, K, D and the FIR setting (R204). -/
def floorPs (tm k d : Nat) (fir : Bool) : Nat := tm * (1 + (k * (d - 1) + 1) / 2) + (if fir then tm * 15 * d / 2 else 0)

/-- The floor of a job's first input; none for a job without a sample path (R232). -/
def Image.jobFloor (im : Image) (j : JobRec) : Option Nat :=
  if j.input < 64 then
    match im.modRec j.input with
    | some r => some (floorPs (if bit (u r 1 1) 1 then 1250 else 2500 * (u r 3 1 + 1)) (u r 2 1) (u r 4 2) (bit (u r 1 1) 2))
    | none => some (floorPs 2500 0 1 false)
  else if im.byRing j then
    (im.ecRec j.src).map fun r =>
      let w := u r 7 1
      let c := Config.ringFilter (u r 2 2 - 0xF000) j.src % 8
      floorPs (if w = 5 then 1250 else 2500 * w) (c / 2 + 1) (u r 6 1 + 1) (c % 2 == 1)
  else none

/-- The bound in ps; 0 for a job that has none (R204, R207, R232). -/
def Image.bound (im : Image) (j : JobRec) (f p x : Nat) : Nat :=
  if j.legs = 0 then 0
  else match im.jobFloor j with
    | none => 0
    | some fl => fl + 625 * (j.u + f + p + 1) + 11250 * x + 1600

/-- The fetch cost of a job's input on an engine, and the post cost of its legs (R232). -/
def jobF (j : JobRec) (e : Nat) : Nat := if j.input < 64 && j.input / 8 = e / 6 then 2 else 4
def jobP (j : JobRec) (e : Nat) : Nat := if (List.range 48).all (fun k => !bit j.legs k || k / 6 == e / 6) then 3 else 5

/-! ## Ring and host health -/

/-- The paths of every ring sample of an image. -/
def State.ringPaths (s : State) (im : Image) : List RPath :=
  im.ringSamples.zipIdx.map fun (p : (Nat × Nat × Nat) × Nat) =>
    let r := ringPath s.linksUp im.plan.ring p.1.2.1 im.plan.seat
    { idx := p.2, ec := p.1.1, seat := p.1.2.1, port := r.1, x := r.2.1, nopath := r.2.2, per := p.1.2.2 }

/-- The X of a job: that of the ring sample that triggers it. -/
def Image.jobX (im : Image) (paths : List RPath) (j : JobRec) : Nat :=
  if j.input = 0xFFFF && im.byRing j then ((paths.find? (fun r => r.ec == j.src)).map (·.x)).getD 0 else 0

/-- A role is vacant when the unit that carries it is retired and the tile has no serviceable unit left to take it (R219). -/
def State.vacant (s : State) (e : Nat) : Bool :=
  let x := s.ltile (engTile e)
  x.retired (engTile e) (x.carrier e) && !x.spareOk

/-! ## The acceptance test -/

/-- The jobs placed so far, oldest first. -/
abbrev Assign := List (JobRec × Nat)

def Assign.on (a : Assign) (e : Nat) : List JobRec := (a.filter (fun p => p.2 == e)).map (·.1)
def Assign.of (a : Assign) (job : Nat) : Option Nat := (a.find? (fun p => p.1.job == job)).map (·.2)

/-- The other jobs that records of a kind name with a job. -/
def Image.partners (im : Image) (kind job : Nat) : List Nat :=
  (im.sec 10).filterMap fun r =>
    if u r 0 1 ≠ kind then none else if u r 2 2 = job then some (u r 4 2) else if u r 4 2 = job then some (u r 2 2) else none

/-- R221: the sum of (BUDGET + 1) / PERIOD is at most 1, exactly. -/
def utilOk (js : List JobRec) : Bool := decide ((js.map fun j => ((j.budget + 1 : Nat) : Rat) / (j.period : Rat)).sum ≤ 1)

/-- h and W of R222. -/
def Image.hold (im : Image) (js : List JobRec) : Nat := ((js.filter (fun j => im.cls j == 3)).map (fun j => j.budget + 1)).sum
def Image.work (im : Image) (js : List JobRec) : Nat := ((js.filter (fun j => im.cls j != 3)).map (fun j => j.budget + 1)).sum + im.hold js

/-- R222 on an engine's jobs. -/
def Image.trigOk (im : Image) (js : List JobRec) : Bool :=
  match js.filter (fun j => im.cls j == 1) with
  | [] => true
  | [t] =>
    let i := 2 * im.trigInt t
    (js.filter (fun j => im.cls j == 2)).all (fun j => j.trig == t.trig && j.src == t.src) && decide (t.period ≤ i) && decide (im.work js ≤ i)
  | _ => false

/-- Why an engine refuses a job, as a reason of Table 9.4; 0 if it accepts it (R229). -/
def Image.refuses (im : Image) (a : Assign) (e : Nat) (j : JobRec) : Nat :=
  let js := a.on e
  if (im.sec 10).any (fun r => u r 0 1 == 3 && u r 2 2 == j.job && u r 4 2 == e) then 6
  else if (im.partners 2 j.job).any (fun q => a.of q == some e) then 6
  else if js.any (fun q => q.image != j.image) || 8 ≤ js.length || !utilOk (js ++ [j]) then 2
  else if !im.trigOk (js ++ [j]) then 3 else 0

/-! ## Order -/

/-- The tiles in the order in which a job tries them (R231). -/
def tileOrder (j : JobRec) : List Nat :=
  let leg := (List.range 48).find? (bit j.legs)
  let inp := if j.input < 64 then some (j.input / 8) else none
  let a := match leg with | some k => k / 6 | none => inp.getD 0
  let near := (List.range 4).flatMap fun i => let d := i + 1; if d = 4 then [(a + 4) % 8] else [(a + d) % 8, (a + 8 - d) % 8]
  let second := match inp with | some b => if b = a then [] else [b] | none => []
  a :: second ++ near.filter (fun t => t ∉ second)

/-- The local slack of a class T job (R230). -/
def Image.slack0 (im : Image) (paths : List RPath) (j : JobRec) : Int :=
  (j.target : Int) - (im.bound j (if j.input < 64 then 2 else 4) 3 (im.jobX paths j) : Nat)

/-- Unpinned jobs in the order in which they are placed (R230). -/
def Image.sorted (im : Image) (paths : List RPath) (js : List JobRec) : List JobRec :=
  let key (j : JobRec) : Nat × Int × Nat := if im.cls j = 1 then (0, im.slack0 paths j, j.job) else (1, 0, j.job)
  js.mergeSort fun a b =>
    let x := key a
    let y := key b
    decide (x.1 < y.1) || (x.1 == y.1 && (decide (x.2.1 < y.2.1) || (x.2.1 == y.2.1 && decide (x.2.2 ≤ y.2.2))))

/-! ## Capture routes (R236, R396) -/

/-- The rate of a stream record in MB/s, rounded up (R396). -/
def Image.rate (im : Image) (r : Rec) : Nat :=
  let src := u r 2 2
  let ms := Image.srcMods src
  let cfg (n : Nat) : Rec := (im.modRec (if im.modOn n then n else n - 1)).getD []
  let on := ms.filter fun n => im.modOn n || (n % 2 == 1 && im.modPair (n - 1))
  let c := cfg (on.headD src)
  match u r 0 1 with
  | 1 => ceilDiv (200 * ms.length * 4096) ((u c 3 1 + 1) * 4064)
  | 2 => if bit (u c 1 1) 1 then ceilDiv (3200 * 4096) (u c 4 2 * u r 8 4 * 4064) else ceilDiv (1600 * 4096) ((u c 3 1 + 1) * u c 4 2 * u r 8 4 * 4064)
  | 3 | 4 => u r 8 4
  | _ => 0

/-- The PCIe budget in units of 10 kB/s (Table 9.5). -/
def State.pcieBudget (s : State) : Nat := [0, 19500, 39000, 78125, 156250, 312500].getD (s.rd PCIE_LINK_SPEED 0) 0 * s.rd PCIE_LINK_WIDTH 0

/-- Seats away from the nearest seat with a host link, over intact links out of a port; none without one. -/
def State.hostDist (s : State) (im : Image) (port : Nat) : Option Nat :=
  let n := im.plan.ring
  let k := im.plan.seat
  (List.range n).find? fun d =>
    let q := if port = 1 then (k + d) % n else (k + n - d) % n
    1 ≤ d && q ∈ s.hostSeats && (ringLinks n k q (port == 1)).all (fun i => decide (i ∈ s.linksUp))

/-- The budget that remains on a route after the streams routed so far. -/
def State.roomOn (s : State) (taken : List (Nat × Nat × Nat)) (route : Nat) : Nat :=
  let used := ((taken.filter (fun p => p.2.1 == route)).map (·.2.2)).sum
  if route = 0 then s.pcieBudget - 100 * used else 1300000 - 100 * used

/-- Route the streams: fixed routes first, then those that leave the choice, in record order. A stream that fits nowhere is stopped,
route 3. -/
def State.routes (s : State) (im : Image) : List (Nat × Nat × Nat) :=
  let recs := (im.sec 14).zipIdx
  let fits (acc : List (Nat × Nat × Nat)) (route rate : Nat) : Bool := decide (100 * rate ≤ s.roomOn acc route)
  let fixed := recs.foldl (fun (acc : List (Nat × Nat × Nat)) (p : Rec × Nat) =>
    let rt := u p.1 4 1
    let rate := im.rate p.1
    if rt = 255 then acc else acc ++ [(p.2, if fits acc rt rate then rt else 3, rate)]) []
  recs.foldl (fun (acc : List (Nat × Nat × Nat)) (p : Rec × Nat) =>
    let rate := im.rate p.1
    if u p.1 4 1 ≠ 255 then acc
    else
      let d0 := if fits acc 1 rate then s.hostDist im 0 else none
      let d1 := if fits acc 2 rate then s.hostDist im 1 else none
      let rt := if s.rd PCIE_LINK_WIDTH 0 ≠ 0 && fits acc 0 rate then 0
        else match d0, d1 with
          | some a, some b => if a ≤ b then 1 else 2
          | some _, none => 1
          | none, some _ => 2
          | none, none => 3
      acc ++ [(p.2, rt, rate)]) fixed

/-! ## Placement (R229) -/

/-- The image record of a job, and its data initialiser too long (R225). -/
def Image.initLong (im : Image) (j : JobRec) : Bool := (im.sec 8).any fun r => u r 0 2 == j.image && decide (63488 < u r 8 4)

/-- An image that no job names with a data initialiser too long (R225): the rejection names its record, as no job is concerned. Log entry 28
(DEDUCED). -/
def Image.initRej (im : Image) : Option PRej :=
  ((im.sec 8).zipIdx.find? fun (p : Rec × Nat) => decide (63488 < u p.1 8 4)).map fun p =>
    { code := 0x21, reason := 4, job := 0, ri := p.2, sect := 8 }

/-- Assign pinned jobs in ascending JOB. fresh: for a patch, whether an engine carries a committed job. -/
def State.assignPinned (s : State) (im : Image) (patch : Bool) (a0 : Assign) : List JobRec → Assign → Except PRej Assign
  | [], a => .ok a
  | j :: t, a =>
    let e := j.engine
    if im.initLong j then .error { code := 0x21, reason := 4, job := j.job, ri := j.ri }
    else if s.vacant e then .error { code := 0x22, reason := 5, job := j.job, ri := j.ri }
    else if patch && im.cls j == 1 && !(Assign.on a0 e).isEmpty then .error { code := 0x21, reason := 9, job := j.job, ri := j.ri }
    else if (im.partners 1 j.job).any (fun q => match a.of q with | some x => x != e | none => false) then
      .error { code := 0x22, reason := 6, job := j.job, ri := j.ri }
    else
      let r := im.refuses a e j
      if r ≠ 0 then .error { code := 0x22, reason := r, job := j.job, ri := j.ri }
      else s.assignPinned im patch a0 t (a ++ [(j, e)])

/-- Assign the other jobs in sort order. A job whose kind 1 partners are on two engines has no candidate (Table 9.3). -/
def State.assignRest (s : State) (im : Image) : List JobRec → Assign → Except PRej Assign
  | [], a => .ok a
  | j :: t, a =>
    let kin := (im.partners 1 j.job).filterMap (fun q => (a.of q).map fun e => (q, e))
    let cand := match kin with
      | p :: l => if l.all (fun q => q.2 == p.2) then [p.2] else []
      | [] => (tileOrder j).flatMap fun t => (List.range 6).map (6 * t + ·)
    if im.initLong j then .error { code := 0x21, reason := 4, job := j.job, ri := j.ri }
    else match cand.find? (fun e => !s.vacant e && im.refuses a e j == 0) with
      | some e => s.assignRest im t (a ++ [(j, e)])
      | none =>
        let rs := cand.map fun e => im.refuses a e j
        let reason := if 3 ∈ rs then 3 else if 2 ∈ rs then 2 else 6
        let pin := kin.any fun p => im.jobs.any (fun q => q.job == p.1 && q.pin)
        .error { code := if reason = 6 && pin then 0x22 else 0x21, reason := reason, job := j.job, ri := j.ri }

/-- The slots of an engine's jobs: class T, class S ascending, class U ascending (R224). -/
def Image.slotOrder (im : Image) (js : List JobRec) : List JobRec :=
  js.mergeSort fun a b => decide (im.cls a < im.cls b) || (im.cls a == im.cls b && decide (a.job ≤ b.job))

/-- A placed job's entry. -/
def Image.pjob (im : Image) (paths : List RPath) (j : JobRec) (e slot : Nat) : PJob :=
  let f := jobF j e
  let p := jobP j e
  let x := im.jobX paths j
  { job := j.job, ri := j.ri, cls := im.cls j, engine := e, slot := slot, f := f, p := p, x := x, bound := im.bound j f p x,
    target := j.target, pinned := j.pin }

/-- Bases of shared tables in ascending ID, or the record that no longer fits 32 MB (R235). -/
def Image.tables (im : Image) : Except PRej (List (Nat × Nat)) :=
  let ts := ((im.sec 10).zipIdx.filter (fun (p : Rec × Nat) => u p.1 0 1 == 4)).mergeSort (fun a b => decide (u a.1 2 2 ≤ u b.1 2 2))
  let r := ts.foldl (fun (q : Nat × List (Nat × Nat) × Option Nat) (p : Rec × Nat) =>
    let n := 4096 * u p.1 4 2
    (q.1 + n, q.2.1 ++ [(u p.1 2 2, 0x10000000 + q.1)], if q.2.2.isNone && 0x2000000 < q.1 + n then some p.2 else q.2.2)) (0, [], none)
  match r.2.2 with
  | some i => .error { code := 0x21, reason := 7, job := 0, ri := i, sect := 10 }
  | none => .ok r.2.1

/-- The first job over its target, in placement order. -/
def lateJob (l : List PJob) : Option PJob := l.find? fun j => j.target != 0 && decide (j.target < j.bound)

/-- Placement of a full pricking (R229). Log entry 28 (DEDUCED). -/
def State.placeFull (s : State) (im : Image) : Placement :=
  let paths := s.ringPaths im
  let pinned := (im.jobs.filter (·.pin)).mergeSort (fun a b => decide (a.job ≤ b.job))
  let bad (r : PRej) : Placement := { rej := some r }
  match s.assignPinned im false [] pinned [] with
  | .error r => bad r
  | .ok a =>
    match s.assignRest im (im.sorted paths (im.jobs.filter (fun j => !j.pin))) a with
    | .error r => bad r
    | .ok a =>
      let jobs := a.map fun (p : JobRec × Nat) => im.pjob paths p.1 p.2 ((im.slotOrder (Assign.on a p.2)).findIdx (fun q => q.job == p.1.job))
      match im.initRej, lateJob jobs with
      | some r, _ => bad r
      | none, some j => bad { code := 0x20, reason := 1, job := j.job, ri := j.ri, bound := j.bound, target := j.target }
      | none, none =>
        match im.tables with
        | .error r => bad r
        | .ok ts =>
          let rs := s.routes im
          match rs.find? (fun p => p.2.1 == 3) with
          | some p => bad { code := 0x21, reason := 8, job := 0, ri := p.1, sect := 14 }
          | none => { jobs := jobs, tables := ts, routes := rs, paths := paths, links := s.linksUp }

/-- Placement of a patch's new jobs over the placement in force (R57). cx: the committed pricking with the patch over it. -/
def State.placePatch (s : State) (im cx : Image) : Placement :=
  let old : Assign := s.place.jobs.filterMap fun p => (cx.jobs.find? (fun j => j.job == p.job)).map fun j => (j, p.engine)
  let new := (im.jobs.filter (fun j => !s.place.jobs.any (fun p => p.job == j.job))).mergeSort (fun a b => decide (a.job ≤ b.job))
  match s.assignPinned cx true old new old with
  | .error r => { s.place with rej := some r }
  | .ok _ =>
    let jobs := new.foldl (fun (l : List PJob) j =>
      let e := j.engine
      let slot := ((List.range 8).find? (fun i => !l.any (fun p => p.engine == e && p.slot == i))).getD 0
      l ++ [cx.pjob s.place.paths j e slot]) s.place.jobs
    match im.initRej, lateJob (jobs.drop s.place.jobs.length) with
    | some r, _ => { s.place with rej := some r }
    | none, some j => { s.place with rej := some { code := 0x20, reason := 1, job := j.job, ri := j.ri, bound := j.bound, target := j.target } }
    | none, none => { s.place with jobs := jobs, rej := none }

/-- A re-placement of ring paths and capture routes (R238). -/
def State.replace (s : State) (im : Image) : Placement :=
  let paths := s.ringPaths im
  let redo (p : PJob) : PJob :=
    match im.jobs.find? (fun j => j.job == p.job) with
    | some j => let x := im.jobX paths j; { p with x := x, bound := im.bound j p.f p.p x }
    | none => p
  { s.place with paths := paths, links := s.linksUp, routes := s.routes im, jobs := s.place.jobs.map redo }

/-! ## The record (R242) -/

/-- Jobs whose bound exceeds their target. -/
def Placement.over (p : Placement) : Nat := (p.jobs.filter fun j => j.target != 0 && decide (j.target < j.bound)).length

/-- Put the record of a placement into its registers, for the committed image cx. -/
def State.plwRecord (s : State) (cx : Image) (p : Placement) : State :=
  let js : List JobRec := cx.jobs
  let s := (List.range 384).foldl (fun s n => s.rstFields n [PLW_JINFO_VALID, PLW_JINFO_PINNED, PLW_JINFO_CLASS, PLW_JINFO_SLOT, PLW_JINFO_X,
    PLW_JINFO_FREM, PLW_JINFO_PREM, PLW_JINFO_ENGINE, PLW_JBOUND_PS, PLW_JSLACK_PS]) s
  let s := p.jobs.foldl (fun s j => s.wrs j.job [(PLW_JINFO_VALID, 1), (PLW_JINFO_PINNED, if j.pinned then 1 else 0), (PLW_JINFO_CLASS, j.cls),
    (PLW_JINFO_SLOT, j.slot), (PLW_JINFO_X, j.x), (PLW_JINFO_FREM, if j.f = 4 then 1 else 0), (PLW_JINFO_PREM, if j.p = 5 then 1 else 0),
    (PLW_JINFO_ENGINE, j.engine), (PLW_JBOUND_PS, j.bound), (PLW_JSLACK_PS, if j.target = 0 then 0 else ofS 32 ((j.target : Int) - j.bound))]) s
  let s := (List.range 48).foldl (fun s e =>
    let mine := js.filter fun j => p.jobs.any fun q => q.job == j.job && q.engine == e
    let t := mine.any fun j => cx.cls j == 1
    let util : Rat := (mine.map fun j => ((j.budget + 1 : Nat) : Rat) / (j.period : Rat)).sum
    s.wrs e [(PLW_EINFO_USED, if mine.isEmpty then 0 else 1), (PLW_EINFO_TGT, if t then 1 else 0), (PLW_EINFO_VACANT, if s.vacant e then 1 else 0),
      (PLW_EINFO_NSLOTS, mine.length), (PLW_EINFO_IMAGE, (mine.head?.map (·.image)).getD 0), (PLW_ELOAD_HOLD, cx.hold mine),
      (PLW_ELOAD_W, if t then cx.work mine else 0), (PLW_EUTIL_UTIL, (util * 65536).ceil.toNat)]) s
  let s := { s with regs := s.regs.filter (fun q => q.1 % 1024 != PLW_TBASE_VALUE.key.val) }
  let s := p.tables.foldl (fun s t => s.wr PLW_TBASE_VALUE t.1 t.2) s
  let s := (List.range 256).foldl (fun s i => s.rstFields i [PLW_CROUTE_VALID, PLW_CROUTE_ROUTE, PLW_CROUTE_RATE, PLW_RPATH_VALID,
    PLW_RPATH_NOPATH, PLW_RPATH_PORT, PLW_RPATH_X, PLW_RPATH_SEAT]) s
  let s := p.routes.foldl (fun s r => s.wrs r.1 [(PLW_CROUTE_VALID, 1), (PLW_CROUTE_ROUTE, r.2.1), (PLW_CROUTE_RATE, r.2.2)]) s
  let s := p.paths.foldl (fun s r => s.wrs r.idx [(PLW_RPATH_VALID, 1), (PLW_RPATH_NOPATH, if r.nopath then 1 else 0), (PLW_RPATH_PORT, r.port),
    (PLW_RPATH_X, r.x), (PLW_RPATH_SEAT, r.seat)]) s
  { (s.wr PLW_STAT_OVER 0 p.over) with place := { p with rej := none } }

end Sys2Proof.Machine
end

