-- ==== Sys2Proof/Machine/CapRing.lean ====
section
/-!
DEFINITION. The capture streamer (spec/17): the image of a block, issue into the host ring or out of a Braid port (R398 to R402),
snapshots (R403), forwarding (R404, R405), and the requests of replay (R407, R408).
-/
namespace Sys2Proof.Machine
open F

/-- The 4,096 bytes of a block (R398, Table 17.2). -/
def CapBlock.image (b : CapBlock) : List (BitVec 8) :=
  let v (x : Bool) (n : Nat) : Nat := if x then n else 0
  let h := leBytes 2 0xCB01 ++ leBytes 1 b.kind ++ leBytes 1 (v b.gap 1 + v b.snap 2 + v b.fwd 4 + v b.replayed 8) ++ leBytes 1 b.seat
    ++ leBytes 1 0 ++ leBytes 2 b.stream ++ leBytes 4 b.seq ++ leBytes 4 b.bytes.length ++ leBytes 8 b.dtime ++ leBytes 4 b.dropped
  let p := b.bytes ++ List.replicate (4064 - b.bytes.length) 0
  h ++ leBytes 4 (crc32c (h ++ p)).toNat ++ p

/-- Posted writes of 512 bytes (R400). -/
def State.postWrites (s : State) (addr : Nat) : Nat → List (BitVec 8) → State
  | 0, _ => s
  | n + 1, l => (s.emit (.hostWrite addr (l.take 512))).postWrites (addr + 512) n (l.drop 512)

/-- Blocks tracked (R400). -/
def CapHid.count (c : CapHid) : Nat := c.tracked.length + c.old

/-- Blocks of the ring. -/
def State.ringBlocks (s : State) : Nat := 512 * s.rd CAP_RINGPAGES_VALUE 0

/-- The streamer issues into the host ring now: enabled, not frozen, PF0 may issue, and fewer than 1,024 blocks tracked (R400, R402,
R403, R431). -/
def State.capIssues (s : State) : Bool :=
  s.on CAP_CTL_EN 0 && !s.on CAP_STAT_FROZEN 0 && s.issues 0 && decide (s.cap.count < 1024)

/-- A block that may be issued has no room in the ring in flow mode (R401), or the ring has no block at all. Log entry 63 (DEDUCED). -/
def State.ringFull (s : State) : Bool :=
  s.ringBlocks == 0 || (!s.on CAP_CTL_MODE 0
    && decide (s.ringBlocks ≤ (s.cap.next + 2 ^ 32 - s.rd CAP_RDIDX_VALUE 0) % 2 ^ 32))

/-- The host address of block index b's page, when its table entry is valid (R399). -/
def State.pageAddr (s : State) (b : Nat) : Option Nat :=
  let e := b % s.ringBlocks / 512
  if e < 65536 && s.on CAPPT_LO_V e then some (s.rd CAPPT_LO_ADDR e * 2 ^ 21 + s.rd CAPPT_HI_ADDR e * 2 ^ 32) else none

/-- The freeze of a triggered snapshot once every block before SNAPIDX + POST has been issued (R403). -/
def State.capFreeze (s : State) : State :=
  let d := (s.cap.next + 2 ^ 32 - s.rd CAP_SNAPIDX_VALUE 0) % 2 ^ 32
  if s.on CAP_STAT_TRIGGERED 0 && decide (s.rd CAP_SNAP_POST 0 ≤ d) && decide (d < 2 ^ 31) then s.wr CAP_STAT_FROZEN 0 1 else s

/-- Clearing EN discards what the streams of this ring have staged (R402). -/
def State.capStop (s : State) : State :=
  let s := s.wr CAP_CTL_EN 0 0
  (s.capUsed.foldl (fun s i => if s.rd CAP_S_CFG_ROUTE i = 0 then
    s.setStream i { s.stream i with pay := [], nibs := [], asm := [], full := [], first := none, replayed := false } else s) s).ltrNow

/-- Issue a block at the next index (R399, R400); with an invalid table entry nothing is issued and EN is cleared. ok and lost are what
becomes of the block's source. -/
def State.ringIssue (s : State) (b : CapBlock) (ok lost : State → State) : State :=
  if s.ringFull then
    let s := if s.cap.dropRun then s else ({ s with cap := { s.cap with dropRun := true } }).capFault 0 b.stream
    lost s
  else
    let n := s.cap.next
    let e := n % s.ringBlocks / 512
    let page := if n % 512 = 0 || s.cap.page.isNone then s.pageAddr n else s.cap.page
    match page with
    | none => s.capStop.capFault 1 e
    | some a =>
      let snap := s.on CAP_STAT_TRIGGERED 0 && s.rd CAP_SNAPIDX_VALUE 0 == n
      let s := s.postWrites (a + n % 512 * 4096) 8 ({ b with snap := snap } : CapBlock).image
      let c := s.cap
      (ok { s with cap := { c with next := (n + 1) % 2 ^ 32, tracked := c.tracked ++ [(n, false)], page := some a, dropRun := false } }).capFreeze

/-- A stream's block that has been dropped counts as lost for the stream (R397, R401, R405). -/
def State.loseBlock (s : State) (i : Nat) (b : CapBlock) : State :=
  (s.setStream i { s.stream i with full := (s.stream i).full.drop 1 }).loseItems i (itemsIn b.kind b.bytes.length)

/-- Blocks in flight on port 0 or 1. -/
def CapHid.sent (c : CapHid) (p : Nat) : Nat := if p = 0 then c.sent0 else c.sent1

/-- Change the number of blocks in flight on a port. -/
def State.setSent (s : State) (p n : Nat) : State :=
  { s with cap := if p = 0 then { s.cap with sent0 := n } else { s.cap with sent1 := n } }

/-- A block leaves by a port, which holds at most 512 unacknowledged (R404, R441). -/
def State.portSend (s : State) (p : Nat) (b : CapBlock) : State := (s.emit (.braidBlock p b)).setSent p (s.cap.sent p + 1)

/-- A Braid port is up. -/
def State.portUp (s : State) (p : Nat) : Bool := s.rd B_STAT_STATE p == 2

/-- The oldest full block of stream i is issued: into the host ring, or out of its Braid port, whose full queue drops it (R398, R404,
R405). Nothing while the stream's interval of R397 lasts. -/
def State.blockIssue (s : State) (i : Nat) : State :=
  match (s.stream i).full with
  | [] => s
  | b :: rest =>
    let done (s : State) : State := s.setStream i { s.stream i with full := rest, lastIssue := some s.et }
    let route := s.rd CAP_S_CFG_ROUTE i
    if s.capWaits i then s
    else if route = 0 then
      if s.capIssues then s.ringIssue b done (fun s => s.loseBlock i b) else s
    else if route = 3 || !s.portUp (route - 1) then s
    else if 512 ≤ s.cap.sent (route - 1) then ((s.loseBlock i b).addTo CAP_OWNDROP_COUNT 0 1).capFault 2 i
    else done (s.portSend (route - 1) b)

/-- Some stream of this device has a block for the host ring; those are served before forwarded ones (R405). -/
def State.ownWaits (s : State) : Bool :=
  s.capUsed.any fun i => s.rd CAP_S_CFG_ROUTE i == 0 && !(s.stream i).full.isEmpty && !s.capWaits i

/-- A forwarded block is dropped here (R405). -/
def State.fwdDrop (s : State) (seat : Nat) : State := (s.addTo CAP_FWDDROP_COUNT seat 1).capFault 3 seat

/-- The oldest forwarded block is issued into the host ring. -/
def State.fwdIssue (s : State) : State :=
  match s.cap.fwd with
  | [] => s
  | b :: rest =>
    let done (s : State) : State := { s with cap := { s.cap with fwd := rest } }
    if s.ownWaits || !s.capIssues then s else s.ringIssue b done (fun s => (done s).fwdDrop b.seat)

/-- A block has held items for FLUSH µs and is formed as it stands (R398). -/
def State.flushTimeout (s : State) (i : Nat) : State :=
  let x := s.stream i
  let f := s.rd CAP_CTL_FLUSH 0
  if f = 0 || (x.pay.isEmpty && x.nibs.isEmpty) then s else (s.reach (x.since + usec f)).formBlock i

/-- WRIDX passes the acknowledged blocks at the front; at a multiple of WBINT the device writes it back with CAP_STAT and raises line 12
and the capture vector (R400). -/
def State.wrAdvance : Nat → State → State
  | 0, s => s
  | n + 1, s =>
    match s.cap.tracked with
    | (b, true) :: t =>
      if b ≠ s.rd CAP_WRIDX_VALUE 0 then s
      else
        let w := (b + 1) % 2 ^ 32
        let s := ({ s with cap := { s.cap with tracked := t } }).wr CAP_WRIDX_VALUE 0 w
        let iv := s.rd CAP_WBINT_VALUE 0 % 65536
        let s := if iv ≠ 0 && w % iv = 0 then
            let v (x : Bool) (n : Nat) : Nat := if x then n else 0
            let stat := s.cap.count * 2 ^ 16 + v (s.on CAP_STAT_WERR 0) (2 ^ 15) + v (s.on CAP_STAT_FROZEN 0) 8 + v (s.on CAP_STAT_TRIGGERED 0) 4
              + v (s.on CAP_STAT_ARMED 0) 2 + v (s.on CAP_CTL_EN 0 && !s.on CAP_STAT_FROZEN 0) 1
            let a := s.rd CAP_WBADDR_LO_VALUE 0 / 8 * 8 + s.rd CAP_WBADDR_HI_VALUE 0 * 2 ^ 32
            (({ s with cap := { s.cap with wrote := s.et + 1 } }).emit (.hostWrite a (leBytes 4 w ++ leBytes 4 stat))).vecPulse 0 17
          else s
        wrAdvance n s
    | _ => s

/-- Every write of block b has been acknowledged (R400). -/
def State.blockAck (s : State) (b : Nat) : State :=
  let c := s.cap
  if c.tracked.any (fun p => p.1 == b) then
    State.wrAdvance 1024 { s with cap := { c with tracked := c.tracked.map fun (p : Nat × Bool) => if p.1 = b then (b, true) else p } }
  else if 0 < c.old then { s with cap := { c with old := c.old - 1 } }
  else s

/-- The tracked blocks are lost with the link (R400, R427). -/
def State.loseTracked (s : State) : State :=
  let n := s.cap.count
  if n = 0 then s
  else (({ s with cap := { s.cap with tracked := [], old := 0 } }).addTo CAP_OWNDROP_COUNT 0 n).capFault 2 0

/-- A write of CAP_RDIDX (R401). -/
def State.rdidxWrite (s : State) (v : Nat) : State :=
  let r := s.rd CAP_RDIDX_VALUE 0
  let d (a : Nat) : Nat := (a % 2 ^ 32 + 2 ^ 32 - r) % 2 ^ 32
  if d (s.rd CAP_WRIDX_VALUE 0) < d v then s.raise CAP_STAT_WERR 0 1 else s.wr CAP_RDIDX_VALUE 0 v

/-- The next block of every stream carries GAP. -/
def State.gapAll (s : State) : State := s.capUsed.foldl (fun s i => s.setStream i { s.stream i with gap := true }) s

/-- Setting EN restarts the count (R402). -/
def State.capStart (s : State) : State :=
  let c := s.cap
  (({ s with cap := { c with next := 0, old := c.count, tracked := [], page := none, dropRun := false } }).wrs 0
    [(CAP_CTL_EN, 1), (CAP_WRIDX_VALUE, 0), (CAP_RDIDX_VALUE, 0)]).gapAll.ltrNow

/-- THAW (R403). -/
def State.thaw (s : State) : State := (s.wrs 0 [(CAP_STAT_FROZEN, 0), (CAP_STAT_TRIGGERED, 0)]).gapAll

/-- A write of CAP_CTL: FLUSH, MODE, which EN locks, EN and THAW (R402, R403). -/
def State.capCtl (s : State) (w : Nat) : State :=
  let en := s.on CAP_CTL_EN 0
  let s := s.wr CAP_CTL_FLUSH 0 (bits w 31 16)
  let s := if bits w 1 1 = s.rd CAP_CTL_MODE 0 then s else if en then s.raise CAP_STAT_WERR 0 1 else s.wr CAP_CTL_MODE 0 (bits w 1 1)
  let s := if bit w 0 = en then s else if bit w 0 then s.capStart else s.capStop
  if bit w 2 then s.thaw else s

/-- A register that EN locks (R402). -/
def State.capLocked (s : State) (f : Field) (w : Nat) : State := if s.on CAP_CTL_EN 0 then s.raise CAP_STAT_WERR 0 1 else s.wr f 0 w

/-- A write of CAP_SNAP: POST, and ARM (R403). -/
def State.snapWrite (s : State) (w : Nat) : State :=
  let s := (s.wr CAP_SNAP_POST 0 (bits w 24 0)).capFreeze
  if bit w 31 then s.wr CAP_STAT_ARMED 0 1 else s

/-- An event reaches the snapshot trigger (R403). -/
def State.snapTrigger (s : State) : State :=
  if !s.on CAP_STAT_ARMED 0 then s
  else (s.wrs 0 [(CAP_STAT_ARMED, 0), (CAP_STAT_TRIGGERED, 1), (CAP_SNAPIDX_VALUE, s.cap.next), (CAP_SNAPTIME_LO_VALUE, s.tick),
    (CAP_SNAPTIME_HI_VALUE, s.tick / 2 ^ 32)]).capFreeze

/-- A capture block of another seat arrives by a port (R404, R405): written here when this seat has a host link up, else passed on in the
same direction. -/
def State.fwdArrive (s : State) (p : Nat) (b : CapBlock) : State :=
  if s.linkUp then
    if !s.on CAP_CTL_EN 0 || s.on CAP_STAT_FROZEN 0 || 512 ≤ s.cap.fwd.length then s.fwdDrop b.seat
    else { s with cap := { s.cap with fwd := s.cap.fwd ++ [{ b with fwd := true }] } }
  else if !s.portUp (1 - p) || 512 ≤ s.cap.sent (1 - p) then s.fwdDrop b.seat
  else s.portSend (1 - p) b

/-- The routes of a placement come into force for the streams (R236, R238, R406): a stream that has none stops. -/
def State.applyRoutes (s : State) (routes : List (Nat × Nat × Nat)) : State :=
  routes.foldl (fun s r =>
    let i := r.1
    let was := s.rd CAP_S_CFG_ROUTE i
    let s := (s.wr CAP_S_CFG_ROUTE i r.2.1).wrb CAP_S_STAT_STOPPED i (r.2.1 == 3)
    if r.2.1 = 3 && was ≠ 3 then
      let x := s.stream i
      let n := itemsIn (s.rd CAP_S_CFG_KIND i) x.pay.length + x.nibs.length
      let s := s.setStream i { x with pay := [], nibs := [], asm := [], first := none }
      (if n = 0 then s else s.loseItems i n).capFault 4 i
    else if was = 3 && r.2.1 ≠ 3 then s.setStream i { s.stream i with gap := true }
    else s) s

/-! ## Replay requests -/

/-- A leg of MOD n is not in SAFE (R408). -/
def State.replayLegs (s : State) (n : Nat) : Bool :=
  let jobs := match s.committed with | some im => im.jobs | none => []
  let m := jobs.foldl (fun m j => if j.input = n || (j.trig = 1 && j.src = n) then m ||| j.legs else m) 0
  let lanes := (s.lanesOn.filter fun l => s.rd LE_RAW_CFG_MOD l == n).map fun l => s.rd LE_RAW_CFG_LEG l
  (List.range 48).any fun k => (bit m k || k ∈ lanes) && (s.leg k).st != .safe

/-- The reason for which a replay request of a stream is refused, 0 if it is not: the lowest that holds (R408). Log entry 65 (DEDUCED). -/
def State.replayReason (s : State) (i : Nat) (on : Bool) : Nat :=
  let n := s.rd CAP_S_CFG_SOURCE i
  if s.replayLegs n then 1
  else if on && s.rd CAP_S_RPSIZE_VALUE i == 0 then 2
  else if (s.mtile (n / 8)).has n then 3
  else if s.rd PRK_STATE_OP 0 == 3 then 4
  else if s.rd CAP_S_CFG_KIND i != 5 then 5
  else 0

/-- RPON and RPOFF (R408, R409). -/
def State.replayRequest (s : State) (i : Nat) (on : Bool) : State :=
  let r := s.replayReason i on
  if r ≠ 0 then (s.wr CAP_S_STAT_RPERR i r).capFault 6 i
  else if on then (if s.on CAP_S_STAT_RPACT i then s else s.wr CAP_S_STAT_RPPEND i 1)
  else if s.on CAP_S_STAT_RPACT i then s.setStream i { s.stream i with offPend := true }
  else s.wr CAP_S_STAT_RPPEND i 0

/-- A write of RPWR (R407). -/
def State.rpwrWrite (s : State) (i v : Nat) : State :=
  let rd := s.rd CAP_S_RPRD_VALUE i
  let fill (a : Nat) : Nat := (a % 2 ^ 32 + 2 ^ 32 - rd) % 2 ^ 32
  if fill v < fill (s.rd CAP_S_RPWR_VALUE i) || s.rd CAP_S_RPSIZE_VALUE i < fill v then s.raise CAP_S_STAT_RPWERR i 1
  else s.wr CAP_S_RPWR_VALUE i v

end Sys2Proof.Machine
end

