-- ==== Sys2Proof/Machine/Float32.lean ====
section
/-!
DEFINITION. FP32 arithmetic of the cores (R309): IEEE 754 binary32 on bit patterns. Each operation answers its result and the FCSR
flags it sets, as bits NV 8, DZ 7, OF 6, UF 5, NX 4.
-/
namespace Sys2Proof.Machine

/-- The canonical quiet NaN. -/
def fpNaN : Nat := 0x7FC00000

def fpSign (w : Nat) : Bool := bit w 31
def fpIsNaN (w : Nat) : Bool := bits w 30 23 == 255 && bits w 22 0 != 0
def fpIsSNaN (w : Nat) : Bool := fpIsNaN w && !bit w 22
def fpIsInf (w : Nat) : Bool := bits w 30 23 == 255 && bits w 22 0 == 0
def fpIsZero (w : Nat) : Bool := w % 2 ^ 31 == 0

/-- Significand and exponent of a finite value: it is m · 2^e. -/
def fpMan (w : Nat) : Nat := if bits w 30 23 = 0 then bits w 22 0 else 2 ^ 23 + bits w 22 0
def fpExp (w : Nat) : Int := (max 1 (bits w 30 23) : Nat) - 150

/-- The significand with its sign. -/
def fpInt (w : Nat) : Int := if fpSign w then -(fpMan w : Int) else fpMan w

def fpPack (neg : Bool) (b : Nat) : Nat := (if neg then 2 ^ 31 else 0) + b

/-- Whether a discarded part rounds the magnitude up: rm 0 nearest even, 1 toward zero, 2 toward −∞, 3 toward +∞. -/
def roundsUp (rm : Nat) (neg : Bool) (q rem half : Nat) : Bool :=
  if rem = 0 then false
  else if rm = 0 then decide (half < rem) || (rem == half && q % 2 == 1)
  else if rm = 1 then false
  else if rm = 2 then neg else !neg

/-- A magnitude cut at 2^shift and rounded: the quotient and whether it is inexact. -/
def roundAt (rm : Nat) (neg : Bool) (n shift : Nat) : Nat × Bool :=
  let q := n / 2 ^ shift
  let r := n % 2 ^ shift
  (q + (if roundsUp rm neg q r (2 ^ shift / 2) then 1 else 0), r != 0)

/-- Round the exact value ±n · 2^e to binary32, with the flags OF, UF and NX. -/
def fpRound (rm : Nat) (neg : Bool) (n : Nat) (e : Int) : Nat × Nat :=
  if n = 0 then (fpPack neg 0, 0)
  else
    let l : Int := (Nat.log2 n : Nat) + 1
    let q : Int := max (e + l - 24) (-149)
    let sh := q - e
    let r : Nat × Bool := if sh ≤ 0 then (n * 2 ^ (-sh).toNat, false) else roundAt rm neg n sh.toNat
    let m := if r.1 = 2 ^ 24 then 2 ^ 23 else r.1
    let q' := if r.1 = 2 ^ 24 then q + 1 else q
    let free : Nat := if e + l - 24 ≤ e then n else (roundAt rm neg n (l - 24).toNat).1
    let before := decide (e + l - 1 < -126)
    let after := before && !(e + l - 1 = -127 && decide (24 < l) && free == 2 ^ 24)
    let tiny := if Config.tinyAfter then after else before
    if 105 ≤ q' && 2 ^ 23 ≤ m then
      let big := rm = 0 || (rm = 2 && neg) || (rm = 3 && !neg)
      (fpPack neg (if big then 0x7F800000 else 0x7F7FFFFF), 2 ^ 6 + 2 ^ 4)
    else
      let b := if m < 2 ^ 23 then m else (q' + 150).toNat * 2 ^ 23 + (m - 2 ^ 23)
      (fpPack neg b, (if tiny && r.2 then 2 ^ 5 else 0) + (if r.2 then 2 ^ 4 else 0))

/-- Round an exact signed value x · 2^e; an exact zero takes the sign given. -/
def fpRoundS (rm : Nat) (zneg : Bool) (x e : Int) : Nat × Nat :=
  if x = 0 then (fpPack zneg 0, 0) else fpRound rm (decide (x < 0)) x.natAbs e

/-- Invalid operation. -/
def fpInvalid : Nat × Nat := (fpNaN, 2 ^ 8)

/-- A NaN result from NaN operands; NV for a signalling one. -/
def fpNaNOf (ws : List Nat) : Nat × Nat := (fpNaN, if ws.any fpIsSNaN then 2 ^ 8 else 0)

/-- The exact sum of x · 2^e and y · 2^f, rounded; zneg is the sign of a sum that is zero. -/
def fpSum (rm : Nat) (zneg : Bool) (x e y f : Int) : Nat × Nat :=
  let g := min e f
  fpRoundS rm zneg (x * 2 ^ (e - g).toNat + y * 2 ^ (f - g).toNat) g

/-- The sign of an exact zero sum. -/
def zeroSign (rm : Nat) (a b : Bool) : Bool := if a = b then a else rm == 2

def fpAdd (rm a b : Nat) : Nat × Nat :=
  if fpIsNaN a || fpIsNaN b then fpNaNOf [a, b]
  else if fpIsInf a && fpIsInf b then (if fpSign a = fpSign b then (a, 0) else fpInvalid)
  else if fpIsInf a then (a, 0)
  else if fpIsInf b then (b, 0)
  else fpSum rm (if fpIsZero a && fpIsZero b then zeroSign rm (fpSign a) (fpSign b) else rm == 2) (fpInt a) (fpExp a) (fpInt b) (fpExp b)

/-- The other sign; a NaN stays what it is. -/
def fpNeg (w : Nat) : Nat := if fpIsNaN w then w else if fpSign w then w - 2 ^ 31 else w + 2 ^ 31

def fpSub (rm a b : Nat) : Nat × Nat := fpAdd rm a (fpNeg b)

def fpMul (rm a b : Nat) : Nat × Nat :=
  let neg := fpSign a != fpSign b
  if fpIsNaN a || fpIsNaN b then fpNaNOf [a, b]
  else if (fpIsInf a && fpIsZero b) || (fpIsZero a && fpIsInf b) then fpInvalid
  else if fpIsInf a || fpIsInf b then (fpPack neg 0x7F800000, 0)
  else fpRound rm neg (fpMan a * fpMan b) (fpExp a + fpExp b)

def fpDiv (rm a b : Nat) : Nat × Nat :=
  let neg := fpSign a != fpSign b
  if fpIsNaN a || fpIsNaN b then fpNaNOf [a, b]
  else if (fpIsInf a && fpIsInf b) || (fpIsZero a && fpIsZero b) then fpInvalid
  else if fpIsInf a then (fpPack neg 0x7F800000, 0)
  else if fpIsInf b || fpIsZero a then (fpPack neg 0, 0)
  else if fpIsZero b then (fpPack neg 0x7F800000, 2 ^ 7)
  else
    let n := fpMan a * 2 ^ 64
    let q := n / fpMan b
    fpRound rm neg (2 * q + (if n % fpMan b = 0 then 0 else 1)) (fpExp a - fpExp b - 65)

/-- The integer square root, bit by bit from bit k down. -/
def isqrt : Nat → Nat → Nat → Nat
  | 0, n, r => if (r + 1) * (r + 1) ≤ n then r + 1 else r
  | k + 1, n, r =>
    let t := r + 2 ^ (k + 1)
    isqrt k n (if t * t ≤ n then t else r)

def fpSqrt (rm a : Nat) : Nat × Nat :=
  if fpIsNaN a then fpNaNOf [a]
  else if fpIsZero a then (a, 0)
  else if fpSign a then fpInvalid
  else if fpIsInf a then (a, 0)
  else
    let odd := fpExp a % 2 != 0
    let m := if odd then 2 * fpMan a else fpMan a
    let e := if odd then fpExp a - 1 else fpExp a
    let n := m * 2 ^ 64
    let q := isqrt 45 n 0
    fpRound rm false (2 * q + (if q * q = n then 0 else 1)) (e / 2 - 33)

/-- d + a · b with one rounding. -/
def fpMadd (rm d a b : Nat) : Nat × Nat :=
  let neg := fpSign a != fpSign b
  let bad := (fpIsInf a && fpIsZero b) || (fpIsZero a && fpIsInf b)
  if fpIsNaN a || fpIsNaN b then fpNaNOf [d, a, b]
  else if fpIsNaN d then (let r := fpNaNOf [d]; (r.1, if bad && Config.fmaInvalid then 2 ^ 8 else r.2))
  else if bad then fpInvalid
  else if fpIsInf a || fpIsInf b then
    (if fpIsInf d && fpSign d != neg then fpInvalid else (fpPack neg 0x7F800000, 0))
  else if fpIsInf d then (d, 0)
  else
    let p : Int := if neg then -((fpMan a * fpMan b : Nat) : Int) else ((fpMan a * fpMan b : Nat) : Int)
    let z := if fpIsZero d && (fpIsZero a || fpIsZero b) then zeroSign rm (fpSign d) neg else rm == 2
    fpSum rm z (fpInt d) (fpExp d) p (fpExp a + fpExp b)

/-- a < b for values that are not NaNs, with −0 below +0 where strict is set. -/
def fpBelow (strict : Bool) (a b : Nat) : Bool :=
  if fpIsZero a && fpIsZero b then strict && fpSign a && !fpSign b
  else if fpSign a != fpSign b then fpSign a
  else if fpSign a then decide (b < a) else decide (a < b)

def fpMinMax (mx : Bool) (a b : Nat) : Nat × Nat :=
  let fl := if fpIsSNaN a || fpIsSNaN b then 2 ^ 8 else 0
  if fpIsNaN a && fpIsNaN b then (fpNaN, fl)
  else if fpIsNaN a then (b, fl)
  else if fpIsNaN b then (a, fl)
  else (if fpBelow true a b != mx then a else b, fl)

def fpEq (a b : Nat) : Nat × Nat :=
  if fpIsNaN a || fpIsNaN b then (0, if fpIsSNaN a || fpIsSNaN b then 2 ^ 8 else 0)
  else (if a = b || (fpIsZero a && fpIsZero b) then 1 else 0, 0)

def fpLt (a b : Nat) : Nat × Nat :=
  if fpIsNaN a || fpIsNaN b then (0, 2 ^ 8) else (if fpBelow false a b then 1 else 0, 0)

def fpLe (a b : Nat) : Nat × Nat :=
  if fpIsNaN a || fpIsNaN b then (0, 2 ^ 8) else (if fpBelow false b a then 0 else 1, 0)

/-- Conversion to an integer between two limits (R309): out of range saturates, a NaN gives the upper limit; both set NV. -/
def fpToInt (rm a : Nat) (lo hi : Int) : Nat × Nat :=
  if fpIsNaN a then (ofS 32 hi, 2 ^ 8)
  else if fpIsInf a then (ofS 32 (if fpSign a then lo else hi), 2 ^ 8)
  else
    let e := fpExp a
    let r : Nat × Bool := if 0 ≤ e then (fpMan a * 2 ^ e.toNat, false) else roundAt rm (fpSign a) (fpMan a) (-e).toNat
    let x : Int := if fpSign a then -(r.1 : Int) else (r.1 : Int)
    if x < lo then (ofS 32 lo, 2 ^ 8)
    else if hi < x then (ofS 32 hi, 2 ^ 8)
    else (ofS 32 x, if r.2 then 2 ^ 4 else 0)

def fpToS (rm a : Nat) : Nat × Nat := fpToInt rm a (-(2 ^ 31)) (2 ^ 31 - 1)
def fpToU (rm a : Nat) : Nat × Nat := fpToInt rm a 0 (2 ^ 32 - 1)
def fpOfS (rm a : Nat) : Nat × Nat := fpRoundS rm false (toS 32 a) 0
def fpOfU (rm a : Nat) : Nat × Nat := fpRoundS rm false ((a % 2 ^ 32 : Nat) : Int) 0

end Sys2Proof.Machine
end

