-- ==== Sys2Proof/Machine/CorePipe.lean ====
section
/-!
DEFINITION. The core pipeline apart from what each instruction does: prefixes and length (R301 to R303), the fetch checks, the
scoreboard (R331), retirement with the load slot (R306) and the loop end (R311), host-window loads (R421), and interrupts (R333 to R336).
-/
namespace Sys2Proof.Machine
open F

/-- What the prefixes of an instruction say (Table 13.1). -/
structure Pre where
  wr : Option Nat := none
  wide : Bool := false
  probe : Bool := false
  deriving DecidableEq, Repr

/-- What a base accepts and how long it is (Tables 13.1, 13.2): opcode, length, length under 0xE8, and whether a warrant prefix, 0xE8 and
0xE9 are accepted. -/
structure Base where
  op : Nat
  len : Nat
  wlen : Nat
  aw : Bool := false
  a8 : Bool := false
  a9 : Bool := false
  deriving DecidableEq, Repr

/-- Read the prefixes of a base, a byte 0xE0 + p each: what they say, or the offset of the first that R302 forbids. -/
def scanPre (b : Base) : Nat → Pre → List (Fin 16) → Except Nat Pre
  | _, x, [] => .ok x
  | i, x, p :: t =>
    if 3 ≤ i then .error i
    else if p.val < 8 then (if x.wr.isSome || !b.aw then .error i else scanPre b (i + 1) { x with wr := some p.val } t)
    else if p.val = 8 then (if x.wide || !b.a8 then .error i else scanPre b (i + 1) { x with wide := true } t)
    else if p.val = 9 then (if x.probe || !b.a9 then .error i else scanPre b (i + 1) { x with probe := true } t)
    else .error i

/-- An instruction in issue: its length, prefixes, first issue cycle, and the cycle at which the instruction before it ended. -/
structure Iss where
  len : Nat
  pre : Pre
  n : Nat
  prev : Nat
  deriving DecidableEq, Repr

/-- The warrant register of a data access (R307). -/
def Iss.wr (i : Iss) : Nat := i.pre.wr.getD 0

/-- The cores' clock runs: the core PLL has not lost lock (R476), and the cluster is in Run (Table 20.4). -/
def State.coreClock (s : State) : Bool := !s.kpllOut && s.rd PWR_STAT_CLUSTER 0 == 0

/-- The first cycle in which registers are ready (R331). -/
def Core.readyAt (k : Core) (from_ : Nat) (rs : List Nat) : Nat := rs.foldl (fun n r => max n (mget k.ready 0 r)) from_

/-- The destination of the load whose slot comes next; the slot instruction never waits for it (R306). -/
def Core.slotDest (k : Core) : Nat := match k.pload with | some p => p.d | none => 32 + 99

/-- An exception of the instruction in issue cycle n, with the saved PC of Table 14.4. -/
def State.raiseAt (s : State) (c n : Nat) (x : Exc) (saved : Nat) : State :=
  (s.setCore c { s.core c with free := n }).coreRaise c x saved

/-- A raised exception whose saved PC is the instruction. -/
def State.fault (s : State) (c : Nat) (i : Iss) (x : Exc) : State := s.raiseAt c i.n x (s.core c).arch.pc

/-- ILLEGAL of a KIND, for a byte at an offset of the instruction (Tables 14.5, 14.6). -/
def illegal (kind byte ofs : Nat) : Exc := { code := 1, kind := kind, info := ofs * 256 + byte % 256 }

/-- The checks of an instruction fetch at pc: the execute right of wr7 (R307, R352), TCM (R301), and its codewords (Table 22.2), which an
instruction of the loop buffer does not read again (R325). -/
def State.fetchBad (s : State) (c len : Nat) : Option Exc :=
  let a := (s.core c).arch
  let w := (a.wreg 7).check 1 4 [(a.pc, a.pc + len - 1)]
  if w ≠ 0 then some { code := 4, kind := w, info := a.pc, fetch := true, wr := 7 }
  else if 2 ^ 18 < a.pc + len then some { code := 3, kind := 4, info := a.pc, fetch := true, wr := 7 }
  else if ((s.core c).looped a.pc).isNone && (List.range 2).any (fun j => (0, c, (a.pc + j * (len - 1)) / 16) ∈ s.badCw) then
    some { code := 3, kind := 0, info := a.pc, fetch := true, wr := 7 }
  else none

/-- A core that is running and not waiting can issue. -/
def State.canIssue (s : State) (c : Nat) : Bool :=
  s.coreOk c && (s.core c).st == 1 && (s.core c).wait == .none && s.coreClock

/-- An enabled breakpoint stands at the core's pc and is not passed over (R512). -/
def State.bpHit (s : State) (c : Nat) : Bool :=
  let k := s.core c
  !k.skipBp && (List.range 4).any fun j => s.on DBG_C_BP_EN (4 * c + j) && s.rd DBG_C_BP_ADDR (4 * c + j) == k.arch.pc

/-- A core halts, with its CAUSE (R510 to R512); a wait ends as an interrupt ends it. -/
def State.coreHalt (s : State) (c cause : Nat) : State :=
  let k := s.core c
  (s.setCore c { k with st := 4, haltReq := false, stepping := false, wait := .none, ilen := 0, haltAt := max k.free (cycAt s.et) }).wr DBG_C_STAT_CAUSE c cause

/-- The boundary at which a core stands permits a halt (R510). -/
def State.haltOk (s : State) (c : Nat) : Bool :=
  let k := s.core c
  s.coreOk c && k.st == 1 && k.pload.isNone && !k.fresh && (match k.wait with | .host _ => false | _ => true)

/-- A halt asked for is due at the boundary where the core stands. -/
def State.haltNow (s : State) (c : Nat) : Bool :=
  (s.core c).haltReq && s.haltOk c && decide ((s.core c).haltFrom ≤ max (s.core c).free (cycAt s.et))

/-- Issue an instruction (R301 to R303, R331): fetch checks, prefixes, reserved fields, then its body in the first cycle in which what it
reads, writes and needs is ready. resv: the first byte, by its offset after the opcode, that holds a nonzero reserved field, with its
value. Scoreboard keys: 0 to 31 the general registers, 32 FCSR, 33 the divider, 34 FP divide and square root. Log entry 51 (DEDUCED). Log entry 52 (DESIGN CHOICE). -/
def State.issue (s : State) (c : Nat) (pre : List (Fin 16)) (b : Base) (resv : Option (Nat × Nat)) (uses : List Nat)
    (body : State → Iss → State) : State :=
  if !s.canIssue c then s
  else if s.haltNow c then s.coreHalt c 1
  else if s.bpHit c then s.coreHalt c 3
  else
    let k := s.core c
    let wide := (8 : Fin 16) ∈ pre && b.a8
    let len := min pre.length 4 + (if wide then b.wlen else b.len)
    let n0 := max k.free (cycAt s.et)
    match s.fetchBad c (min 15 len) with
    | some x => (s.reach (cycTime n0)).raiseAt c n0 x k.arch.pc
    | none =>
      match scanPre b 0 {} pre with
      | .error i => (s.reach (cycTime n0)).raiseAt c n0 (illegal 1 (0xE0 + (pre.getD i 0).val) i) k.arch.pc
      | .ok p =>
        match resv with
        | some (o, v) => (s.reach (cycTime n0)).raiseAt c n0 (illegal 3 v (pre.length + o)) k.arch.pc
        | none =>
          let n := k.readyAt n0 (uses.filter (fun r => decide (r ≠ 0) && decide (r ≠ k.slotDest)))
          body ((s.reach (cycTime n)).setCore c { k with ilen := len }) ⟨len, p, n, k.free⟩

/-- Core c when an instruction has completed after count cycles (R306, R311, R340): the load whose slot it was lands, its own load is armed, a loop ends
after an instruction at LEND that is no control transfer, and execution goes on at target or after it. The fetch buffer is filled afresh where the
next address does not follow (R322, R327). -/
def State.afterInstr (s : State) (c : Nat) (i : Iss) (count : Nat) (target : Option Nat) (load : Option (Nat × Nat)) : Core :=
  let k := s.core c
  let a := k.arch
  let pc0 := a.pc
  let n0 := a.lcount
  let ends := target.isNone && pc0 == a.lend && n0 != 0
  let again := ends && decide (1 < n0)
  let b := match k.pload with | some p => a.setReg p.d p.val | none => a
  let pl := load.map fun (p : Nat × Nat) => (⟨p.1, p.2, b.reg p.1⟩ : PLoad)
  let pc := match target with | some t => t % 2 ^ 32 | none => if again then a.lstart else (pc0 + i.len) % 2 ^ 32
  let e := i.n + count
  let a : CArch := { a with gr := b.gr, pc := pc, lcount := if ends then n0 - 1 else n0, hold := a.hold - (e - if a.holdNew then i.n else i.prev), holdNew := false }
  let l := k.loopStep pc0 pc (s.codeAt c pc0 i.len) target.isSome ends n0
  { k with lphase := l.lphase, lbuf := l.lbuf, ilen := 0, stale := if target.isSome || again then [] else k.stale.filter (fun p => decide (pc ≤ p.1)),
           arch := a, pload := pl, free := e, instret := k.instret + 1, fresh := false, skipBp := false, wait := .none }

/-- An instruction completes, and the trace takes note of a target or of a loop end that goes back (Table 23.3). typ: the trace record of a target, 0 for a
branch at LEND that is not taken. -/
def State.retire (s : State) (c : Nat) (i : Iss) (count : Nat) (target : Option Nat) (load : Option (Nat × Nat))
    (typ : Nat := 2) : State :=
  let a := (s.core c).arch
  let t := s.setCore c (s.afterInstr c i count target load)
  match target with
  | some p => if typ = 0 then t else t.trace c (p % 2 ^ 32) typ 0
  | none => if a.pc = a.lend && 1 < a.lcount then t.trace c a.lstart 5 0 else t

/-- A result that is ready in a cycle (R305, R331). -/
def State.readyIn (s : State) (c r n : Nat) : State :=
  let k := s.core c
  if r = 0 then s else s.setCore c { k with ready := mset k.ready 0 r n }

/-- Write a general register with its result ready in cycle n. -/
def State.setGr (s : State) (c r v n : Nat) : State := (s.modArch c (fun a => a.setReg r v)).readyIn c r n

/-- The value of a general register. -/
def State.gr (s : State) (c r : Nat) : Nat := (s.core c).arch.reg r

/-- Extension of a loaded value by the load's opcode (Table 13.4). -/
def loadExt (op v : Nat) : Nat := if op = 0x30 then ofS 32 (toS 8 v) else if op = 0x32 then ofS 32 (toS 16 v) else v

/-- A load's access ended: its value is armed for the end of the slot instruction; a bus error raises BUSERR, or under a probe writes 0
and sets PF (R306, R307). count is the load's count with the cost of its region. -/
def State.loadEnd (s : State) (c : Nat) (i : Iss) (op d addr count : Nat) (r : Except Nat Nat) : State :=
  match r with
  | .ok v => ((s.retire c i count none (some (d, loadExt op v))).readyIn c d (i.n + count + 1))
  | .error kind =>
    if i.pre.probe then (s.modArch c (fun a => { a with pf := true })).retire c i count none (some (d, 0))
    else s.fault c i { code := 3, kind := kind, info := addr, wr := i.wr }

/-- The completion of a core's host-window load: its data, or an error (R421). -/
def State.hostDone (s : State) (c : Nat) (r : Except Nat Nat) : State :=
  let k := s.core c
  match k.wait with
  | .host l =>
    let i : Iss := ⟨l.len, ⟨some l.wr, false, l.probe⟩, l.n, k.free⟩
    let e := max (l.n + 2) (cycAt s.et)
    (s.setCore c { k with wait := .none }).loadEnd c i l.op l.d l.addr (e - l.n) r
  | _ => s

/-! ## Interrupts -/

/-- A device line as the cores see it; a write-back of the streamer is a pulse of one FAB cycle on line 12 (R334, R400). -/
def State.coreLine (s : State) (l : Nat) : Bool := s.line l || (l == 12 && s.cap.wrote != 0 && decide (s.et < s.cap.wrote + 64))

/-- The lowest enabled request of a core, by its ECAUSE code (R333, R335). -/
def State.irq (s : State) (c : Nat) : Option Nat :=
  match (List.range 16).find? (fun l => bit (s.rd CP_IEN_LINE c) l && s.coreLine l) with
  | some l => some (0x80 + l)
  | none => ((List.range 8).find? fun j => bit (s.rd CP_IEN_EVIN c) j && mget (s.core c).ev 0 j != 0).map (0x90 + ·)

/-- The boundary at which the core stands permits an interrupt (R335, R341); a core that waits in WFE or WAITT can be interrupted
(R336). -/
def State.irqOk (s : State) (c : Nat) : Bool :=
  let k := s.core c
  s.coreOk c && k.st == 1 && k.pload.isNone && !k.fresh && k.arch.hold == 0 && s.coreClock &&
    (match k.wait with | .host _ => false | _ => true)

/-- A pending interrupt is taken (R335, R337). -/
def State.irqEntry (s : State) (c : Nat) : State :=
  match s.irq c with
  | none => s
  | some code =>
    if !s.irqOk c then s
    else
      let k := s.core c
      let n := max k.free (cycAt s.et)
      ((s.reach (cycTime n)).setCore c { k with free := n }).coreEntry c { code := code } k.arch.pc false none

/-- HOLDLEFT reaches 0 (R340, R341): it counts from the issue of the first instruction of the window, which may be one that waits. -/
def State.holdEnd (s : State) (c : Nat) : State :=
  let k := s.core c
  let start := if k.arch.holdNew then
      (match k.wait with | .wfe _ _ _ n => some n | .waitt _ _ n => some n | .host l => some l.n | .none => none) else some k.free
  match start with
  | none => s
  | some n => if k.arch.hold = 0 then s else (s.reach (cycTime (n + k.arch.hold))).modArch c fun a => { a with hold := 0, holdNew := false }

end Sys2Proof.Machine
end

