-- ==== Sys2Proof/Machine/Pcie.lean ====
section
/-!
DEFINITION. The PCI Express host interface (spec/18): faults, link state, the configuration space that the chapter incorporates (offsets
and bit places from the PCI Express Base Specification it names, log entry 21), MSI-X, intent doorbells, function and link resets.
-/
namespace Sys2Proof.Machine
open F

/-- A PCIe fault 0xE1 + b of a function (R430). -/
def State.pcieFault (s : State) (b fn : Nat) : State :=
  (s.wrs 0 [(PCIE_FINFO_CODE, 0xE1 + b), (PCIE_FINFO_FN, fn)]).setFlag 21 PCIE_FAULT_FLAGS 0 b

/-- The identity in force: the committed section 0x0F, or the defaults (R413, R414). -/
def State.identNow (s : State) : List Nat := (s.committed.getD {}).ident

/-- TotalVFs now. -/
def State.totalVfs (s : State) : Nat := s.identNow.getD 3 0

/-- Function f exists: PF0, PF1, or a VF that VF Enable and NumVFs give (R416). -/
def State.fnExists (s : State) (f : Nat) : Bool :=
  f < 2 || (f < 64 && bit ((s.fn 1).word 0x288) 0 && decide (f - 1 ≤ min ((s.fn 1).word 0x290 % 65536) s.totalVfs))

/-! ## Ring and host-link state -/

/-- Tell the other seats that a ring link or a host link has come up or gone down (R238, R446). -/
def State.ringTell (s : State) (host : Bool) (link : Nat) (up : Bool) : State :=
  [0, 1].foldl (fun s p => if s.portUp p then s.emit (.braidLink p host link up) else s) s

/-- A set of seats or links with one in or out. -/
def withLink (l : List Nat) (x : Nat) (up : Bool) : List Nat :=
  let l := l.filter (· ≠ x)
  if up then l ++ [x] else l

/-- The host link of this seat comes up, goes down or changes (R238). -/
def State.hostLink (s : State) (up : Bool) : State :=
  (({ s with hostSeats := withLink s.hostSeats s.seat up }).ringTell true s.seat up).plwAsk 5

/-! ## MSI-X -/

/-- The level of an AER source: an unmasked logged error (R422, R429). -/
def PcieFn.aer (x : PcieFn) : Bool :=
  (x.word 0x104 &&& (2 ^ 32 - 1 - x.word 0x108)) != 0 || (x.word 0x110 &&& (2 ^ 32 - 1 - x.word 0x114)) != 0

/-- The AER vector of a physical function. -/
def aerVec (f : Nat) : Nat := if f = 0 then 30 else 8

/-- The level behind a vector of function f (R422). -/
def State.vecLevel (s : State) (f v : Nat) : Bool := if f < 2 && v = aerVec f then (s.fn f).aer else f == 0 && s.vec v

/-- Send what has become unmasked (R423). -/
def State.msixFlush (s : State) (f : Nat) : State :=
  let x := s.fn f
  let go := x.pend.filter x.open
  let s := s.setFn f { x with pend := x.pend.filter (fun v => !x.open v), pulse := x.pulse.filter (fun v => !x.open v) }
  go.foldl (fun s v => if v ∈ x.pulse || s.vecLevel f v then s.emit (.msix f v) else s) s

/-- After a change of a physical function, its AER vector whose source rose or fell acts on its message or pending bit (R423). -/
def State.aerEdge (f : Nat) (s t : State) : State :=
  if 2 ≤ f then t
  else if (s.fn f).aer then (if (t.fn f).aer then t else t.vecFall f (aerVec f))
  else if (t.fn f).aer then t.vecRise f (aerVec f) else t

/-- The header log and the first error pointer of an uncorrectable error b of function f, where none is logged yet: no rule gives the header but
its requester ID, whose function number is that of a VF (R429; log entries 3 and 21). -/
def State.aerHeader (s : State) (x : PcieFn) (f b : Nat) : List (Nat × Nat) :=
  let h (i : Nat) : Nat := Config.freeNat s.fv / 2 ^ (32 * i) % 2 ^ 32
  let id := if 2 ≤ f then h 1 / 2 ^ 24 * 2 ^ 24 + f * 2 ^ 16 + h 1 % 2 ^ 16 else h 1
  [(0x118, x.word 0x118 / 32 * 32 + b), (0x11C, h 0), (0x120, id), (0x124, h 2), (0x128, h 3)]

/-- An uncorrectable error b of function f: logged in PF0 or PF1, those of a VF in PF1 (R429). -/
def State.aerLog (s : State) (f b : Nat) : State :=
  let p := min f 1
  let x := s.fn p
  let hdr := if x.word 0x104 = 0 then s.aerHeader x f b else []
  let cfg := (hdr ++ [(0x104, setBit (x.word 0x104) b true)]).foldl (fun (m : List (Nat × Nat)) (q : Nat × Nat) => mset m 0 q.1 q.2) x.cfg
  State.aerEdge p s ((s.setFn p { x with cfg := cfg }).drawn)

/-- GO of PCIE_SWIRQ: a software vector of Table 18.5; any other value sends nothing. -/
def State.swIrq (s : State) (f v : Nat) : State :=
  let soft := if f = 0 then decide (22 ≤ v ∧ v ≤ 29) else if f = 1 then decide (v ≤ 7) else decide (v ≤ 3)
  if soft && s.fnExists f then s.vecPulse f v else s

/-! ## Resets of functions and of the link -/

/-- Outstanding reads of function f end in bus errors (R427). -/
def State.failReads (s : State) (f : Nat) : State :=
  (List.range 16).foldl (fun s c =>
    match (s.core c).wait with
    | .host l => if s.rd PCIE_OW_LO_FN (l.addr / 2 ^ 27 % 16) = f then s.hostDone c (.error 0) else s
    | _ => s) s

/-- The effects of a function reset on one function (R427). -/
def State.fnReset1 (s : State) (f : Nat) : State :=
  let x := s.fn f
  let s := s.setFn f { bound := x.bound, flr := x.flr }
  if f = 0 then
    let s := s.failReads 0
    (if s.on CAP_CTL_EN 0 then s.capStop else s).loseTracked
  else if f = 1 then s.failReads 1
  else s.rstFields (f - 1) [PCIE_ISTAT_ACCEPTED, PCIE_ISTAT_REFUSED, PCIE_ISTAT_QLEVEL, PCIE_ISTAT_REASON]

/-- The function reset of a function; that of PF1 takes every VF with it (R427). -/
def State.fnReset (s : State) (f : Nat) : State :=
  if f = 1 then ((List.range 62).map (· + 2)).foldl State.fnReset1 (s.fnReset1 1) else s.fnReset1 f

/-- A function-level reset (R427). It completes within 1 ms. Log entry 22 (DESIGN CHOICE). -/
def State.flr (s : State) (f : Nat) : State :=
  if !s.fnExists f then s
  else
    let s := s.fnReset f
    let s := (s.setFn f { s.fn f with flr := some (s.within (usec 1000)) }).drawn
    let s := if f < 32 then s.raise PCIE_FLR0_FLR 0 (2 ^ f)
      else s.raise PCIE_FLR1_FLR 0 (2 ^ (f - 32))
    s.pcieFault 4 f

/-- The link is lost: every function is reset, and what was tracked or queued is lost (R400, R428). -/
def State.linkLost (s : State) : State :=
  let was := s.linkUp
  let s := { s.outLeave with outq := [] }
  let s := (s.fnReset 0).fnReset 1
  let s := s.wrs 0 [(PCIE_LINK_LSTATE, 0), (PCIE_LINK_WIDTH, 0), (PCIE_LINK_SPEED, 0)]
  if was then s.hostLink false else s

/-- PERST_N is asserted (R428). -/
def State.perstOn (s : State) : State := { s.linkLost with perst := true }

/-- A transition to DL_Down (R428). -/
def State.dlDown (s : State) : State := if s.linkUp then s.linkLost.pcieFault 0 0 else s

/-- Training begins with the limits of the committed structure, of the verified active slot given, or the defaults (R414). -/
def State.train (s : State) (active : Option Image) : State :=
  if s.linkUp then s
  else
    let id := (s.committed.getD (active.getD {})).ident
    ({ s with perst := false, linkMax := (id.getD 4 5, id.getD 5 16) }).wr PCIE_LINK_LSTATE 0 1

/-- The largest supported width at most w (Table 18.1). -/
def widthDown (w : Nat) : Nat := if 16 ≤ w then 16 else if 8 ≤ w then 8 else if 4 ≤ w then 4 else 1

/-- The limits of a training that ends: those it began with, or for a retrain that the host directs those of the committed structure (R414). -/
def State.linkLim (s : State) : Nat × Nat :=
  match s.committed with
  | some im => if s.linkUp then (im.ident.getD 4 5, im.ident.getD 5 16) else s.linkMax
  | none => s.linkMax

/-- Training or a retrain the host directs ends with the link up at a width and speed within the limits (R238, R412, R413). -/
def State.linkUpAt (s : State) (width speed : Nat) (rev : Bool) (pol : Nat) : State :=
  if s.rd PCIE_LINK_LSTATE 0 = 0 then s
  else
    let m := s.linkLim
    let s := { s with linkMax := m }
    let w := widthDown (min width m.2)
    let v := max 1 (min speed m.1)
    let same := s.linkUp && s.rd PCIE_LINK_WIDTH 0 == w && s.rd PCIE_LINK_SPEED 0 == v
    let s := s.wrs 0 [(PCIE_LINK_LSTATE, 2), (PCIE_LINK_WIDTH, w), (PCIE_LINK_SPEED, v), (PCIE_LINK_REV, if rev then 1 else 0),
      (PCIE_LINK_POLINV, pol)]
    if same then s else s.hostLink true

/-- The link enters an ASPM state, 3 L0s, 4 L1, 5 L1.1 or 6 L1.2, as the host's control registers permit (R431). -/
def State.aspmEntry (s : State) (st : Nat) : State :=
  let x := s.fn 0
  let aspm := x.word 0x70 % 4
  let sub := x.word 0x268
  let waiting := (List.range 16).any fun c => match (s.core c).wait with | .host _ => true | _ => false
  let ok := if st = 3 then aspm % 2 == 1
    else decide (2 ≤ aspm) && !waiting && (if st = 4 then true else if st = 5 then bit sub 3 else st == 6 && bit sub 2)
  if s.rd PCIE_LINK_LSTATE 0 = 2 && ok then s.wr PCIE_LINK_LSTATE 0 st else s

/-- The link returns to L0 (R431). -/
def State.aspmExit (s : State) : State :=
  let l := s.rd PCIE_LINK_LSTATE 0
  if 3 ≤ l && l ≤ 6 then s.wr PCIE_LINK_LSTATE 0 2 else s

/-! ## Configuration space -/

/-- The bits of a configuration word that software writes. -/
def cfgMask (f o : Nat) : Nat :=
  if o = 0x04 then (if f < 2 then 0x546 else 4)
  else if o = 0x50 then 0xC0000000
  else if o = 0x68 then 0x79FF
  else if o = 0x88 then 0x141F
  else if 2 ≤ f then 0
  else if o = 0x0C || o = 0x3C then 0xFF
  else if o = 0x10 then 0xFF000000
  else if o = 0x18 then 0xFC000000
  else if o = 0x20 then (if f = 0 then 0xFF000000 else 0xFFFF0000)
  else if o = 0x14 || o = 0x1C || o = 0x24 then 0xFFFFFFFF
  else if o = 0x44 then 3
  else if o = 0x108 || o = 0x10C || o = 0x114 then 0xFFFFFFFF
  else if o = 0x118 then 0x140
  else if f = 0 then (if o = 0x70 then 0x1C3 else if o = 0x268 then 0xE3FF000F else if o = 0x274 then 0xFFFFFFFF else 0)
  else (if o = 0x288 then 0x19 else if o = 0x290 then 0xFFFF else if o = 0x2A4 then 0xFF800000 else if o = 0x2AC then 0xFFFF0000
    else if o = 0x2A8 || o = 0x2B0 then 0xFFFFFFFF else 0)

/-- The bits of a configuration word that the device fixes (R412 to R417, Tables 18.1 to 18.5). -/
def State.cfgFixed (s : State) (f o : Nat) : Nat :=
  let id := s.identNow
  let g (i : Nat) : Nat := id.getD i 0
  let ext (cap ver next : Nat) : Nat := cap + ver * 2 ^ 16 + next * 2 ^ 20
  let pf := decide (f < 2)
  let size := if f = 0 then 31 else if f = 1 then 8 else 3
  let spd := g 4
  if o = 0x00 then 0x1C9E + (if pf then 0x9664 else 0x9665) * 2 ^ 16
  else if o = 0x04 then 2 ^ 20
  else if o = 0x08 then 0xA1 + g 2 * 256
  else if o = 0x0C then (if f = 0 then 0x800000 else 0)
  else if o = 0x10 then (if pf then 4 else 0)
  else if o = 0x18 then (if pf then 0xC else 0)
  else if o = 0x20 then (if pf then 4 else 0)
  else if o = 0x2C then g 0 + g 1 * 2 ^ 16
  else if o = 0x34 then (if pf then 0x40 else 0x50)
  else if o = 0x40 then (if pf then 0x00035001 else 0)
  else if o = 0x50 then 0x6011 + size * 2 ^ 16
  else if o = 0x54 then (if f = 0 then 0x00800004 else if f = 1 then 4 else 0x1002)
  else if o = 0x58 then (if f = 0 then 0x00801004 else if f = 1 then 0x1004 else 0x2002)
  else if o = 0x60 then 0x00020010
  else if o = 0x64 then 0x10008022
  else if o = 0x6C then spd + g 5 * 16 + (g 6 % 4) * 2 ^ 10
  else if o = 0x70 then (if f = 0 then (s.rd PCIE_LINK_SPEED 0 + s.rd PCIE_LINK_WIDTH 0 * 16) * 2 ^ 16 else 0)
  else if o = 0x84 then 0x00030813
  else if o = 0x8C then 2 * (2 ^ spd - 1)
  else if o = 0x118 then (if pf then 0xA0 else 0)
  else if o = 0x100 then (if pf then ext 0x0001 2 0x150 else ext 0 0 0x150)
  else if o = 0x150 then ext 0x000E 1 (if f = 0 then 0x160 else if f = 1 then 0x280 else 0)
  else if o = 0x154 then (if f = 0 then 0x100 else 0)
  else if f = 0 then
    (if o = 0x160 then ext 0x0019 1 0x190 else if o = 0x190 then ext 0x0025 1 0x1A0 else if o = 0x1A0 then ext 0x0026 1 0x1E0
     else if o = 0x1E0 then ext 0x0027 1 0x230 else if o = 0x230 then ext 0x002A 1 0x260 else if o = 0x260 then ext 0x001E 1 0x270
     else if o = 0x264 then (if bit (g 6) 2 then 0x1F else 0) else if o = 0x270 then ext 0x0018 1 0 else 0)
  else if f = 1 then
    (if o = 0x280 then ext 0x0010 1 0 else if o = 0x28C then g 3 + g 3 * 2 ^ 16 else if o = 0x294 then 0x00010001
     else if o = 0x298 then 0x96650000 else if o = 0x29C || o = 0x2A0 then 1 else if o = 0x2A4 || o = 0x2AC then 4 else 0)
  else 0

/-- A configuration word as a read returns it. -/
def State.cfgRead (s : State) (f o : Nat) : Nat := s.cfgFixed f o ||| (s.fn f).word o

/-- Bytes of a 32-bit word replaced under a mask of byte enables. -/
def mergeBe (old new be : Nat) : Nat :=
  ((List.range 4).map fun i => (if bit be i then bits new (8 * i + 7) (8 * i) else bits old (8 * i + 7) (8 * i)) * 2 ^ (8 * i)).sum

/-- A write of a configuration word and what follows from it: logged errors are cleared by ones, D1 and D2 are not taken, the Initiate FLR bit
starts an FLR, a cleared VF Enable resets the VFs, unmasked vectors are sent, and enabling LTR sends its message (R412, R423, R427, R431). -/
def State.cfgWrite (s : State) (f o v be : Nat) : State :=
  let x := s.fn f
  let w := mergeBe 0 v be
  let old := x.word o
  if o = 0x104 || o = 0x110 then State.aerEdge f s (s.setFn f { x with cfg := mset x.cfg 0 o (old &&& (2 ^ 32 - 1 - w)) })
  else
    let v := (mergeBe old v be &&& cfgMask f o) + (if o = 0x118 then old % 32 else 0) + (if 0x11C ≤ o && o ≤ 0x128 then old else 0)
    let v := if o = 0x44 && v % 4 ≠ 0 && v % 4 ≠ 3 then old else v
    let s := State.aerEdge f s (s.setFn f { x with cfg := mset x.cfg 0 o v })
    let s := if o = 0x68 && bit w 15 then s.flr f else s
    let s := if o = 0x288 && f = 1 && bit old 0 && !bit v 0 then ((List.range 62).map (· + 2)).foldl State.fnReset1 s else s
    if o = 0x50 || o = 0x44 then s.msixFlush f else if o = 0x88 && f = 0 then s.ltrNow else s

/-- A configuration request (R414, R416): a read, or a write with its byte enables. Log entry 19 (PRESUMED). -/
def State.cfgRequest (s : State) (f o : Nat) (w : Option (Nat × Nat)) : State :=
  if !s.bootEnded then s.emit (.completion [] 1)
  else if !s.fnExists f then s.emit (.completion [] 2)
  else
    match w with
    | none => s.emit (.completion [BitVec.ofNat 32 (s.cfgRead f (o / 4 * 4 % 4096))] 0)
    | some (v, be) => (s.cfgWrite f (o / 4 * 4 % 4096) v be).emit (.completion [] 0)

/-! ## Intent doorbells -/

/-- A doorbell of VF v (it reaches its consumer within 260 ns, at 8 GT/s and below 420 ns, one hop after its publication: R214): whether it is one 16-byte, 16-aligned write with all byte enables, and its four words (R424, R425). Log entry 66 (DEDUCED). -/
def State.doorbell (s : State) (v : Nat) (whole : Bool) (w0 w1 w2 w3 : Nat) : State :=
  let f := v + 1
  if v = 0 || 62 < v || !s.fnExists f || s.inFlr f then s
  else
    let x := s.fn f
    let leg := w0 % 64
    let why := if !whole then 1
      else if bits w0 7 6 ≠ 0 || bits w0 31 16 ≠ 0 || bits w1 31 24 ≠ 0 || 48 ≤ leg then 2
      else if s.boundCheck f 4 1 [(leg, leg)] ≠ 0 then 3
      else if 4 ≤ x.intents.length then 4
      else if s.committed.isNone || s.rd PRK_STATE_OP 0 = 3 then 5
      else 0
    if why ≠ 0 then ((s.wr PCIE_ISTAT_REASON v why).satAdd PCIE_ISTAT_REFUSED v).pcieFault 3 f
    else
      let due := s.within (64 * if 4 ≤ s.rd PCIE_LINK_SPEED 0 then 206 else 334)
      ((s.setFn f { x with intents := x.intents ++ [(w1 % 2 ^ 24, w2 % 2 ^ 32 + 2 ^ 32 * (w3 % 2 ^ 32), due)] }).drawn).addTo PCIE_ISTAT_ACCEPTED v 1

/-- A queued doorbell is published, at most one per FAB cycle and VF: its crossbar slots and its producer (R426). -/
def State.doorbellPublish (s : State) (v : Nat) : State :=
  let x := s.fn (v + 1)
  match x.intents with
  | [] => s
  | (step, dt, due) :: rest =>
    let cyc := max (max ((s.et + 63) / 64) (due / 64)) (match x.pub with | some p => p + 1 | none => 0)
    let s := s.reach (64 * cyc)
    let seq := (s.rd PCIE_ISTAT_ACCEPTED v + 2 ^ 16 - rest.length) % 2 ^ 16
    let put (s : State) (n : Nat) (val : Int) : State := { s with xslots := mset s.xslots (0, 3, 0) n (val, 0, seq) }
    let s := put (put s (0x380 + v) (toS 24 step)) (0x3C0 + v) (toS 24 dt)
    (s.setFn (v + 1) { x with intents := rest, pub := some cyc }).publish (0xB00 + v)

end Sys2Proof.Machine
end

