-- ==== Sys2Proof/Machine/Dma.lean ====
section
/-!
DEFINITION. The DMA channels apart from their bursts (spec/17, R386 to R393): configuration and handle checks, starting, pacing, turns,
halting, and the writes of their registers. Channel c of engine e has number 8e + c.
-/
namespace Sys2Proof.Machine
open F

def State.dma (s : State) (h : Nat) : DmaCh := mget s.dmas {} h
def State.setDma (s : State) (h : Nat) (x : DmaCh) : State := { s with dmas := mset s.dmas {} h x }

/-- A DMA fault 0xC1 + b of a channel (R410). -/
def State.dmaFault (s : State) (h b : Nat) : State :=
  (s.wrs (h / 8) [(DMA_FINFO_CODE, 0xC1 + b), (DMA_FINFO_CH, h % 8)]).setFlag (13 + h / 8) DMA_FAULT_FLAGS (h / 8) b

/-- An address in register space (R27). -/
def inRegs (a : Nat) : Bool := decide (0x40000000 ≤ a) && decide (a < 0x40780000)

/-- The configuration of a channel fails the check of R388. -/
def State.dmaBad (s : State) (h : Nat) : Bool :=
  let u := s.rd DMAC_CTL_USIZE h
  let src := s.rd DMAC_SRC_VALUE h
  let dst := s.rd DMAC_DST_VALUE h
  let sw := s.rd DMAC_CTL_SWAP h
  let ps := s.rd DMAC_PACE_PSEL h
  let al := min u 4
  !(u == 1 || u == 2 || (u % 4 == 0 && decide (4 ≤ u) && decide (u ≤ 64))) || s.rd DMAC_COUNT_VALUE h == 0
    || (decide (0 < al) && (src % al != 0 || dst % al != 0)) || ((inRegs src || (inRegs dst && ps != 2)) && u % 4 != 0)
    || (sw == 1 && u % 2 == 1) || (decide (2 ≤ sw) && u % 4 != 0) || decide (s.rd DMAC_PACEMK_HIGH h ≤ s.rd DMAC_PACEMK_LOW h)
    || (ps == 2 && (u != 64 || s.rd CAP_S_CFG_KIND (s.rd DMAC_PACE_PIDX h) != 5))

/-- The handles of a channel. -/
def State.dmaSrcH (s : State) (h : Nat) : Nat := s.rd DMAC_WSRC_LO_HANDLE h + 2 ^ 32 * s.rd DMAC_WSRC_HI_HANDLE h
def State.dmaDstH (s : State) (h : Nat) : Nat := s.rd DMAC_WDST_LO_HANDLE h + 2 ^ 32 * s.rd DMAC_WDST_HI_HANDLE h

/-- Both handles are valid, or FREE turns the checks off (R389). -/
def State.dmaHandlesOk (s : State) (h : Nat) : Bool :=
  s.on DMAC_CTL_FREE h || (s.handleBad (s.dmaSrcH h) == 0 && s.handleBad (s.dmaDstH h) == 0)

/-- The fill of the replay buffer of a stream. -/
def State.rpFill (s : State) (i : Nat) : Nat := (s.rd CAP_S_RPWR_VALUE i + 2 ^ 32 - s.rd CAP_S_RPRD_VALUE i) % 2 ^ 32

/-- The level a paced channel watches (R391). -/
def State.dmaLevel (s : State) (h : Nat) : Nat :=
  let i := s.rd DMAC_PACE_PIDX h
  let ps := s.rd DMAC_PACE_PSEL h
  if ps = 1 then (s.mc (i % 16)).fifo.length
  else if ps = 2 then (s.rd CAP_S_RPSIZE_VALUE i - s.rpFill i) / 64
  else s.rd DMAC_SWLVL_LEVEL h

/-- The run of a channel's engine ends (R390). -/
def State.dmaRunEnd (s : State) (h : Nat) : State :=
  if s.on DMA_STAT_BUSY (h / 8) && s.rd DMA_STAT_RUNCH (h / 8) == h % 8 then s.wrs (h / 8) [(DMA_STAT_BUSY, 0), (DMA_STAT_RUNCH, 0)] else s

/-- A channel enters HALTED. -/
def State.dmaHalt (s : State) (h reason : Nat) : State :=
  ((s.setDma h { s.dma h with tries := 0, retryAt := none }).wrs h [(DMAC_STAT_STATE, 4), (DMAC_STAT_REASON, reason)]).dmaRunEnd h

/-- The checks at a start or resume, and the state that follows (R388, R389, R391). -/
def State.dmaGo (s : State) (h : Nat) : State :=
  if s.dmaBad h then (s.dmaHalt h 4).dmaFault h 3
  else if !s.dmaHandlesOk h then (s.dmaHalt h 2).dmaFault h 1
  else
    let ready := s.rd DMAC_PACE_PSEL h == 0 || decide (s.rd DMAC_PACEMK_HIGH h ≤ s.dmaLevel h)
    (s.setDma h { s.dma h with tries := 0, retryAt := none }).wrs h [(DMAC_STAT_REASON, 0), (DMAC_STAT_STATE, if ready then 2 else 1)]

/-- A channel takes START or a start event: IDLE, DONE or HALTED. -/
def State.dmaIdle (s : State) (h : Nat) : Bool :=
  let st := s.rd DMAC_STAT_STATE h
  st == 0 || st == 4 || st == 5

/-- START, or a start event; two in one FAB cycle act as one (R390). -/
def State.dmaStart (s : State) (h : Nat) : State :=
  let cyc := s.et / 64
  if (s.dma h).startAt = some cyc || s.fnDrains (0xE0 + h) then s
  else if !s.dmaIdle h then s.dmaFault h 2
  else
    let s := s.setDma h { s.dma h with startAt := some cyc }
    (s.wrs h [(DMAC_REMAIN_VALUE, s.rd DMAC_COUNT_VALUE h), (DMAC_CURSRC_VALUE, s.rd DMAC_SRC_VALUE h),
      (DMAC_CURDST_VALUE, s.rd DMAC_DST_VALUE h)]).dmaGo h

/-- STOP (R392): no burst is ever in progress between two commands, so the channel halts at once. -/
def State.dmaStop (s : State) (h : Nat) : State := if s.dmaIdle h then s else s.dmaHalt h 3

/-- RESUME (R392). -/
def State.dmaResume (s : State) (h : Nat) : State := if s.rd DMAC_STAT_STATE h = 4 && !s.fnDrains (0xE0 + h) then s.dmaGo h else s

/-- ADDLVL (R391). -/
def State.addLvl (s : State) (h : Nat) : State :=
  s.wr DMAC_SWLVL_LEVEL h (min 65535 (s.rd DMAC_SWLVL_LEVEL h + s.rd DMAC_CMD_INC h))

/-- A write of DMAe.c_CMD: INC, and the actions whose bits are set, in ascending order of their bits. -/
def State.dmaCmd (s : State) (h w : Nat) : State :=
  let s := s.wr DMAC_CMD_INC h (bits w 31 16)
  let s := if bit w 0 then s.dmaStart h else s
  let s := if bit w 1 then s.dmaStop h else s
  let s := if bit w 2 then s.dmaResume h else s
  if bit w 3 then s.addLvl h else s

/-- A register that is locked while the channel is PAUSED, READY or RUNNING (R390). -/
def State.dmaLocked (s : State) (h : Nat) (f : State → State) : State := if s.dmaIdle h then f s else s.raise DMAC_STAT_WERR h 1

/-- A write of DMAe.c_CTL; FREE only from PF0 (R389). -/
def State.dmaCtl (s : State) (ini : Initiator) (h w : Nat) : State :=
  s.dmaLocked h fun s => s.wrs h [(DMAC_CTL_FREE, if ini = .pf0 then bits w 31 31 else 0), (DMAC_CTL_RETRY, bits w 30 28), (DMAC_CTL_SWAP, bits w 27 26),
    (DMAC_CTL_SINC, bits w 25 25), (DMAC_CTL_DINC, bits w 24 24), (DMAC_CTL_DONEIE, bits w 23 23), (DMAC_CTL_TCMCORE, bits w 19 16),
    (DMAC_CTL_USIZE, bits w 14 8)]

/-- A write of DMAe.c_CTL and the level of the engine's line after it (R393). -/
def State.dmaCtlWrite (s : State) (ini : Initiator) (h w : Nat) : State := State.edge (13 + h / 8) s (s.dmaCtl ini h w)

/-- A write of a half of WSRC, or of WDST: the low half is held for the writer until its high half (R411). -/
def State.dmaHandle (s : State) (ini h : Nat) (dst hi : Bool) (w : Nat) : State :=
  s.dmaLocked h fun s =>
    let x := s.dma h
    let held := if dst then x.dstLo else x.srcLo
    if hi then
      let s := match mget held none ini with
        | some lo => s.wr (if dst then DMAC_WDST_LO_HANDLE else DMAC_WSRC_LO_HANDLE) h lo
        | none => s
      let s := s.wr (if dst then DMAC_WDST_HI_HANDLE else DMAC_WSRC_HI_HANDLE) h w
      let held := mset held none ini none
      s.setDma h (if dst then { x with dstLo := held } else { x with srcLo := held })
    else
      let held := mset held none ini (some (w % 2 ^ 32))
      s.setDma h (if dst then { x with dstLo := held } else { x with srcLo := held })

/-- A paused channel's level reaches HIGH (R391). -/
def State.dmaPaceReady (s : State) (h : Nat) : State :=
  if s.rd DMAC_STAT_STATE h = 1 && s.rd DMAC_PACEMK_HIGH h ≤ s.dmaLevel h then s.wr DMAC_STAT_STATE h 2 else s

/-- A free engine gives its turn to its lowest-numbered READY channel (R390). -/
def State.dmaRunStart (s : State) (e : Nat) : State :=
  if s.on DMA_STAT_BUSY e then s
  else
    match (List.range 8).find? fun c => s.rd DMAC_STAT_STATE (8 * e + c) == 2 with
    | none => s
    | some c => (s.wrs e [(DMA_STAT_BUSY, 1), (DMA_STAT_RUNCH, c)]).wr DMAC_STAT_STATE (8 * e + c) 3

/-- A channel completes (R393): its producer publishes in the next FAB cycle. -/
def State.dmaDone (s : State) (h : Nat) : State :=
  let t := (s.wr DMAC_STAT_STATE h 5).raise DMAC_STAT_DONEF h 1
  ((State.edge (13 + h / 8) s t).dmaRunEnd h).publishAt (0x600 + h) (s.tick + 1)

/-- The function reset of a channel (R392). -/
def State.dmaReset (s : State) (h : Nat) : State :=
  let t := (s.dmaRunEnd h).setDma h {}
  let t := t.rstFields h [DMAC_CTL_FREE, DMAC_CTL_RETRY, DMAC_CTL_SWAP, DMAC_CTL_SINC, DMAC_CTL_DINC, DMAC_CTL_DONEIE, DMAC_CTL_TCMCORE, DMAC_CTL_USIZE,
    DMAC_CMD_INC, DMAC_STAT_WERR, DMAC_STAT_DONEF, DMAC_STAT_REASON, DMAC_STAT_STATE, DMAC_SRC_VALUE, DMAC_DST_VALUE, DMAC_COUNT_VALUE, DMAC_REMAIN_VALUE,
    DMAC_CURSRC_VALUE, DMAC_CURDST_VALUE, DMAC_PACE_PIDX, DMAC_PACE_PSEL, DMAC_PACEMK_HIGH, DMAC_PACEMK_LOW, DMAC_SWLVL_LEVEL, DMAC_WSRC_LO_HANDLE,
    DMAC_WSRC_HI_HANDLE, DMAC_WDST_LO_HANDLE, DMAC_WDST_HI_HANDLE]
  State.edge (13 + h / 8) s t

/-- A unit after CTL.SWAP (R387). -/
def dmaSwap (sw : Nat) (l : List (BitVec 8)) : List (BitVec 8) :=
  let rec go : Nat → List (BitVec 8) → List (BitVec 8)
    | 0, l => l
    | n + 1, l =>
      if sw = 1 then (match l with | a :: b :: t => b :: a :: go n t | l => l)
      else if sw = 2 then (match l with | a :: b :: c :: d :: t => d :: c :: b :: a :: go n t | l => l)
      else if sw = 3 then (match l with | a :: b :: c :: d :: t => c :: d :: a :: b :: go n t | l => l)
      else l
  go l.length l

end Sys2Proof.Machine
end

