-- ==== Sys2Proof/Machine/Ground.lean ====
section
/-!
DEFINITION. Ground (spec/10): delivery of events with the storm counters (R246, R252), picots (R248 to R250), muting (R253), publishing by
cores (R254), core event inputs (R255), and what each consumer of Table 10.2 does.
-/
namespace Sys2Proof.Machine
open F

/-- A Ground fault 0x81 + b (R260). -/
def State.gndFault (s : State) (b : Nat) : State := (s.setFlag 2 GND_FAULT_FLAGS 0 b).publish 0xC02

/-- The FAB cycle, by its device time, in which a write or publish of another domain takes effect after 3 synchroniser stages (R25). Log entry 12 (DESIGN CHOICE). -/
def State.cross3 (s : State) : Nat := s.tick + (if s.et % 64 = 0 then 3 else 4)

/-! ## Muting and the storm counter -/

/-- Mutes and unmutes of channel c that take effect by device time t (R253). -/
def State.ecNow (s : State) (c t : Nat) : State :=
  let now := s.mutes.filter fun m => m.1 == c && decide (m.2.2 ≤ t)
  let s := { s with mutes := s.mutes.filter fun m => !(m.1 == c && decide (m.2.2 ≤ t)) }
  now.foldl (fun s m =>
    if m.2.1 then s.wr EC_STAT_MUTED c 1
    else { (s.wr EC_STAT_MUTED c 0) with ecWin := mset s.ecWin (0, 0) c (m.2.2 / 2 ^ (s.rd EC_STORM_WINDOW c + 4), 0) }) s

/-- A write of ECn_CTL: LOG at once, MUTE or UNMUTE through 3 stages, neither when both are set (R253). -/
def State.ecCtl (s : State) (c w : Nat) : State :=
  let s := s.wr EC_CTL_LOG c (bits w 2 2)
  if bit w 1 = bit w 0 then s else { s with mutes := s.mutes ++ [(c, bit w 1, s.cross3)] }

/-- An event of channel c leaves its hop at device time t: whether it is delivered, by the mute and the storm counter (R252). -/
def State.storm (s : State) (c t : Nat) : Bool × State :=
  let s := s.ecNow c t
  if s.on EC_STAT_MUTED c then (false, s.addTo EC_STAT_DROP c 1)
  else
    let lim := s.rd EC_STORM_LIMIT c
    let remote := 0xF000 ≤ s.rd EC_CFG_PROD c
    if lim = 0 || remote then (true, s.addTo EC_STAT_COUNT c 1)
    else
      let w := t / 2 ^ (s.rd EC_STORM_WINDOW c + 4)
      let r := mget s.ecWin (0, 0) c
      let n := if r.1 = w then r.2 else 0
      if lim ≤ n then
        (false, (((s.wr EC_STAT_MUTED c 1).addTo EC_STAT_DROP c 1).wr GND_STORMCH_EC 0 c).gndFault 0)
      else (true, ({ s with ecWin := mset s.ecWin (0, 0) c (w, n + 1) }).addTo EC_STAT_COUNT c 1)

/-! ## Picots -/

/-- A picot publishes (R249, R250): its output count and the events, from a cycle. -/
def State.picotOut (s : State) (p : Nat) (rise : Bool) (cyc : Nat) : State :=
  (s.addTo PICOT_STAT_OUTCNT p 1).publishAt ((if rise then 0x800 else 0x900) + p) cyc

/-- QF takes Q's value at the end of cycle t, and the picot publishes in the next (R250). -/
def State.picotQF (s : State) (p t : Nat) : State :=
  let q := s.on PICOT_STAT_Q p
  if s.on PICOT_STAT_QF p = q then s else (s.wrb PICOT_STAT_QF p q).picotOut p q t

/-- The filter of a picot that has counted its last cycle by cycle t (R250). -/
def State.picotDue (s : State) (p t : Nat) : State :=
  match mget (s.pfilt.map fun (x : Nat × Nat) => (x.1, some x.2)) none p with
  | some d => if d ≤ t then ({ s with pfilt := mdel s.pfilt p }).picotQF p d else s
  | none => s

/-- A picot takes the inputs of the cycle that begins at device time t, of which at least one is 1 (R248 to R250). -/
def State.picotEval (s : State) (p x t : Nat) : State :=
  let v := bit (s.rd PICOT_CFG_LUT p) x
  if !s.on PICOT_CFG_FF p then (if v then s.picotOut p true (t - 1) else s)
  else
    let s := (s.picotDue p t).wrb PICOT_STAT_Q p v
    if !s.on PICOT_CFG_FILT p then s.picotQF p t
    else if v = s.on PICOT_STAT_QF p then { s with pfilt := mdel s.pfilt p }
    else if s.pfilt.any (fun f => f.1 == p) then s
    else { s with pfilt := mset s.pfilt 0 p (t + s.rd PICOT_CFG_FLEN p) }

/-- The glitch filter of a picot has counted N cycles (R250). Log entry 49 (DEDUCED). -/
def State.picotExpiry (s : State) (p : Nat) : State :=
  match s.pfilt.find? (fun f => f.1 == p) with
  | some f => (s.reach (s.etOf (f.2 + 1))).picotDue p f.2
  | none => s

/-! ## Core event inputs -/

/-- Instant at which an event delivered now has crossed into CORE through 2 stages (R246). -/
def State.coreCross (s : State) : Nat := cycTime (cycAt s.et + 2)

/-- An event is on its way to input i of core c. -/
def State.coreEvent (s : State) (c i : Nat) : State :=
  let k := s.core c
  s.setCore c { k with evIn := k.evIn ++ [(i, s.coreCross)] }

/-- An event arrives at input i of core c and adds to its pending count, at most 15 (R255). A core in reset keeps its counts at 0
(R256). -/
def State.coreArrive (s : State) (c i : Nat) : State :=
  match (s.core c).evIn.find? (fun p => p.1 == i) with
  | none => s
  | some p =>
    let s := s.reach p.2
    let k := s.core c
    let s := s.setCore c { k with evIn := k.evIn.erase p }
    let n := mget k.ev 0 i
    if k.st = 0 then s
    else if n < 15 then s.setCore c { s.core c with ev := mset k.ev 0 i (n + 1) }
    else
      let j := c / 4
      (s.raise GND_EVOVF_OVF j (2 ^ (8 * (c % 4) + i))).gndFault 2

/-! ## Consumers and delivery -/

/-- Where a job runs: engine and slot (R232). -/
def State.jobAt (s : State) (j : Nat) : Option (Nat × Nat) := (s.place.jobs.find? (fun p => p.job == j)).map fun p => (p.engine, p.slot)

/-- A period-restart event goes the way of a raw-lane request (R177, R184). -/
def State.restartEvent (s : State) (k : Nat) : State := { s with laneReqs := s.laneReqs ++ [⟨k, 3, 99, 99, s.et⟩] }

/-- What the consumer of a delivered event does (R246, Table 10.2); picot inputs apart. t is the edge of delivery. -/
def State.consume (s : State) (c code t : Nat) : State :=
  if code < 384 then
    match s.jobAt code with
    | some (e, i) => { s with trigs := s.trigs ++ [(e, i, s.et)] }
    | none => s
  else if 0x200 ≤ code && code < 0x280 then s.coreEvent ((code - 0x200) / 8) (code % 8)
  else if 0x800 ≤ code && code < 0x810 then s.mainsCross (code - 0x800)
  else if 0x810 ≤ code && code < 0x840 then s.restartEvent (code - 0x810)
  else if 0x840 ≤ code && code < 0x880 then s.gtCapEvent (code - 0x840)
  else if 0x880 ≤ code && code < 0x8A0 then s.dmaStart (code - 0x880)
  else if code = 0x8A0 then s.snapTrigger
  else if 0xF000 ≤ code then s.ringSend (code - 0xF000) c false 0 0 0 0 (t - 2)
  else s

/-- A delivered event is logged where the channel asks for it (R394). -/
def State.logEvent (s : State) (c : Nat) : State := if s.on EC_CTL_LOG c then s.capEvent c else s

/-- The picot and input that a consumer code names. -/
def picotIn (code : Nat) : Option (Nat × Nat) := if 0x400 ≤ code && code < 0x800 then some ((code - 0x400) / 4, code % 4) else none

/-- The channels whose events reach a picot's inputs in the cycle that begins at device time t. -/
def State.picotFeeds (s : State) (p t : Nat) : List Nat :=
  (s.flight.filter fun f => decide (f.2 = t) && (match picotIn (s.rd EC_CFG_CONS f.1) with | some q => q.1 == p | none => false)).map (·.1)

/-- The earliest event of channel c in flight. -/
def State.nextOf (s : State) (c : Nat) : Option (Nat × Nat) :=
  match s.flight.filter (fun f => f.1 == c) with
  | [] => none
  | f :: l => some (l.foldl (fun a b => if b.2 < a.2 then b else a) f)

/-- The earliest event of channel c that is in flight leaves its last hop (R246, R252). The events that reach one picot in one cycle are
taken together (R248). -/
def State.deliver (s : State) (c : Nat) : State :=
  match s.nextOf c with
  | none => s
  | some f =>
    let t := f.2
    let s := s.reach (s.etOf t)
    match picotIn (s.rd EC_CFG_CONS c) with
    | some (p, _) =>
      let cs := s.picotFeeds p t
      let s := { s with flight := s.flight.filter fun g => !(decide (g.2 = t) && g.1 ∈ cs) }
      let r := cs.foldl (fun (a : Nat × State) d =>
        let q := a.2.storm d t
        if q.1 then (a.1 ||| 2 ^ (match picotIn (q.2.rd EC_CFG_CONS d) with | some y => y.2 | none => 0), q.2.logEvent d) else (a.1, q.2)) (0, s)
      if r.1 = 0 then r.2 else r.2.picotEval p r.1 t
    | none =>
      let s := { s with flight := s.flight.erase f }
      let q := s.storm c t
      if q.1 then (q.2.logEvent c).consume c (s.rd EC_CFG_CONS c) t else q.2

/-- A core publishes on a channel (R254): the channel's producer must be the SEV producer of the core. The publication cycle begins 3
stages after the instruction's outputs are released, at et. -/
def State.sev (s : State) (c ec rel : Nat) : State :=
  if ec ∈ s.ecUsed && s.rd EC_CFG_PROD ec = 0x700 + c then
    s.fly ec (s.tickAt (rel + 63) + 5)
  else
    ((s.wrs 0 [(GND_PUBERR_COUNT, satInc (s.rd GND_PUBERR_COUNT 0) 255), (GND_PUBERR_CORE, c), (GND_PUBERR_EC, ec)])).gndFault 1

/-- GND_STAT.MUTED: channels muted now, with a record or without, by the mutes that have taken effect (Table 10.7). -/
def State.mutedNow (s : State) : Nat :=
  let s := s.mutes.foldl (fun s m => s.ecNow m.1 s.tick) s
  min 255 (s.regs.filter fun p => decide (p.1 % 1024 = EC_STAT_MUTED.key.val)).length

end Sys2Proof.Machine
end

