-- ==== Sys2Proof/Machine/Braid.lean ====
section
/-!
DEFINITION. Braid (spec/19): ports and training (R437), the reference port and device time (R439, R440), items (R441 to R445), breaks and
repairs (R446). Port b is 0 or 1; a link has the number of the seat whose B1 it joins.
-/
namespace Sys2Proof.Machine
open F

def State.bport (s : State) (b : Nat) : BPort := mget s.bports {} b
def State.setBport (s : State) (b : Nat) (x : BPort) : State := { s with bports := mset s.bports {} b x }

/-- A Braid fault 0xF1 + i on a port, with its detail and channel (R447). -/
def State.braidFault (s : State) (b i detail ec : Nat) : State :=
  (s.wrs b [(B_FINFO_CODE, 0xF1 + i), (B_FINFO_DETAIL, detail), (B_FINFO_EC, ec)]).setFlag 20 B_FAULT_FLAGS b i

/-- BRAID_TIME is raised on both ports (R447). -/
def State.braidTime (s : State) (detail : Nat) : State := (s.braidFault 0 5 detail 0).braidFault 1 5 detail 0

/-- Port b is enabled by the plan (R433). -/
def State.portOn (s : State) (b : Nat) : Bool := bit (s.bplan.getD 3 0) b

/-- A follower (R433). -/
def State.follower (s : State) : Bool := s.bplan.getD 2 0 == 1

/-- The link of a port. -/
def State.linkOf (s : State) (b : Nat) : Nat := if b = 1 then s.seat else (s.seat + s.ring - 1) % s.ring

/-- Training starts on the enabled ports with a plan (R437); an enabled port that is not up 10 ms on raises SYS_NOTRAIN (R474). The device
time of the leader is always aligned (R440). -/
def State.braidTrain (s : State) (plan : List Nat) : State :=
  let s := { s with bplan := plan }
  let s := if s.follower then s else (s.wr B_STAT_ALIGNED 0 1).wr B_STAT_ALIGNED 1 1
  [0, 1].foldl (fun s b =>
    if s.portOn b then
      (s.wr B_STAT_STATE b (if s.on B_CTL_DOWN b then 4 else 1)).setBport b { s.bport b with notrain := some (s.et + usec 10000) }
    else s) s

/-! ## Reference port -/

/-- Every leg stops by rule 0 and its outputs are gated at their safe values, with no latch set (R475). -/
def State.gateLegs (s : State) : State := (({ s.stopAll with gated := true }).wr FRST_SYSSTAT_GATED 0 1)

/-- The control PLL changes to the AON oscillator: legs gated, device time on AON edges, lock within 100 µs (R475). -/
def State.toAon (s : State) : State :=
  let s := s.gateLegs.startPace
  (({ s with cpll := some (s.within (usec 100), 3) }).drawn).wr SYS_CLKSTAT_CPLL_LOCK 0 0

/-- A port is eligible as the reference (R439). -/
def State.refOk (s : State) (b : Nat) : Bool :=
  s.portUp b && (s.rd B_STAT_NSEAT b == 0 || (s.on B_STAT_NLOCK b && !(s.bport b).nref))

/-- A follower's control PLL takes the local reference, or where that has been lost AON as R475 says (R439). -/
def State.localRef (s : State) : State :=
  let lost := s.kpllAon || (match s.kpll with | some (_, a) => a | none => false)
  if s.rd SYS_CLKSTAT_CREF 0 = 3 then s
  else if lost then s.toAon
  else
    match s.cpll with
    | some (t, _) => { s with cpll := some (t, 0) }
    | none => s.wr SYS_CLKSTAT_CREF 0 0

/-- Choose the reference port of a follower (R439): fewer hops to seat 0 along its direction, at equal hops B0; without one the local
reference is taken, ALIGNED is cleared and BRAID_TIME raised. -/
def State.chooseRef (s : State) : State :=
  if !s.follower then s
  else
    let hop (b : Nat) : Nat := if b = 0 then s.seat else s.ring - s.seat
    let pick := if s.refOk 0 && (!s.refOk 1 || decide (hop 0 ≤ hop 1)) then some 0 else if s.refOk 1 then some 1 else none
    let had := s.on B_STAT_REF 0 || s.on B_STAT_REF 1
    let s := (s.wrb B_STAT_REF 0 (pick == some 0)).wrb B_STAT_REF 1 (pick == some 1)
    match pick with
    | some _ =>
      (match s.cpll with
        | some (t, _) => { s with cpll := some (t, 2) }
        | none => s.wr SYS_CLKSTAT_CREF 0 2)
    | none =>
      let s := (s.localRef).wr B_STAT_ALIGNED 0 0
      let s := s.wr B_STAT_ALIGNED 1 0
      if had then s.braidTime 1 else s

/-! ## Ports -/

/-- A link of this seat comes up or goes down: the other seats are told, and paths and routes are placed again (R446). -/
def State.linkChange (s : State) (b : Nat) (up : Bool) : State :=
  let l := s.linkOf b
  ((({ s with linksUp := withLink s.linksUp l up }).publish (0xD00 + b)).ringTell false l up).plwAsk 4

/-- A port is training or retraining. -/
def State.training (s : State) (b : Nat) : Bool := s.rd B_STAT_STATE b == 1 || s.rd B_STAT_STATE b == 3

/-- The neighbour a port expects (R437). -/
def State.neighbour (s : State) (b : Nat) : Nat := if b = 0 then (s.seat + s.ring - 1) % s.ring else (s.seat + 1) % s.ring

/-- Training completes with what the neighbour reports, its lock and whether its reference port is the other end of this link: the port
comes up when seat and ring size match (R437). -/
def State.portComesUp (s : State) (b nseat nring map pol : Nat) (nlock nref : Bool) : State :=
  if !s.training b || s.fnHeld (0x140 + b) || nseat ≠ s.neighbour b || nring + 1 ≠ s.ring then s
  else
    let s := s.wrs b [(B_STAT_NSEAT, nseat), (B_STAT_NRING, nring), (B_STAT_NLOCK, if nlock then 1 else 0), (B_LANES_MAP, map), (B_LANES_POLINV, pol),
      (B_STAT_STATE, 2)]
    ((s.setBport b { notrain := none, nref := nref }).linkChange b true).chooseRef

/-- The neighbour reports another seat or ring size (R437). -/
def State.seatMismatch (s : State) (b nseat nring : Nat) : State :=
  if !s.training b || (nseat = s.neighbour b ∧ nring + 1 = s.ring) then s
  else (s.wrs b [(B_STAT_NSEAT, nseat), (B_STAT_NRING, nring)]).braidFault b 1 (nseat % 8 + 16 * (nring % 8)) 0

/-- An up port goes down for a reason of Table 19.5, into state 3 or 4 (R446). Log entry 68 (DEDUCED). -/
def State.portGoesDown (s : State) (b reason st : Nat) : State :=
  if s.rd B_STAT_STATE b ≠ 2 then s
  else
    let s := (s.wr B_STAT_STATE b st).braidFault b 0 reason 0
    let s := (s.addTo B_FWDLOST_COUNT b (s.cap.sent b)).setSent b 0
    let s := s.setBport b { s.bport b with notrain := if st = 3 then some (s.et + usec 10000) else none }
    (s.linkChange b false).chooseRef

/-- RETRAIN restarts training on the port: an up port goes down for it (R437, R446). -/
def State.retrain (s : State) (b : Nat) : State :=
  let st := s.rd B_STAT_STATE b
  if st = 2 then s.portGoesDown b 1 3 else s

/-- A write of Bb_CTL.DOWN (R446). -/
def State.portDownWrite (s : State) (b : Nat) (down : Bool) : State :=
  let s := s.wrb B_CTL_DOWN b down
  let st := s.rd B_STAT_STATE b
  if !s.portOn b then s
  else if down then
    (if st = 2 then s.portGoesDown b 4 4 else (s.wr B_STAT_STATE b 4).setBport b { s.bport b with notrain := none })
  else if st = 4 then (s.wr B_STAT_STATE b 1).setBport b { s.bport b with notrain := some (s.et + usec 10000) }
  else s

/-- A write of Bb_CTL. -/
def State.bCtl (s : State) (b w : Nat) : State :=
  let s := if bit w 1 = s.on B_CTL_DOWN b then s else s.portDownWrite b (bit w 1)
  if bit w 0 then s.retrain b else s

/-- The function reset of a port takes it down (R446). -/
def State.braidReset (s : State) (b : Nat) : State := s.portGoesDown b 5 3

/-- A link-state change of another seat arrives on a port: it is passed on round the ring, and a re-placement is asked for (R238, R446). For a host
link that is known to be up, it is a change of width or speed; this seat's own message ends its way here. Log entry 68 (DEDUCED). -/
def State.linkMessage (s : State) (b : Nat) (host : Bool) (link : Nat) (up : Bool) : State :=
  let known := if host then decide (link ∈ s.hostSeats) else decide (link ∈ s.linksUp)
  if (known = up && !(host && up)) || (host && link = s.seat) then s
  else
    let s := if host then { s with hostSeats := withLink s.hostSeats link up } else { s with linksUp := withLink s.linksUp link up }
    let s := if s.portUp (1 - b) then s.emit (.braidLink (1 - b) host link up) else s
    s.plwAsk (if host then 5 else 4)

/-- 10 ms without the port up (R474); the fault is the caller's. -/
def State.notrainDue (s : State) (b : Nat) : Option Nat := (s.bport b).notrain

/-! ## Device time -/

/-- Time stamps have been exchanged on an up link: the offset of this device's time against the neighbour's and the one-way delay, in ps, and
what the neighbour reports of its lock and reference (R440). Offset and delay are read as 32-bit words. -/
def State.timeStamps (s : State) (b : Nat) (ofs : Int) (delay : Nat) (nlock nref : Bool) : State :=
  if !s.portUp b then s
  else
    let s := s.wrs b [(B_TOFS_PS, ofS 32 ofs), (B_DELAY_PS, delay), (B_STAT_NLOCK, if nlock then 1 else 0)]
    let s := (s.setBport b { s.bport b with nref := nref }).chooseRef
    if !s.follower || !s.on B_STAT_REF b then s
    else
      let ticks := Int.fdiv (ofs + 625) 1250
      let first := !s.aligned
      let step := first && (s.committed.isNone && !s.bootEnded || decide (ticks < 0))
      let s : State := if first then { s with aligned := true } else s
      let s : State := if step then { s with dt0 := s.dt0 - ticks, dtSeen := [] } else s
      let left := if step then ofs - 1250 * ticks else ofs
      let s := if step then s.wr B_TOFS_PS b (ofS 32 left) else s
      let near := decide (-80 ≤ left ∧ left ≤ 80)
      let s := (s.wrb B_STAT_ALIGNED 0 near).wrb B_STAT_ALIGNED 1 near
      if left < -1250 || 1250 < left then s.braidTime 2 else s

/-! ## Items -/

/-- The ring sample of a channel: its index, path and source interval (R234, R444). -/
def State.ringPathOf (s : State) (idx : Nat) : Option RPath := s.place.paths.find? (fun r => r.idx == idx)

/-- The last boundary of ring sample s that has been released; none of the source's boundaries before the record came into force. -/
def State.lastRel (s : State) (idx : Nat) : Nat := mget s.ringLast 0 idx

/-- A late item or event (R444, R445). -/
def State.braidLate (s : State) (b ec : Nat) : State := (s.addTo B_LATE_COUNT b 1).braidFault b 2 0 ec

/-- An event that reaches its consumer at device time t without a hop of this seat (R444, R445): a picot takes it with the other inputs of the cycle, and
a muted channel delivers nothing (R252, R253). -/
def State.arrive (s : State) (ec t : Nat) : State :=
  match picotIn (s.rd EC_CFG_CONS ec) with
  | some _ => s.fly ec t
  | none =>
    let q := s.storm ec t
    if q.1 then (q.2.logEvent ec).consume ec (s.rd EC_CFG_CONS ec) t else q.2

/-- Port and hops of a ring sample's path for the source's boundary b (R446). -/
def RPath.way (r : RPath) (b : Nat) : Nat × Nat :=
  match r.past with
  | some (upto, port, x) => if b ≤ upto then (port, x) else (r.port, r.x)
  | none => (r.port, r.x)

/-- The slot of ring sample idx takes a value (R444). -/
def State.ringSlot (s : State) (idx : Nat) (v : Int) (q n : Nat) : State :=
  { s with xslots := mset s.xslots ((0 : Int), 3, 0) (0x100 + idx) (v, q, n) }

/-- The slot takes nothing: 0 with QUAL 3, and a SEQ that nothing states, a free value (R444). -/
def State.ringNone (s : State) (idx : Nat) : State := (s.ringSlot idx 0 3 (s.fresh % 2 ^ 16)).drawn

/-- The slot takes an item, whose P must be the one of the marking (R444); port: that of the path. -/
def State.ringItem (s : State) (r : RPath) (value qual seq per port : Nat) : State :=
  if per = r.per then s.ringSlot r.idx (toS 24 value) qual seq else (s.ringNone r.idx).braidFault (if port = 1 then 0 else 1) 4 0 r.ec

/-- An item of the latency class arrives on port b for a seat (R441 to R445). One that enters the receive FIFO in the FAB cycle of its release counts as
on time, whichever command came first (R444). An item with a CRC error is discarded and counted; one for another
seat goes on in the same direction. A ring sample carries its boundary, an event its device time of publication and its source seat; an event of a
channel without a record is nothing (R243), and a late one is delivered at once (R258). -/
def State.itemArrive (s : State) (b dst src ec : Nat) (ring crc : Bool) (value qual seq per time : Nat) : State :=
  if !s.portUp b then s
  else if crc then (s.addTo B_CRCERR_COUNT b 1).braidFault b 3 0 ec
  else if dst ≠ s.seat then
    (if s.portUp (1 - b) then s.emit (.braidItem (1 - b) dst ec ring value qual seq per time) else s)
  else if ring then
    match s.place.paths.find? (fun r => r.ec == ec) with
    | none => s
    | some r =>
      if time = s.lastRel r.idx && s.et / 64 = s.etOf (time + 9 * (r.way time).2) / 64 && s.pathUp s.ring r.seat s.seat (r.way time).1 then
        s.ringItem r value qual seq per (r.way time).1
      else if time ≤ s.lastRel r.idx then s.braidLate b ec
      else { s with ringItems := s.ringItems ++ [⟨ec, time, value, qual, seq, per⟩] }
  else if ec ∉ s.ecUsed then s
  else
    let due := time + 2 + 9 * (s.eventPath src s.seat).2.1
    if s.tick ≤ due then { s with gItems := s.gItems ++ [(ec, due)] }
    else (s.braidLate b ec).arrive ec (s.tick + (if s.et % 64 = 0 then 0 else 1))

/-- The release of ring sample idx for its next boundary (R212, R444). A path that crosses a break carries nothing (R238), and a new path applies from the
first boundary after its re-placement (R446). The arrival event reaches the channel's consumer and producer 0x0A00 + idx publishes. -/
def State.ringRelease (s : State) (idx : Nat) : State :=
  match s.ringPathOf idx with
  | none => s
  | some r =>
    let p := max 1 r.per
    let now := s.tick - min s.tick (9 * r.x)
    let b := if s.lastRel idx = 0 then ceilTo (max now 1) p else s.lastRel idx + p
    let w := r.way b
    let t := b + 9 * w.2
    let s := s.reach (s.etOf t)
    let it := s.ringItems.find? (fun i => i.ec == r.ec && i.b == b)
    let it := if s.pathUp s.ring r.seat s.seat w.1 then it else none
    let s := { s with ringItems := s.ringItems.filter (fun i => !(i.ec == r.ec && decide (i.b ≤ b))), ringLast := mset s.ringLast 0 idx b }
    let s := match it with
      | some i => s.ringItem r i.value i.qual i.seq i.per w.1
      | none => s.ringNone idx
    (s.arrive r.ec t).publishAt (0xA00 + idx) t

/-- A waiting global event of a channel is delivered at its edge (R258, R445). -/
def State.globalRelease (s : State) (ec : Nat) : State :=
  match s.gItems.find? (fun g => g.1 == ec) with
  | none => s
  | some g => (({ s with gItems := s.gItems.erase g }).reach (s.etOf g.2)).arrive ec g.2

end Sys2Proof.Machine
end

