-- ==== Sys2Proof/Machine/Power.lean ====
section
/-!
DEFINITION. Supply and power states (spec/20): the known events and conditions of each unit, the choice of a state, entries, exits and
wakes (R460 to R466), Yard (R467 to R469), the quiet period (R470), and what the power die measures (R450, R457 to R459, R471). The function
reset of a modulator (R76, R95) stands here because a Yard exit restarts modulators in the same way.
-/
namespace Sys2Proof.Machine
open F

/-- The device is powered; nothing else acts while it is not (R451, R455). Log entry 77 (DESIGN CHOICE). -/
def State.live (s : State) (f : State → State) : State := if s.supply.up then f s else s

/-- A supply fault 0x21 + b with its value (R471). -/
def State.pwrFault (s : State) (b value : Nat) : State :=
  (s.wrs 0 [(PWR_FINFO_CODE, 0x21 + b), (PWR_FINFO_VALUE, value)]).setFlag 19 PWR_FAULT_FLAGS 0 b

/-! ## Function reset of a modulator -/

/-- The roles that are reset together with role n: both of an interleaved pair (R76). -/
def State.modGroup (s : State) (n : Nat) : List Nat :=
  let e := n / 2 * 2
  if s.on MOD_CFG_ILV e && s.on MOD_CFG_EN e then [e, e + 1] else [n]

/-- A tile's calibration on converter k is given up, and the converter goes on with its own work. -/
def State.calDrop (s : State) (t k : Nat) : State :=
  let m := s.mc k
  let s := s.setMc k { m with cals := m.cals.filter (·.1 != t) }
  match m.conv.map McConv.work with
  | some (.cal t' _) => if t' = t then s.mcNext k else s
  | _ => s

/-- A swap of a role ends with SWAP_ABORT: the other unit is released, idle or, after a REPLACE, out of service (R95). -/
def State.swapAbort (s : State) (n : Nat) : State :=
  let t := n / 8
  match (s.mtile t).cur with
  | none => s
  | some w =>
    if w.req.role ≠ n then s
    else
      let o := s.freeUnit t
      let s := s.setMunit o { s.munit o with valid := false, restart := none, failed := (s.munit o).failed || w.req.replace }
      let s := (s.swapDone t n 0x4A).modFault n 9
      if w.phase = 4 then s.calDrop t w.mc else s

/-- The reset of role n: no valid codes and no overload, decimator and history clear, SETTLED clear (R76). -/
def State.modStop (s : State) (n : Nat) : State :=
  (s.modGroup n).foldl (fun s m =>
    let s := s.swapAbort m
    let u := s.unitOf m
    (s.setMunit u { s.munit u with valid := false, restart := none, resetDue := none, episode := false, endAt := none, after := 0, ext := 0 }).clearRole
      (s.pubRole m)) s

/-- Its release: the units restart 64 MOD cycles on, the second of a pair half a MOD cycle after the first (R76, R77). -/
def State.modGo (s : State) (n : Nat) : State :=
  (s.modGroup n).foldl (fun s m => let u := s.unitOf m; s.setMunit u { s.munit u with restart := some (s.et + 64 * 128 + if s.pairOdd m then 64 else 0) }) s

/-! ## Units -/

def State.punit (s : State) (u : Nat) : PUnit := mget s.punits {} u
def State.setPunit (s : State) (u : Nat) (x : PUnit) : State := { s with punits := mset s.punits {} u x }

/-- The state of unit u: 0 Run, 1 Browse, 2 Bed (Table 20.8). -/
def State.pstate (s : State) (u : Nat) : Nat :=
  if u < 8 then s.rd PWR_STAT_TILE 0 / 4 ^ u % 4 else s.rd PWR_STAT_CLUSTER 0

def State.setPstate (s : State) (u v : Nat) : State :=
  if u < 8 then s.wr PWR_STAT_TILE 0 (s.rd PWR_STAT_TILE 0 - s.pstate u * 4 ^ u + v % 4 * 4 ^ u) else s.wr PWR_STAT_CLUSTER 0 v

/-- A unit is out of Run. -/
def State.asleep (s : State) (u : Nat) : Bool := s.pstate u != 0

/-- A unit or the whole device is out of Run. -/
def State.away (s : State) (u : Nat) : Bool := s.asleep u || s.yard.isSome

/-- Exit latency of Browse and Bed in ticks: 40 ns and 6 µs (Table 20.4); the guards of PWR_GUARD0. -/
def exitTicks (st : Nat) : Nat := if st = 1 then 32 else 4800
def State.guardTicks (s : State) (st : Nat) : Nat := if st = 1 then s.rd PWR_GUARD0_BROWSE 0 else 16 * s.rd PWR_GUARD0_BED 0

/-! ## Known events -/

/-- The smaller of two optional instants. -/
def minOpt : Option Nat → Option Nat → Option Nat
  | some a, some b => some (min a b)
  | some a, none => some a
  | none, b => b

/-- Consumers that producers reach, directly or through picots (R463). -/
def State.reaches (s : State) : Nat → List Nat → List Nat → List Nat
  | 0, _, _ => []
  | fuel + 1, seen, prods =>
    let cons := (s.ecUsed.filter fun c => decide (s.rd EC_CFG_PROD c ∈ prods)).map fun c => s.rd EC_CFG_CONS c
    let ps := ((cons.filterMap picotIn).map (·.1)).dedup.filter (fun p => decide (p ∉ seen))
    cons ++ (if ps.isEmpty then [] else s.reaches fuel (seen ++ ps) (ps.flatMap fun p => [0x800 + p, 0x900 + p]))

/-- The engines of a tile, its spare unit last. -/
def tileEngs (t : Nat) : List Nat := (List.range 6).map (6 * t + ·) ++ [48 + t]

/-- The placed jobs of a tile. -/
def State.tileJobs (s : State) (t : Nat) : List PJob := s.place.jobs.filter fun j => j.engine / 6 == t

/-- The job record of a placed job. -/
def State.recOf (s : State) (j : PJob) : Option JobRec := ((s.committed.getD {}).jobs).find? fun r => r.job == j.job

/-- An intent job: an intent producer reaches its trigger (R215). -/
def State.intentJob (s : State) (j : PJob) : Bool := j.job ∈ s.reaches 257 [] ((List.range 62).map (0xB01 + ·))

/-- The next trigger instant of a class S job: its modulator's next boundary, or the release of its ring sample. -/
def State.jobNext (s : State) (j : PJob) : Option Nat :=
  match s.recOf j with
  | none => none
  | some r =>
    if r.trig = 1 then (if r.src < 64 then some (s.etOf (s.nextB r.src)) else none)
    else
      match s.place.paths.find? (fun p => p.ec == r.src) with
      | some p => some (s.etOf (ceilTo (max 1 (s.tick - min s.tick (9 * p.x))) (max 1 p.per) + 9 * p.x))
      | none => none

/-- Jobs of classes T and S on other tiles that post to a leg of tile u (R215). -/
def State.jobsInto (s : State) (u : Nat) : List PJob :=
  s.place.jobs.filter fun j => j.cls != 3 && j.engine / 6 != u &&
    (match s.recOf j with | some r => (List.range 6).any fun k => bit r.legs (6 * u + k) | none => false)

/-- When the path of a job's next run starts: its reference instant, the floor before the trigger (R203, R215). -/
def State.pathStart (s : State) (j : PJob) : Option Nat :=
  let fl := ((s.recOf j).bind fun r => (s.committed.getD {}).jobFloor r).getD 0
  (s.jobNext j).map (· - (64 * fl + 1249) / 1250)

/-- The next compare or end of a timer in RUN, from its nominal rate, a slave's as if every source edge reached it; a CORE source with spread spectrum 0.5 % earlier (R463). -/
def State.timerNext (s : State) (n : Nat) : Option Nat :=
  let s := s.gtNow n
  if s.rd GT_STAT_STATE n ≠ 1 then none
  else (s.gtNominal n (s.gtTarget n)).map fun t => if (s.timer n).src = 2 && s.on SYS_CLKSTAT_SSC 0 then t - (t - s.et) / 200 else t

/-- The timers whose producers reach a consumer that satisfies a test. -/
def State.timersTo (s : State) (test : Nat → Bool) : List Nat :=
  (List.range 64).filter fun n => s.rd GT_STAT_STATE n == 1 && (s.reaches 257 [] [0x500 + n, 0x540 + n]).any test

/-- The next known event of a tile or of the cluster (R463), and for a tile the start of a path from another tile to one of its legs (R215). Log entry
90 (DEDUCED). -/
def State.nextKnown (s : State) (u : Nat) : Option Nat :=
  if u < 8 then
    let js := (s.tileJobs u).filter (fun j => j.cls == 2)
    let a := js.foldl (fun m j => minOpt m (s.jobNext j)) none
    let a := (s.jobsInto u).foldl (fun m j => minOpt m (s.pathStart j)) a
    let legs := ((List.range 6).map (6 * u + ·)).filter fun k => (s.leg k).st != .safe
    let b := legs.foldl (fun m k => minOpt m (minOpt ((s.nextEdge k).map (·.1)) ((s.leg k).pstart.map (· + (s.leg k).plen)))) a
    let mine (c : Nat) : Bool := (decide (c < 384) && (s.tileJobs u).any (fun j => j.job == c)) || (decide (0x810 + 6 * u ≤ c) && decide (c < 0x816 + 6 * u))
    (s.timersTo mine).foldl (fun m n => minOpt m (s.timerNext n)) b
  else
    let a := (List.range 16).foldl (fun m c => match (s.core c).wait with | .waitt d _ _ => minOpt m (some (s.etOf d)) | _ => m) none
    let b := (s.timersTo fun c => decide (0x200 ≤ c) && decide (c < 0x280)).foldl (fun m n => minOpt m (s.timerNext n)) a
    let irq (n : Nat) : Bool := (List.range 16).any (fun c => bit (s.rd CP_IEN_LINE c) (n / 16))
      && (s.on GT_IEN_MATCH_IE n || s.on GT_IEN_END_IE n)
    ((List.range 64).filter irq).foldl (fun m n => minOpt m (s.timerNext n)) b

/-! ## Conditions of Table 20.5 -/

/-- An engine has nothing to do. -/
def State.engIdle (s : State) (e : Nat) : Bool :=
  let x := s.eng e
  x.run.isNone && x.fb.isNone && x.pend.isEmpty && x.held.isEmpty

/-- A path from another tile to a leg of tile u is under way (R215): its trigger is pending, its job runs, or a post is in the network. -/
def State.pathBusy (s : State) (u : Nat) : Bool :=
  s.posts.any (fun q => q.leg / 6 == u) || (s.jobsInto u).any fun j =>
    s.on LE_SLOT_STAT_PENDING (8 * j.engine + j.slot) || (match (s.eng j.engine).run with | some r => r.slot == j.slot | none => false)

/-- The conditions of Table 20.5 for Browse, 1, or Bed, 2, of a unit. Log entry 90 (DEDUCED). -/
def State.unitIdle (s : State) (u st : Nat) : Bool :=
  if u < 8 then
    (tileEngs u).all s.engIdle && (s.ltile u).cur.isNone
      && (s.tileJobs u).all (fun j => j.cls != 1 && !s.intentJob j) && s.lanesOn.all (fun l => l / 4 / 6 != u) && !s.pathBusy u
      && (st == 1 || ((List.range 6).all (fun k => (s.leg (6 * u + k)).st == .safe)
        && (List.range 8).all (fun n => !s.modOn (8 * u + n)) && (s.tileJobs u).all (fun j => j.cls != 2)))
  else
    (List.range 16).all (fun c =>
        let k := s.core c
        k.st == 0 || k.st == 3 || (k.st == 1 && (match k.wait with | .wfe .. => true | .waitt .. => true | _ => false)))
      && (st == 1 || (List.range 64).all (fun n => !(s.rd GT_STAT_STATE n == 1 && (s.timer n).src == 2)))

/-- The enable of a state of a unit in PWR_CTL. -/
def State.unitEn (s : State) (u st : Nat) : Bool :=
  if u < 8 then bit (s.rd (if st = 1 then PWR_CTL_TBROWSE else PWR_CTL_TBED) 0) u else s.on (if st = 1 then PWR_CTL_CBROWSE else PWR_CTL_CBED) 0

/-- A unit may enter a state while its conditions hold and it is enabled (R462). -/
def State.mayEnter (s : State) (u st : Nat) : Bool := s.unitEn u st && s.unitIdle u st

/-! ## Choosing, entering and leaving -/

/-- A unit starts its exit, or holds it behind the entry in progress; in the FAB cycle of its decision to enter it stays in Run (R465, R466). -/
def State.startExit (s : State) (u : Nat) : State :=
  let x := s.punit u
  if !s.asleep u || x.exit.isSome || s.yard.isSome then s
  else if x.entry.isSome && x.dec = s.et / 64 then (s.setPunit u {}).setPstate u 0
  else if x.entry.isSome then s.setPunit u { x with wake := true }
  else s.setPunit u { x with exitAt := none, wake := false, exit := some (s.et + 64 * exitTicks (s.pstate u)) }

/-- An unknown event needs a unit (R465). -/
def State.wakeUnit (s : State) (u : Nat) : State := s.startExit u

/-- The choice of a unit in a FAB cycle (R464). A unit in Bed that may only be in Browse exits. Log entry 70 (DEDUCED). -/
def State.powerEval (s : State) (u : Nat) : State :=
  if 8 < u || s.yard.isSome then s
  else
    let next := s.nextKnown u
    let slackOk (st : Nat) : Bool := match next with
      | none => true
      | some t => decide (s.et + 64 * (exitTicks st + s.guardTicks st) ≤ t)
    let at_ (st : Nat) : Option Nat := next.map fun t => t / 64 - (exitTicks st + s.guardTicks st)
    let cur := s.pstate u
    let x := s.punit u
    if x.exit.isSome then s
    else
      let pick := if s.mayEnter u 2 && slackOk 2 then 2 else if s.mayEnter u 1 && slackOk 1 then 1 else 0
      if pick = 0 || pick < cur then s.startExit u
      else if pick = cur then s.setPunit u { x with exitAt := at_ pick }
      else
        let e := if pick = 1 then s.et + 64 else s.within (usec 2)
        let s := if pick = 1 then s else s.drawn
        (s.setPunit u { dec := s.et / 64, entry := some e, exitAt := at_ pick }).setPstate u pick

/-- The scheduled exit of a unit starts (R464). -/
def State.scheduledExit (s : State) (u : Nat) : State :=
  match (s.punit u).exitAt with
  | some t => if s.yard.isSome then s else (s.reach (64 * t)).startExit u
  | none => s

/-- A unit is in Run: the engines of a tile may dispatch from now on, and the commands held for its legs act (R465). -/
def State.unitRun (s : State) (u : Nat) : State :=
  let s := (s.setPunit u {}).setPstate u 0
  if 8 ≤ u then s
  else
    let s := (tileEngs u).foldl (fun s e => s.setEng e { s.eng e with freeAt := max (s.eng e).freeAt s.et }) s
    let mine := s.heldLeg.filter fun h => h.1 / 6 == u
    let s := { s with heldLeg := s.heldLeg.filter fun h => h.1 / 6 != u }
    mine.foldl (fun s h => s.legCmd h.1 h.2) s

/-- The exit of a unit completes. -/
def State.exitDone (s : State) (u : Nat) : State := s.due (s.punit u).exit fun s => s.unitRun u

/-- A command to a leg, held while its tile is out of Run (R465). -/
def State.legCommand (s : State) (k w : Nat) : State :=
  if s.away (k / 6) then ({ s with heldLeg := s.heldLeg ++ [(k, w)] }).wakeUnit (k / 6) else s.legCmd k w

/-- A post reaches a leg, or waits for the exit of its tile (R129, R206, R465). -/
def State.postArrive (s : State) (k : Nat) : State :=
  if s.away (k / 6) then ({ s with posts := s.posts.map fun (q : Post) => if q.leg = k then { q with held := true } else q }).wakeUnit (k / 6)
  else s.postAccept k

/-- Run an event that needs a tile in Run; out of Run the tile's exit starts and the event waits where it stands (R465). -/
def State.needTile (s : State) (t : Nat) (f : State → State) : State := if s.away t then s.wakeUnit t else f s

/-- A trigger of a job counts at its presentation, and its tile leaves Browse or Bed (R465). -/
def State.tileTrigger (s : State) (e slot : Nat) : State := (if s.away (e / 6) then s.wakeUnit (e / 6) else s).jobTrigger e slot

/-- The same for an event that needs the cluster. -/
def State.needCluster (s : State) (f : State → State) : State := if s.away 8 then s.wakeUnit 8 else f s

/-! ## Yard -/

/-- Every condition of R467 except the slack. -/
def State.yardOk (s : State) : Bool :=
  s.on PWR_CTL_YARDEN 0 && (List.range 9).all (fun u => s.unitIdle u 2)
    && (List.range 48).all (fun k => (s.leg k).st == .safe) && s.lanesOn.isEmpty
    && (List.range 64).all (fun n => !(s.rd GT_STAT_STATE n == 1) || (s.timer n).src == 0 || (s.timer n).src == 3)
    && (List.range 16).all (fun k => (s.mc k).conv.isNone && !s.on MC_CTL_RUN k) && !s.on CAP_CTL_EN 0
    && (List.range 32).all (fun h => s.rd DMAC_STAT_STATE h != 2 && s.rd DMAC_STAT_STATE h != 3)
    && !s.prkBusy && s.nvOp.isNone
    && (List.range 8).all (fun t => (s.mtile t).cur.isNone && (s.mtile t).queue.isEmpty && (s.ltile t).cur.isNone && (s.ltile t).queue.isEmpty)
    && (!s.linkUp || (s.rd PCIE_LINK_LSTATE 0 == 6 && s.on PWR_STAT_QUIET 0))
    && !s.portUp 0 && !s.portUp 1

/-- The next known event of the device in Yard: of all units, and the end of the quiet period. -/
def State.yardNext (s : State) : Option Nat :=
  let a := (List.range 9).foldl (fun m u => minOpt m (s.nextKnown u)) none
  if s.on PWR_STAT_QUIET 0 then minOpt a (some (s.etOf (s.rd PWR_QUIET_LO_END 0 + 2 ^ 32 * s.rd PWR_QUIET_HI_END 0))) else a

/-- An auxiliary output, 0 AUX12 or 1 AUX5, is on: enabled, not switched off by its limit (R457), and not off for Yard (R458). -/
def State.auxShow (s : State) (o : Nat) : State :=
  let off := s.yard.isSome && s.on PWR_AUXCTL_YARDOFF 0 && (s.punit 9).exit.isNone
  if o = 0 then s.wrb PWR_AUXSTAT_PG12 0 (s.on PWR_AUXCTL_AUX12EN 0 && s.supply.retry12.isNone && !off)
  else s.wrb PWR_AUXSTAT_PG5 0 (s.on PWR_AUXCTL_AUX5EN 0 && s.supply.retry5.isNone && !off)
def State.auxShows (s : State) : State := (s.auxShow 0).auxShow 1

/-- Off-time return stops listening, and at the exit from Yard the low outputs begin a new listening period (R468, R194). -/
def State.otrYard (s : State) (go : Bool) : State :=
  (List.range 96).foldl (fun s i =>
    let k := i / 2
    let out := i % 2
    let x := s.leg k
    let o := x.otr out
    let low := !s.on (if out = 0 then L_STAT_HOUT else L_STAT_LOUT) k
    if !s.otrOn k out || !low || o.clamped then s
    else
      (s.setLeg k (x.setOtr out { o with listenDue := if go then some (s.et + s.settle k) else none, listening := false })).wr
        (if out = 0 then L_OTRSTAT_LISTENH else L_OTRSTAT_LISTENL) k 0) s

/-- Yard entry (R467, R468): enabled modulators stop, both PLLs are off, and the auxiliary outputs where YARDOFF is set (R458). -/
def State.yardEntry (s : State) : State :=
  let g := usec 1500 + usec (s.rd PWR_GUARD1_YARD 0)
  let next := s.yardNext
  if s.yard.isSome || !s.yardOk || (match next with | some t => decide (t < s.et + g) | none => false) then s
  else
    let s := (s.setPunit 9 { dec := s.et / 64, entry := some (s.within (usec 200)), exitAt := next.map fun t => (t - g) / 64 }).drawn
    let s := (List.range 64).foldl (fun s n => if s.modOn n then let u := s.unitOf n; s.setMunit u { s.munit u with valid := false } else s) s
    let s := (s.otrYard false).wrs 0 [(SYS_CLKSTAT_CPLL_LOCK, 0), (SYS_CLKSTAT_KPLL_LOCK, 0)]
    ({ s.startPace with yard := some s.tick }).auxShows

/-- The device is back in Run after Yard, every unit with it (R468). -/
def State.yardRun (s : State) : State :=
  let s := (((s.setPunit 9 {}).wrs 0 [(SYS_CLKSTAT_CPLL_LOCK, 1), (SYS_CLKSTAT_KPLL_LOCK, 1)]).endPace).otrYard true
  (List.range 9).foldl (fun s u => s.unitRun u) (({ s with yard := none }).auxShows)

/-- An exit from Yard starts, or waits for the end of the entry; in the FAB cycle of the decision the device stays in Run (R466, R469). Where
YARDOFF switched them off, the auxiliary outputs are on for 1 ms before Run (R458). -/
def State.yardLeave (s : State) : State :=
  let x := s.punit 9
  if x.exit.isSome then s
  else if x.entry.isSome && x.dec = s.et / 64 then s.yardRun
  else if x.entry.isSome then s.setPunit 9 { x with wake := true }
  else
    let t := s.within (usec 1500)
    let t := if s.on PWR_AUXCTL_YARDOFF 0 then max t (s.et + usec 1000) else t
    ((s.setPunit 9 { x with exitAt := none, wake := false, exit := some t }).drawn).auxShows

/-- A wake source of Table 20.6 (R469, R470). -/
def State.yardWake (s : State) (src : Nat) : State :=
  let x := s.punit 9
  let en := if src = 1 then x.exitAt.isSome else if src = 3 then s.on PWR_WAKE_WPCIE 0 else if src = 4 then s.on PWR_WAKE_WB0 0 && s.portOn 0
    else if src = 5 then s.on PWR_WAKE_WB1 0 && s.portOn 1 else if src = 6 then s.on PWR_WAKE_WPIN 0 else decide (src = 2 ∨ src = 7)
  if s.yard.isNone || !en || x.exit.isSome || x.wake then s
  else
    let s := if src = 1 then s.reach (64 * x.exitAt.getD 0) else s
    let s := if src = 3 && s.on PWR_STAT_QUIET 0 then s.pwrFault 7 0 else s
    (if x.entry.isSome && x.dec = s.et / 64 then s else s.wr PWR_WAKE_LAST 0 src).yardLeave

/-- The end of an entry (R466); Yard entries are counted (Table 20.13). -/
def State.entryDone (s : State) (u : Nat) : State :=
  s.due (s.punit u).entry fun s =>
    let x := s.punit u
    let s := s.setPunit u { x with entry := none, wake := false }
    let s := if u = 9 then s.wr PWR_WAKE_YARDS 0 (satInc (s.rd PWR_WAKE_YARDS 0) 255) else s
    if x.wake then (if u = 9 then s.yardLeave else s.startExit u) else s

/-- Yard exit (R294, R468): PLLs locked, device time corrected by the cycles that the reference has counted since entry when AON is locked
to it, and every enabled modulator restarts as after a function reset. -/
def State.yardExit (s : State) (refCycles : Nat) : State :=
  match s.yard with
  | none => s
  | some t0 =>
    s.due (s.punit 9).exit fun s =>
      let y := s.tick
      let locked := s.on SYS_CLKSTAT_AON_LOCKED 0
      let up := if locked then t0 + 16 * refCycles - y else 0
      let s := s.endPace
      let s := ({ s with dt0 := s.dt0 + up }).wrs 0 [(TG_DTSTAT_STEP, min up (2 ^ 28 - 1)), (TG_DTSTAT_UNCORR, b2n !locked)]
      (List.range 64).foldl (fun s n => if s.on MOD_CFG_EN n && !s.pairOdd n then (s.modStop n).modGo n else s) s.yardRun

/-- A write of PWR_CTL: clearing the enable of a state that a unit is in starts its exit (R462). -/
def State.pwrCtl (s : State) (w : Nat) : State :=
  let s := s.wrs 0 [(PWR_CTL_YARDEN, bits w 18 18), (PWR_CTL_CBED, bits w 17 17), (PWR_CTL_CBROWSE, bits w 16 16), (PWR_CTL_TBED, bits w 15 8),
    (PWR_CTL_TBROWSE, bits w 7 0)]
  let s := (List.range 9).foldl (fun s u => if s.asleep u && !s.unitEn u (s.pstate u) then s.startExit u else s) s
  if s.yard.isSome && !s.on PWR_CTL_YARDEN 0 then s.yardLeave else s

/-! ## Quiet period -/

/-- The low half of the quiet-period end is held for the writer (R470). -/
def State.quietLoWrite (s : State) (ini w : Nat) : State := { s with quietLo := mset s.quietLo none ini (some (w % 2 ^ 32)) }

/-- The high half commits the pair (R470). -/
def State.quietHiWrite (s : State) (ini w : Nat) : State :=
  let s := match mget s.quietLo none ini with | some lo => s.wr PWR_QUIET_LO_END 0 lo | none => s
  let s := ({ s with quietLo := mset s.quietLo none ini none }).wr PWR_QUIET_HI_END 0 w
  s.wrb PWR_STAT_QUIET 0 (decide (s.tick < s.rd PWR_QUIET_LO_END 0 + 2 ^ 32 * s.rd PWR_QUIET_HI_END 0))

/-- Device time reaches the end of the quiet period (R470). -/
def State.quietEnd (s : State) : State :=
  if !s.on PWR_STAT_QUIET 0 then s
  else (s.reach (s.etOf (s.rd PWR_QUIET_LO_END 0 + 2 ^ 32 * s.rd PWR_QUIET_HI_END 0))).wr PWR_STAT_QUIET 0 0

/-! ## The power die -/

/-- VHOLD crosses the low-supply warning level (R471). -/
def State.uvwarn (s : State) (vhold : Nat) (below : Bool) : State :=
  if below = s.supply.uv then s
  else
    let s := { s with supply := { s.supply with uv := below } }
    if below then s.pwrFault 0 vhold else s

/-- An auxiliary output, 0 AUX12 or 1 AUX5, has been at its limit for 200 µs (R457). -/
def State.auxLimit (s : State) (o ma : Nat) : State :=
  let p := s.supply
  let s := s.wr (if o = 0 then PWR_AUXSTAT_I12 else PWR_AUXSTAT_I5) 0 ma
  let on := s.on (if o = 0 then PWR_AUXSTAT_PG12 else PWR_AUXSTAT_PG5) 0
  if !on then s
  else
    let first := !s.on (if o = 0 then PWR_AUXSTAT_HIC12 else PWR_AUXSTAT_HIC5) 0
    let r := some (s.et + usec 20000)
    let e := some (s.et + usec 100000)
    let s := { s with supply := if o = 0 then { p with retry12 := r, ep12 := e } else { p with retry5 := r, ep5 := e } }
    let s := if o = 0 then s.wrs 0 [(PWR_AUXSTAT_PG12, 0), (PWR_AUXSTAT_HIC12, 1)] else s.wrs 0 [(PWR_AUXSTAT_PG5, 0), (PWR_AUXSTAT_HIC5, 1)]
    let s := if first then s.pwrFault (if o = 0 then 3 else 4) ma else s
    if first && s.on (if o = 0 then PWR_AUXCTL_STOP12 else PWR_AUXCTL_STOP5) 0 then s.stopAll else s

/-- 20 ms after its switch-off an auxiliary output retries (R457). -/
def State.auxRetry (s : State) (o : Nat) : State :=
  s.due (if o = 0 then s.supply.retry12 else s.supply.retry5) fun s =>
    ({ s with supply := if o = 0 then { s.supply with retry12 := none } else { s.supply with retry5 := none } }).auxShow o

/-- 100 ms without a limit event (R457). -/
def State.auxEpisodeEnd (s : State) (o : Nat) : State :=
  s.due (if o = 0 then s.supply.ep12 else s.supply.ep5) fun s =>
    let s := { s with supply := if o = 0 then { s.supply with ep12 := none } else { s.supply with ep5 := none } }
    s.wr (if o = 0 then PWR_AUXSTAT_HIC12 else PWR_AUXSTAT_HIC5) 0 0

/-- One enable of an AUXCTL write: clearing it is refused while a leg is not in SAFE (R458). -/
def State.auxEnable (s : State) (f : Field) (o : Nat) (v : Bool) : State :=
  if v = s.on f 0 then s
  else if !v && (List.range 48).any (fun k => (s.leg k).st != .safe) then s.raise PWR_AUXSTAT_WERR 0 1
  else (s.wrb f 0 v).auxShow o

/-- A write of PWR_AUXCTL (R458). -/
def State.auxCtl (s : State) (w : Nat) : State :=
  let s := s.wrs 0 [(PWR_AUXCTL_YARDOFF, bits w 4 4), (PWR_AUXCTL_STOP5, bits w 3 3), (PWR_AUXCTL_STOP12, bits w 2 2)]
  (s.auxEnable PWR_AUXCTL_AUX5EN 1 (bit w 1)).auxEnable PWR_AUXCTL_AUX12EN 0 (bit w 0)

/-- A sample of VIN, in 10 mV, and of the input and auxiliary currents, in mA (R459). Power is in units of 10 µW and energy in units of 10 pJ
until they are whole milliwatts and microjoules. -/
def State.inputSample (s : State) (vin : Int) (iin i12 i5 : Nat) : State :=
  let p := s.supply
  let w := vin.toNat * (iin % 2 ^ 16)
  let e := p.efrac + w
  let en := s.rd PWR_ENERGY_LO_ENERGY 0 + 2 ^ 32 * s.rd PWR_ENERGY_HI_ENERGY 0 + e / 100000
  let s := s.wrs 0 [(PWR_VIN_VIN, ofS 16 vin), (PWR_VIN_IIN, iin), (PWR_AUXSTAT_I12, i12), (PWR_AUXSTAT_I5, i5), (PWR_ENERGY_LO_ENERGY, en),
    (PWR_ENERGY_HI_ENERGY, en / 2 ^ 32)]
  let sum := p.psum + w
  if 1024 ≤ p.pn + 1 then
    ({ s with supply := { p with psum := 0, pn := 0, efrac := e % 100000 } }).wr PWR_PIN_PIN 0 (sum / 102400)
  else { s with supply := { p with psum := sum, pn := p.pn + 1, efrac := e % 100000 } }

/-- VIN above the overvoltage threshold, and back below 77 V (R450). -/
def State.overvoltage (s : State) (vin : Nat) : State := ({ s with supply := { s.supply with fetOpen := true } }).pwrFault 1 vin
def State.overvoltageClear (s : State) : State := { s with supply := { s.supply with fetOpen := false } }

/-- VIN below −1 V (R450). -/
def State.reverseInput (s : State) (vin : Int) : State :=
  ({ s with supply := { s.supply with fetOpen := true } }).pwrFault 2 (ofS 16 vin)

end Sys2Proof.Machine
end

