-- ==== Sys2Proof/Machine/Load.lean ====
section
/-!
DEFINITION. Function resets one by one (Table 21.3 and the rules it names), and the structure load of a commit (R52 to R54, R154, R494): where
each section of an image goes. Settings records (R43) are applied here.
-/
namespace Sys2Proof.Machine
open F

/-! ## Function resets -/

/-- Registers of one instance of a block back to their reset values: fields of the access types given. -/
def State.rstRows (s : State) (rows : List RegRow) (inst : Nat) (acc : List Acc) : State :=
  { s with regs := s.regs.filter fun p =>
      !(rows.any fun r => p.1 / 1024 / max 1 r.n == inst && r.fs.any fun f => f.f.key.val == p.1 % 1024 && decide (f.acc ∈ acc)) }

/-- Every access type but WL; WL fields join them while nothing has locked them (R55). -/
def State.rstAcc (s : State) : List Acc := [.rw, .ro, .w1c, .w1p, .rl] ++ if s.on PRK_STATE_LOCKED 0 then [] else [.wl]

/-- MCk in reset (R116): the conversion in progress is discarded, and a check among it comes again in the rotation; a calibration on it starts
again from its first point (R109). -/
def State.mcReset (s : State) (k : Nat) : State :=
  let x := s.mc k
  let l := s.xcDealt k
  let back (w : Option McWork) : Option Nat := match w with | some (.cross n) => l.idxOf? n | _ => none
  let s := s.setMc k { cals := x.cals, rot := ((back x.redo).orElse fun _ => back (x.conv.map McConv.work)).getD x.rot }
  let s := x.cals.foldl (fun s t => match (s.mtile t.1).cur with
    | some w => s.setMtile t.1 { s.mtile t.1 with cur := some { w with point := 0, pointDue := none } }
    | none => s) s
  let s := (s.rstFields k [MC_STAT_OVR, MC_STAT_NOSYNC, MC_MAINSPER_PER]).mainsStart k
  (List.range 16).foldl (fun s i => s.rstFields (16 * k + i) [MC_LAST_VALID, MC_LAST_CLAMP, MC_LAST_NOSYNC, MC_LAST_VALUE]) s

/-- MODSt in reset: the calibration of the unit that carries no role starts again (Table 21.3). -/
def State.spareReset (s : State) (t : Nat) : State :=
  match (s.mtile t).cur with
  | some w => if w.phase = 4 then s.setMtile t { s.mtile t with cur := some { w with point := 0, pointDue := none } } else s
  | none => s

/-- LESt in reset: the test or copy of the unit starts again (Table 21.3). -/
def State.lesReset (s : State) (t : Nat) : State :=
  match (s.ltile t).cur with
  | some w => if w.phase = 2 || w.phase = 4 then
      (if w.reload then s else s.setLtile t { s.ltile t with cur := some { w with due := s.et + 43520, own := [] } })
    else if w.phase = 3 then (s.setLtile t { s.ltile t with cur := some { w with due := s.within (usec 200) } }).drawn else s
  | none => s

/-- Lk in reset: SAFE, RW fields at their reset values, fault flags clear; the Springbok latch stays (R273, Table 21.3). -/
def State.legReset (s : State) (k : Nat) : State :=
  let t := s.legSafe k
  let t := (t.otrOff k 0).otrOff k 1
  State.edge 12 s (t.rstRows regsL k ([.rw, .w1c] ++ if s.on PRK_STATE_LOCKED 0 then [] else [.wl]))

/-- The capture streamer in reset: EN clear, its registers and those of its streams at reset values, the page table kept (Table 21.3).
RUN is loaded from the record's flags again. Blocks that the host has not acknowledged stay tracked. -/
def State.capReset (s : State) : State :=
  let runs := (s.committed.getD {}).sec 14
  let t := s.capStop
  let t := t.rstRows regsCAP 0 [.rw, .ro, .w1c, .w1p]
  let t := s.capUsed.foldl (fun t i =>
    let keep := t.rd CAP_S_CFG_ROUTE i
    let valid := t.rd CAP_S_CFG_VALID i
    let act := t.rd CAP_S_STAT_RPACT i
    let t := t.rstRows regsCAPS i [.rw, .ro, .w1c, .w1p]
    let t := t.wrs i [(CAP_S_CFG_ROUTE, keep), (CAP_S_CFG_VALID, valid), (CAP_S_STAT_RPACT, act), (CAP_S_STAT_STOPPED, if keep = 3 then 1 else 0),
      (CAP_S_CTL_RUN, u (runs.getD i []) 1 1 % 2)]
    t.setStream i { offPend := act != 0 }) t
  let c := t.cap
  State.edge 17 s { t with cap := { old := c.count, sent0 := c.sent0, sent1 := c.sent1, fwd := c.fwd } }

/-- Springbok in reset: SPR_FAULT and SPR_RELSTAT clear (Table 21.3). -/
def State.sprReset (s : State) : State :=
  State.edge 3 s (s.rstFields 0 [SPR_FAULT_FLAGS, SPR_RELSTAT_INIT, SPR_RELSTAT_LEG, SPR_RELSTAT_RESULT])

/-- Ground in reset: mutes, storm counts, the counts of ECn_STAT and the fault registers clear (Table 21.3). -/
def State.gndReset (s : State) : State :=
  let t := { s with mutes := [], ecWin := [] }
  let ks := [EC_STAT_MUTED.key.val, EC_STAT_DROP.key.val, EC_STAT_COUNT.key.val]
  let t := { t with regs := t.regs.filter fun p => decide (p.1 % 1024 ∉ ks) }
  State.edge 2 s (t.rstFields 0 [GND_FAULT_FLAGS, GND_STORMCH_EC, GND_PUBERR_COUNT, GND_PUBERR_CORE, GND_PUBERR_EC])

/-! ## Engines from a pricking (R52, R142, R154, R223) -/

/-- The job records that a placement puts on engine e, with slot and placed job. -/
def Image.onEngine (im : Image) (p : Placement) (e : Nat) : List (JobRec × PJob) :=
  (p.jobs.filter (·.engine == e)).filterMap fun q => (im.jobs.find? (·.job == q.job)).map fun j => (j, q)

/-- The registers of a slot for a job. -/
def State.loadSlot (s : State) (e : Nat) (j : JobRec) (slot : Nat) : State :=
  s.wrs (8 * e + slot) [(LE_SLOT_JOB_VALID, 1), (LE_SLOT_JOB_TRIG, j.trig), (LE_SLOT_JOB_SRC, j.src), (LE_SLOT_JOB_JOB, j.job),
    (LE_SLOT_CODE_ENTRY, j.entry), (LE_SLOT_CODE_IMAGE, j.image), (LE_SLOT_BUDGET_U, j.u), (LE_SLOT_BUDGET_BUDGET, j.budget),
    (LE_SLOT_PERIOD_PERIOD, j.period), (LE_SLOT_LEGSLO_LEGS, j.legs), (LE_SLOT_LEGSHI_LEGS, j.legs / 2 ^ 32)]

/-- An engine image goes into an engine's stores and data memory (R154): END beyond the stored words, which is how unlisted words read. -/
def EngImage.into (g : EngImage) (x : Engine) : Engine :=
  let put (l : List Nat) : List (Nat × Nat) := l.zipIdx.map fun (p : Nat × Nat) => (p.2, p.1)
  { x with vs := put g.vert, hs := put g.horiz, dm := Mem.wrL [] 0 g.init }

/-- Parameter words of a slot (R118, R153). -/
def putParams (dm : Mem) (slot : Nat) (ps : List Nat) : Mem :=
  (ps.zipIdx).foldl (fun (m : Mem) (p : Nat × Nat) => m.wrN (0xF800 + 0x100 * slot + 4 * p.2) 4 p.1) dm

/-- PLEN, f + p and the class lists of an engine's slots. -/
def Image.slotFacts (im : Image) (l : List (JobRec × PJob)) (x : Engine) : Engine :=
  let x := l.foldl (fun (x : Engine) (q : JobRec × PJob) =>
    { x with plen := mset x.plen 0 q.2.slot q.1.param.length, fp := mset x.fp 0 q.2.slot (q.2.f + q.2.p) }) x
  let x := { x with classU := (l.filter fun q => q.2.cls == 3).map fun q => q.2.slot }
  match l.find? (fun q => q.2.cls == 1) with
  | some q => { x with holdP := im.trigInt q.1, holdOff := if im.byRing q.1 then 9 * q.2.x else 0, holdH := im.hold (l.map (·.1)) }
  | none => x

/-- Engine e with the stores, data, parameter blocks and slots of a pricking under a placement (R52, R142, R154). The mailbox is empty and
nothing is pending. -/
def State.loadEngine (s : State) (im : Image) (p : Placement) (e : Nat) : State :=
  let l := im.onEngine p e
  let x : Engine := match l with
    | [] => {}
    | q :: _ => ((im.engImages.find? (·.id == q.1.image)).map fun g => g.into {}).getD {}
  let x := im.slotFacts l { x with dm := l.foldl (fun m q => putParams m q.2.slot q.1.param) x.dm }
  let s := (List.range 8).foldl (fun s i => s.rstFields (8 * e + i) [LE_SLOT_JOB_VALID, LE_SLOT_JOB_TRIG, LE_SLOT_JOB_SRC, LE_SLOT_JOB_JOB,
    LE_SLOT_CODE_ENTRY, LE_SLOT_CODE_IMAGE, LE_SLOT_BUDGET_U, LE_SLOT_BUDGET_BUDGET, LE_SLOT_PERIOD_PERIOD, LE_SLOT_LEGSLO_LEGS,
    LE_SLOT_LEGSHI_LEGS, LE_SLOT_STAT_PENDING]) s
  let s := l.foldl (fun s q => s.loadSlot e q.1 q.2.slot) s
  { (s.setEng e { x with freeAt := s.et }) with
    slotsUsed := s.slotsUsed.filter (fun n => decide (n / 8 ≠ e)) ++ l.map fun q => 8 * e + q.2.slot
    trigs := s.trigs.filter (fun t => decide (t.1 ≠ e))
    badCw := s.badCw.filter (fun c => !((c.1 == 2 || c.1 == 3) && c.2.1 == e)) }

/-- The reload of engine e from the committed pricking (R142, R146). -/
def State.reloadEngine (s : State) (e : Nat) : State := s.loadEngine (s.committed.getD {}) s.place e

/-- The end of a reload (R142): the engine's jobs are triggerable. A held engine stays as it is. -/
def State.reloadDone (s : State) (e : Nat) : State :=
  if s.fnHeld (0x60 + e) && (s.fnRst (0x60 + e)).keep then s
  else s.due (s.eng e).reload fun s => s.reloadEngine e

/-! ## Settings records (R43, R494) -/

/-- GPIO pins of function 0x00 (R526). -/
def State.gpioMask (s : State) : Nat := (List.range 32).foldl (fun m i => if s.rd PIN_CFG_FUNC i = 0 then m + 2 ^ i else m) 0

/-- A new value of OUT or OE: a pin that changes has its new level within 10 ns of the crossing, and its reader sees it up to 3 ns later (R526). Log
entry 92 (DEDUCED). Log entry 92 (DEDUCED). -/
def State.gpioSet (s : State) (f : Field) (v : Nat) : State :=
  let ch := s.rd f 0 ^^^ v
  if ch = 0 then s
  else ({ s with pinCh := (if s.et < s.pinAt then s.pinCh else 0) ||| ch, pinAt := s.et + 922 }).wr f 0 v

/-- Writes of PIN_GPIO_OUT and PIN_GPIO_OE act on pins of function 0x00 (R526). -/
def State.gpioOut (s : State) (w : Nat) : State := s.gpioSet PIN_GPIO_OUT_OUT (w &&& s.gpioMask)
def State.gpioOe (s : State) (w : Nat) : State := s.gpioSet PIN_GPIO_OE_OE (w &&& s.gpioMask)

/-- PWR_STAT.QUIET for the end that PWR_QUIET holds (R470). -/
def State.quietNow (s : State) : State :=
  s.wrb PWR_STAT_QUIET 0 (decide (s.tick < s.rd PWR_QUIET_LO_END 0 + 2 ^ 32 * s.rd PWR_QUIET_HI_END 0))

/-- A write of DBG_TCTL: a core whose trace it enables emits a sync record (R518). -/
def State.tctl (s : State) (w : Nat) : State :=
  let was := s.rd DBG_TCTL_EN 0
  let s := s.wrs 0 [(DBG_TCTL_DEST, bits w 16 16), (DBG_TCTL_EN, w)]
  ((List.range 16).filter fun c => bit w c && !bit was c && s.coreOk c).foldl (fun s c => s.trace c (s.core c).arch.pc 1 0) s

/-- Store a word into the RW fields of a register, for every initiator where it is held for each (R43). -/
def State.setRW (s : State) (r : Reg) (w : Nat) : State :=
  r.row.fs.foldl (fun s f =>
    if f.acc != .rw then s
    else
      let v := w / 2 ^ f.lo % 2 ^ f.f.w
      if perIni f.f then (List.range 25).foldl (fun s i => s.wr f.f (32 * r.key + i) v) s else s.wr f.f r.key v) s

/-- Apply a settings record, or refuse an address that holds no run-time register. RW fields with work behind them do it as a write
would (R43). -/
def State.applySetting (s : State) (addr w : Nat) : Option State :=
  let split := s.rd SYS_CFG_SPLIT 0
  match regAt split addr with
  | none => none
  | some r =>
    if !runTime split addr then none
    else
      let n := r.inst
      some (match (r.row.fs.headD ⟨SYS_ID_PART, 0, .ro⟩).f with
        | f =>
          if f = MOD_WIN_HYST then s.winWrite n w
          else if f = MOD_CTL_CMEN then s.ctlWrite n w
          else if f = MC_CTL_XCEN then (s.mcRun n (bit w 0)).mcXcen n (bit w 2)
          else if f = L_OTR_SETTLE then s.otrWrite n w
          else if f = CAP_CTL_FLUSH then (let was := s.on CAP_CTL_EN 0; let s := s.setRW r w; if bit w 0 && !was then s.capStart else s)
          else if f = B_CTL_DOWN then s.portDownWrite n (bit w 1)
          else if f = PIN_GPIO_OUT_OUT then s.gpioOut w
          else if f = PIN_GPIO_OE_OE then s.gpioOe w
          else if f = PWR_AUXCTL_YARDOFF then s.auxCtl w
          else if f = PWR_QUIET_LO_END || f = PWR_QUIET_HI_END then (s.setRW r w).quietNow
          else if f = DBG_TCTL_DEST then s.tctl w
          else s.setRW r w)

/-- Apply records in order; the number skipped. -/
def State.applySettings (s : State) (rs : List (Nat × Nat)) : State × Nat :=
  rs.foldl (fun (q : State × Nat) (r : Nat × Nat) => match q.1.applySetting r.1 r.2 with
    | some s => (s, q.2)
    | none => (q.1, q.2 + 1)) (s, 0)

/-- The settings area: LAYOUT and records, layout 0 and none where its header is not valid (R493). -/
def State.settings (s : State) : Nat × List (Nat × Nat) :=
  let h := s.nvmBytes 0x1C00000 12
  let n := u h 8 4
  if u h 0 4 ≠ 0x53544553 || 4096 < n then (0, [])
  else
    let b := s.nvmBytes 0x1C00040 (8 * n)
    (u h 4 4, (List.range n).map fun i => (u b (8 * i) 4, u b (8 * i + 4) 4))

end Sys2Proof.Machine
end

