-- ==== Sys2Proof/Machine/PrkLoad.lean ====
section
/-!
DEFINITION. The structure load of a full commit (R52 to R54): the function resets of step 3, the destinations of every section, settings, the
roots and the start of the cores.
-/
namespace Sys2Proof.Machine
open F

/-- The lowest byte offset, by NVM address, of an item of the load that holds an uncorrectable error (R48, R500): the image in its slot, the
core images, and the settings area's header and records. Its section, record and image offset. -/
def State.loadBad (s : State) (im : Image) (slot : Nat) : Option Rej :=
  match s.badIn (slotBase slot) im.len with
  | some o =>
    let t := ((im.offs.filter fun p => decide (p.2 ≤ o)).map (·.1)).foldl max 0
    some { code := 0x36, sect := t, ri := im.recAt t o, ofs := o }
  | none =>
    match ((im.sec 17).zipIdx.find? fun (p : Rec × Nat) => (s.badIn (u p.1 4 4) (u p.1 8 4)).isSome) with
    | some p => some { code := 0x36, sect := 17, ri := p.2, ofs := im.recOfs 17 p.2 }
    | none => if (s.badIn 0x1C00000 32832).isSome then some { code := 0x36 } else none

/-- Keys of the WL fields that a commit loads, in the register store. -/
def wlKeys : List Nat :=
  ([regsMOD, regsMC, regsLE, regsL, regsEC, regsPICOT, regsSPR, regsGT, regsCAPS, regsPIN].flatMap fun rows =>
    rows.flatMap fun r => (r.fs.filter (·.acc == .wl)).map fun f => f.f.key.val)

/-- The function resets of step 3 of R52: all but PCIe functions, Braid ports and timer groups; the counts that run since the commit begin again
(Tables 3.13, 4.16, 16.4 and 16.10). -/
def State.loadResets (s : State) : State :=
  let s := (List.range 64).foldl (fun s n => if s.on MOD_CFG_EN n then s.modStop n else s) s
  let s := (List.range 48).foldl (fun s e => s.leSwapAbort e) s
  let s := (List.range 8).foldl (fun s t => (s.spareReset t).lesReset t) s
  let s := (List.range 64).foldl (fun s n => s.wr MOD_SCOUNT_COUNT n 0) s
  let s := (List.range 16).foldl (fun s k => (s.mcReset k).wr MC_LOST_LOST k 0) s
  let s := (List.range 48).foldl (fun s k => s.legReset k) s
  let s := (List.range 32).foldl (fun s h => s.dmaReset h) s
  let s := (s.capReset.sprReset).gndReset
  let s := (List.range 16).foldl (fun s c => (s.stopCore c).wrs c [(CP_STAT_REPLAYS, 0), (CP_STAT_JVOID, 0), (CP_STAT_LOGOVF, 0), (CP_MMINFO_TOTAL, 0), (CP_MMINFO_SINCE, 0)]) s
  { s with posts := [], laneReqs := [], trigs := [], lanesOn := [], laneIn := [], pfilt := [], heldLeg := [] }

/-- Sections 0x02 to 0x07 (Table 2.5). -/
def State.loadPlans (s : State) (im : Image) : State :=
  let ck := im.clock
  let s := s.wrs 0 [(SYS_CLKSTAT_SSC, ck.getD 1 0), (SYS_CLKSTAT_AON_LOCKED, ck.getD 2 0)]
  let s := if s.rd SYS_CLKSTAT_CREF 0 < 2 then s.wr SYS_CLKSTAT_CREF 0 (ck.getD 0 0) else s
  let s := (List.range 48).foldl (fun s n => s.wrs n [(PIN_CFG_FUNC, if n < 32 then 0 else 2), (PIN_CFG_OPT, 1)]) s
  let s := (im.sec 3).foldl (fun s r => s.wrs (u r 0 2) [(PIN_CFG_FUNC, u r 2 1), (PIN_CFG_OPT, u r 3 1)]) s
  let s := (s.gpioOut (s.rd PIN_GPIO_OUT_OUT 0)).gpioOe (s.rd PIN_GPIO_OE_OE 0)
  let s := (im.sec 4).foldl (fun s r =>
    let n := u r 0 1
    let f := u r 1 1
    let s := s.wrs n [(MOD_CFG_EN, f), (MOD_CFG_ILV, f / 2), (MOD_CFG_FIR, f / 4), (MOD_CFG_K, u r 2 1), (MOD_CFG_RATE, u r 3 1), (MOD_CFG_D, u r 4 2)]
    (List.range 8).foldl (fun s j => s.wrs (8 * n + j) [(MOD_FIR_TAPA, u r (16 + 4 * j) 2), (MOD_FIR_TAPB, u r (18 + 4 * j) 2)]) s) s
  let s := (List.range 16).foldl (fun s k => s.wr MC_PERIOD_PERIOD k 16000) s
  let s := (im.sec 5).foldl (fun s r =>
    let k := u r 0 1
    let s := s.wrs k [(MC_CFG_MODE, u r 1 1), (MC_CFG_MASK, u r 2 2), (MC_PERIOD_PERIOD, u r 4 4)]
    (List.range 8).foldl (fun s j => s.wrs (8 * k + j) [(MC_SEL_SELA, u r (8 + 4 * j) 2), (MC_SEL_SELB, u r (10 + 4 * j) 2)]) s) s
  let s := (im.sec 6).foldl (fun s r => s.wrs (u r 0 2) [(EC_CFG_PROD, u r 2 2), (EC_CFG_CONS, u r 4 2), (EC_STORM_LIMIT, u r 6 1),
    (EC_STORM_WINDOW, u r 7 1)]) { s with ecUsed := (im.sec 6).map fun r => u r 0 2 }
  (im.sec 7).foldl (fun s r => s.wrs (u r 0 1) [(PICOT_CFG_FF, u r 1 1), (PICOT_CFG_FILT, u r 1 1 / 2), (PICOT_CFG_LUT, u r 2 2),
    (PICOT_CFG_FLEN, u r 4 1)]) { s with regs := s.regs.filter fun p => decide (p.1 % 1024 ∉ (regsPICOT.flatMap fun r => (r.fs.filter (·.acc == .ro)).map
      fun f => f.f.key.val)) }

/-- Sections 0x0B to 0x11 and the engines (Table 2.5). -/
def State.loadParts (s : State) (im : Image) (p : Placement) : State :=
  let s := (List.range 48).foldl (fun s e => s.loadEngine im p e) s
  let s := s.loadRoots ((im.sec 11).map fun r => ⟨u r 0 2, u r 2 1, u r 3 1, u r 8 8, u r 16 8, u r 4 4⟩)
  let s := (im.sec 12).foldl (fun s r => if u r 0 2 < 0x8000 then s.wrs (u r 0 1) [(L_SAFE_SAFE, u r 1 1), (L_SAFE_STOP, u r 2 1)]
    else s.wrs (u r 0 2 - 0x8000) [(SPR_MAP_LO_MASK, u r 2 4), (SPR_MAP_HI_MASK, u r 6 2)]) s
  let s := (List.range 48).foldl (fun s k => s.legSafe k) s
  let s := (List.range 224).foldl (fun s n => s.tripSource n) s
  let s := (im.sec 13).foldl (fun s r => s.wrs (u r 0 1) [(GT_CFG_SRC, u r 1 1), (GT_CFG_TPIN, u r 2 1), (GT_CFG_N, u r 4 2), (GT_CFG_F, u r 6 1),
    (GT_LINK_SLAVE, u r 3 1), (GT_LINK_MEV, u r 3 1 / 4), (GT_LINK_MASTER, u r 7 1), (GT_LINK_PUBV, if u r 8 2 = 0xFFFF then 0 else 1),
    (GT_LINK_PUBEC, if u r 8 2 = 0xFFFF then 0 else u r 8 2)]) s
  let n := (im.sec 14).length
  let s := { s with streams := [], capUsed := List.range n,
                    regs := s.regs.filter fun q => decide (q.1 % 1024 ∉ [CAP_S_CFG_VALID.key.val, CAP_S_CTL_RUN.key.val, CAP_S_STAT_RPACT.key.val,
                      CAP_S_CFG_ROUTE.key.val]) }
  let s := (im.sec 14).zipIdx.foldl (fun s (q : Rec × Nat) => s.wrs q.2 [(CAP_S_CFG_KIND, u q.1 0 1), (CAP_S_CFG_SOURCE, u q.1 2 2), (CAP_S_CFG_VALID, 1),
    (CAP_S_DIV_VALUE, u q.1 8 4), (CAP_S_CTL_RUN, u q.1 1 1)]) s
  let s := s.applyRoutes p.routes
  let pl := im.plan
  let s := ({ s with bplan := [pl.seat, pl.ring, pl.follower, pl.ports, pl.gfirst, pl.gcount] }).wrs 0 [(SYS_CFG_SEAT, pl.seat), (SYS_CFG_FOLLOWER, pl.follower)]
  let s := (List.range 16).foldl (fun s c => s.setCore c { s.core c with task := none }) s
  (im.sec 17).foldl (fun s r =>
    let c := u r 0 1
    (s.setCore c { s.core c with task := some (u r 12 4, u r 2 2, u r 4 4, u r 8 4) }).loadTcm c) s

/-- Supervision and metering that a commit starts: the monitors of enabled inputs (R84, R86), the 100 ms of R113, and the converters
(R101, R110). Log entry 36 (DEDUCED). -/
def State.loadStarts (s : State) : State :=
  let s := (List.range 64).foldl (fun s n =>
    let w := s.rd MOD_CTL_OWEN n + 2 * s.rd MOD_CTL_CMEN n
    if w = 0 then s else (s.ctlWrite n 0).ctlWrite n w) s
  let s := { s with xcFails := [], xcLate := s.xcMods.map fun n => (n, s.et + usec 100000) }
  let s := (List.range 16).foldl (fun s k => s.mainsStart k) s
  let s := (List.range 16).foldl (fun s k => if s.on MC_CTL_RUN k || k ∈ s.xcSet then s.mcKick k else s) s
  (List.range 64).foldl (fun s n => if s.on MOD_CFG_EN n && !s.pairOdd n && !s.fnHeld n then s.modGo n else s) s

/-- A core starts (R373); with HALTRST set it halts before its first instruction (R514). -/
def State.coreGo (s : State) (c : Nat) : State :=
  let s := if s.fnHeld (0x150 + c) then s else (s.startCore c).wakeUnit 8
  if (s.core c).st = 1 && s.on DBG_C_CTL_HALTRST c then s.coreHalt c 5 else s

/-- Steps 3 to 6 of the structure load (R52, R53): everything the image describes is in force, STRUCT is 1, jobs are triggerable and the
cores that section 0x11 names start. -/
def State.loadImage (s : State) (im : Image) (slot : Nat) (p : Placement) : State :=
  let s := s.loadResets
  let s := { s with regs := s.regs.filter fun q => decide (q.1 % 1024 ∉ wlKeys) }
  let s := { s with sram := [], xslots := [], badCw := s.badCw.filter fun c => decide (c.1 = 4 ∨ 6 ≤ c.1), ringItems := [], ringLast := [], gItems := [],
                    patch := none, patchLeft := [], dbgRun := none }
  let s := (s.loadPlans im).loadParts im p
  let s := (s.applySettings ((im.sec 18).map fun r => (u r 0 4, u r 4 4))).1
  let st := s.settings
  let ok := st.1 == im.layout
  let q := if ok then s.applySettings st.2 else (s, 0)
  let s := q.1.wrs 0 [(PRK_STATE_SETDEF, if ok then 0 else 1), (NVM_SETINFO_SKIP, q.2)]
  let s := ({ s with committed := some im }).wrs 0 [(PRK_STATE_STRUCT, 1), (PRK_STATE_SOURCE, slot), (PRK_SERIAL_SERIAL, im.serial), (PRK_PSERIAL_SERIAL, 0)]
  let s := s.loadStarts
  ((List.range 16).filter s.coreOk).foldl (fun s c => if (s.core c).task.isSome then s.coreGo c else s) s.ltrNow

/-- A load that fails (R54): STRUCT 2, nothing committed, every core in reset. -/
def State.loadFails (s : State) : State :=
  let s := s.loadResets
  let s := { s with committed := none, slotsUsed := [], engs := [], ecUsed := [], sram := [] }
  (List.range 16).foldl (fun s c => s.setCore c { s.core c with task := none }) (s.wr PRK_STATE_STRUCT 0 2)

end Sys2Proof.Machine
end

