-- ==== Sys2Proof/Machine/PrkCmd.lean ====
section
/-!
DEFINITION. The pricking commands (spec/02, R44 to R66, R538), the runs of Pillow behind them (R217, R218, R233, R242), hitless patches (R56 to
R61), and the boot commit (R47).
-/
namespace Sys2Proof.Machine
open F

/-! ## Outcomes -/

/-- CODE, SECT and RECORD, DONE, and ERR for a code that is not 0 (R48, R538); the pricking interrupt where a flag that rises is enabled
(R65). -/
def State.prkStatus (s : State) (r : Rej) : State :=
  let up := (!s.on PRK_STATUS_DONE 0 && s.on PRK_IEN_DONE_IE 0) || (r.code != 0 && !s.on PRK_STATUS_ERR 0 && s.on PRK_IEN_ERR_IE 0)
  let t := s.wrs 0 [(PRK_STATUS_CODE, r.code), (PRK_STATUS_SECT, r.sect), (PRK_STATUS_RECORD, min r.ri 0xFFF), (PRK_ERRREC_RECORD, r.ri)] |>.raise PRK_STATUS_DONE 0 1
  let t := if r.code = 0 then t else (t.raise PRK_STATUS_ERR 0 1).wr PRK_ERROFS_OFS 0 r.ofs
  let t := State.edge 0 s t
  if up then t.publish 0xC00 else t

/-- The command in progress ends with an outcome. -/
def State.prkEnd (s : State) (r : Rej) : State :=
  (({ s with prkOp := none, step12 := false }).wr PRK_STATE_OP 0 0).prkStatus r

/-- The content state of a slot, and the serial of a verified image (R44, R45), in the NVM and in the registers. -/
def State.setContent (s : State) (slot v serial : Nat) : State :=
  let s := { s with nv := { s.nv with content := mset s.nv.content 0 slot v, serial := mset s.nv.serial 0 slot serial } }
  (s.wr PRK_SLOT_INFO_CONTENT slot v).wr PRK_SLOT_SERIAL_SERIAL slot serial

/-- The slot marks (R46), in the registers. -/
def State.showMarks (s : State) : State :=
  let s := [0, 1, 2].foldl (fun s i => s.wrs i [(PRK_SLOT_INFO_ACTIVE, if s.nv.active = some i then 1 else 0),
    (PRK_SLOT_INFO_FALLBACK, if s.nv.fallback = some i then 1 else 0)]) s
  s.wrs 0 [(PRK_STATE_ACTVALID, if s.nv.active.isSome then 1 else 0), (PRK_STATE_ACTIVE, s.nv.active.getD 0)]

/-- The key status in the register (R492). -/
def State.showKeys (s : State) : State :=
  let v := (List.range 4).foldl (fun m k => if s.nv.keys.any (·.1 == k) then m + 2 ^ k else m) 0
  let r := (List.range 4).foldl (fun m k => if k ∈ s.nv.revoked then m + 2 ^ k else m) 0
  s.wrs 0 [(PRK_KEYSTAT_KEYVALID, v), (PRK_KEYSTAT_REVOKED, r), (PRK_KEYSTAT_SVNMIN, s.nv.svnmin)]

/-! ## Commands -/

/-- A slot's content state. -/
def State.contentOf (s : State) (slot : Nat) : Nat := mget s.nv.content 0 slot

/-- Step 1 of a command on a slot (Tables 2.7, 2.22): 0 VERIFY, 1 COMMIT, 2 PATCH, 3 ACTIVATE, 4 ERASE, 5 SVNUP. -/
def State.step1 (s : State) (cmd slot : Nat) : Nat :=
  let c := s.contentOf slot
  if s.rd PRK_STATE_OP 0 ≠ 0 then 1
  else if (cmd = 2 || cmd = 5) && s.rd PRK_STATE_STRUCT 0 ≠ 1 then 2
  else if cmd = 5 then 0
  else if 3 ≤ slot then 3
  else if cmd = 4 then (if s.nv.active = some slot then 3 else 0)
  else if c = 0 || (cmd = 2 && c = 2) || ((cmd = 1 || cmd = 3) && c = 3) then 3 else 0

/-- Verification time of the image in a slot: at most 0.5 ms and 0.425 ms for each MB (R49). -/
def State.verifyBound (s : State) (slot : Nat) : Nat :=
  let len := min 8388608 (ofLE (s.nvmBytes (slotBase slot + 16) 4))
  usec 500 + usec 425 * len / 2 ^ 20

/-- A command of PRK_CMD other than ABORT. -/
def State.prkStart (s : State) (cmd slot : Nat) : State :=
  let r := s.step1 cmd slot
  if r ≠ 0 then s.prkStatus { code := r }
  else if cmd = 4 then
    (({ s with prkOp := some { cmd := 4, slot := slot, due := s.within (usec 35000) } }).drawn).wr PRK_STATE_OP 0 6
  else if cmd = 5 then
    ({ s with prkOp := some { cmd := 5, slot := 0, due := s.et } }).wr PRK_STATE_OP 0 8
  else
    (({ s with prkOp := some { cmd := cmd, slot := slot, due := s.within (s.verifyBound slot) } }).drawn).wr PRK_STATE_OP 0 1

/-- The jobs of the placement in force that the committed pricking has, after a patch that ends in its staging. -/
def State.unplace (s : State) : State :=
  match s.committed with
  | some cx => s.plwRecord cx { s.place with jobs := s.place.jobs.filter fun p => cx.jobs.any (·.job == p.job) }
  | none => s

/-- What a patch has staged is dropped. -/
def State.unstage (s : State) : State :=
  let s := (List.range 48).foldl (fun s e => if (s.eng e).staged then s.setEng e { s.eng e with staged := false } else s) s
  { s with patch := none, patchLeft := [] }

/-- ABORT (R63): steps 1 to 11 of a command, and patch staging. Log entry 76 (DEDUCED). -/
def State.prkAbort (s : State) : State :=
  let op := s.rd PRK_STATE_OP 0
  if op = 1 || op = 2 then
    let s := match s.plwRun with
      | some r => if r.occ < 3 then ({ s with plwRun := none }).wr PLW_STAT_BUSY 0 0 else s
      | none => s
    s.prkEnd { code := 0x38 }
  else if op = 4 then (s.unstage.unplace).prkEnd { code := 0x38 }
  else s

/-- The command bits of a write of PRK_CMD act: one bit is a command, more than one are refused (R48 step 1). -/
def State.prkTake (s : State) (l : List Nat) (slot : Nat) : State :=
  match l with
  | [] => s
  | [5] => s.prkAbort
  | [6] => s.prkStart 5 slot
  | [b] => s.prkStart b slot
  | _ => s.prkStatus { code := 2 }

/-- What a write of PRK_CMD has done in this FAB cycle is taken back, but for its status (R62). -/
def State.prkUndo (s : State) (c : PrkCyc) : State :=
  let s := ({ s with prkOp := c.op, plwRun := c.run, patch := c.patch, patchLeft := c.left }).wrs 0 [(PRK_STATE_OP, c.opr), (PLW_STAT_BUSY, b2n c.run.isSome)]
  match c.patch with
  | some im => (c.left.foldl (fun s e => s.setEng e { s.eng e with staged := true }) s).plwRecord (underlay im (s.committed.getD {})) c.place
  | none => s

/-- A write of PRK_CMD by an initiator (R48 step 1, R62, R65): SLOT is stored, and a write without a command bit does nothing more. Of two
initiators in one FAB cycle the lower is taken and the other is refused with BUSY. Log entry 85 (DESIGN CHOICE). -/
def State.prkWrite (s : State) (ini w : Nat) : State :=
  let slot := bits w 9 8
  let s := s.wr PRK_CMD_SLOT 0 slot
  let l := (List.range 7).filter (bit w)
  if l.isEmpty then s
  else
    let c : PrkCyc := ⟨s.et / 64, ini, s.prkOp, s.rd PRK_STATE_OP 0, s.plwRun, s.patch, s.patchLeft, s.place⟩
    match s.prkCyc.filter fun c => c.cyc == s.et / 64 && c.ini != ini with
    | some c =>
      if c.ini < ini then s.prkStatus { code := 1 }
      else ((({ s with prkCyc := some { c with ini := ini } }).prkUndo c).prkStatus { code := 1 }).prkTake l slot
    | none => ({ s with prkCyc := some c }).prkTake l slot

/-- KINDs a command takes (R45): 0 full, 1 patch. -/
def prkKinds (cmd : Nat) : List Nat := if cmd = 0 then [0, 1] else if cmd = 2 then [1] else [0]

/-- The content state and serial that the end of step 10 sets (R45). -/
def State.verified (s : State) (slot : Nat) (im : Image) : State := s.setContent slot (if im.kind = 1 then 3 else 2) im.serial

/-- A LOOP rejection fills the Ground report (R251). -/
def State.loopReport (s : State) (slot : Nat) (kinds : List Nat) (r : Rej) : State :=
  if r.code ≠ 0x13 then s
  else match s.steps2to8 slot kinds with
    | .ok im => let l := im.loop.getD []; ({ s with loop := l }).wr GND_STAT_LOOPLEN 0 l.length
    | .error _ => s

/-- Steps 1 to 10 of the command in progress end (R49). -/
def State.validationEnd (s : State) : State :=
  match s.prkOp with
  | none => s
  | some o =>
    if s.rd PRK_STATE_OP 0 ≠ 1 then s
    else
      let s := s.reach o.due
      match s.steps2to10 o.slot (prkKinds o.cmd) with
      | .error r =>
        (s.loopReport o.slot (prkKinds o.cmd) r).prkEnd r
      | .ok im =>
        let s := s.verified o.slot im
        let o := { o with image := some im }
        if o.cmd = 0 then s.prkEnd { code := 0 }
        else if o.cmd = 3 then
          (({ s with prkOp := some { o with due := s.within (usec 20) } }).drawn).wr PRK_STATE_OP 0 7
        else ({ s with prkOp := some o }).wr PRK_STATE_OP 0 2

/-- A write of lines that does not complete: a free number of them hold what was to be written, free bytes stand in the next, and the others are as
they were (R487). Log entry 74 (DESIGN CHOICE). -/
def State.nvmCut (s : State) (off : Nat) (l : List (BitVec 8)) : State :=
  let k := s.fresh % (l.length / 64 + 1)
  ({ s with nvm := s.nvm.wrL off (l.take (64 * k) ++ (freshBytes s.drawn.fresh 64).take (l.length - 64 * k)) }).drawn.drawn

/-- The same for an erase of a slot, which stays a written one (R44, R487). -/
def State.eraseCut (s : State) (slot : Nat) : State :=
  let b := slotBase slot
  let k := s.fresh % 131072
  let m := s.nvm.filter fun p => !(decide (b ≤ p.1) && decide (p.1 < b + 64 * k))
  (({ s with nvm := Mem.wrL m (b + 64 * k) (freshBytes s.drawn.fresh 64) }).drawn.drawn).setContent slot 1 0

/-- The slot erase ends (R46, R487): its lines read zero and the fallback mark of the slot is gone, with a new generation of the slot table. -/
def State.eraseDone (s : State) : State :=
  match s.prkOp with
  | none => s
  | some o =>
    if s.rd PRK_STATE_OP 0 ≠ 6 || s.nvOp.isSome then s
    else
      let s := s.reach o.due
      let b := slotBase o.slot
      let s := { s with nvm := s.nvm.filter (fun p => !(decide (b ≤ p.1) && decide (p.1 < b + 0x800000)))
                        nv := if s.nv.fallback = some o.slot then { s.nv with fallback := none, tableGen := s.nv.tableGen + 1 } else s.nv }
      let s := s.eccClean 4 0 b 0x800000
      ((s.setContent o.slot 0 0).showMarks).prkEnd { code := 0 }

/-- The end of the NVM write of an ACTIVATE or an SVNUP, or an erase that fails (R46, R66, R487). A write that fails leaves the marks and SVNMIN and
ends with a code that is not given and not 0. Log entry 74 (DESIGN CHOICE). -/
def State.prkNvmDone (s : State) (fail : Bool) : State :=
  match s.prkOp with
  | none => s
  | some o =>
    let op := s.rd PRK_STATE_OP 0
    if op ≠ 7 && op ≠ 8 && !(op == 6 && fail) then s
    else
      let s := s.reach o.due
      let s := if op = 6 then s.eraseCut o.slot else s
      if fail then ((s.setFlag 18 NVM_FAULT_FLAGS 0 1).prkEnd { code := 1 + s.fresh % 255 }).drawn
      else if op = 7 then
        let n := s.nv
        let n := if n.active = some o.slot then n
          else { n with fallback := if n.active.isSome then n.active else if n.fallback = some o.slot then none else n.fallback
                        active := some o.slot, tableGen := n.tableGen + 1 }
        (({ s with nv := n }).showMarks).prkEnd { code := 0 }
      else
        let v := ((s.committed.map (·.svn)).getD 0)
        (({ s with nv := { s.nv with svnmin := max s.nv.svnmin v } }).showKeys).prkEnd { code := 0 }

/-! ## Pillow -/

/-- The next run of Pillow starts (R217, R218): step 11 of a command, or one run for all that have been asked for, which PLW_STAT.LAST names by the
last of them. Without a committed structure there is nothing to recompute. Log entry 29 (DEDUCED). -/
def State.pillowRun (s : State) : State :=
  if s.plwRun.isSome then s
  else
    let go (s : State) (occ bound : Nat) (p : Placement) (redo : Bool := true) : State :=
      (({ s with plwRun := some { occ := occ, redo := redo, start := s.et, due := s.within bound, found := p } }).drawn).wr PLW_STAT_BUSY 0 1
    match s.prkOp with
    | some o =>
      (match o.image with
      | none => s
      | some im =>
        if s.rd PRK_STATE_OP 0 ≠ 2 then s
        else if o.cmd = 1 then go s 1 (usec 2000) (s.placeFull im)
        else go s 2 (usec 2000) (s.placePatch im (underlay im (s.committed.getD {}))))
    | none =>
      match s.plwAsked with
      | [] => s
      | l =>
        let redo := l.any (· != 3) && s.committed.isSome
        go { s with plwAsked := [] } (l.getLastD 3) (usec 20) (if redo then s.replace (s.committed.getD {}) else s.place) redo

/-- A rejection of step 11 (R233). -/
def State.plwReject (s : State) (r : PRej) : State :=
  let im := ((s.prkOp.bind (·.image)).getD {})
  let s := s.wrs 0 [(PLW_REJ_CODE, r.code), (PLW_REJ_REASON, r.reason), (PLW_REJ_JOB, r.job)]
  let s := if r.code = 0x20 then s.wrs 0 [(PLW_REJ_BOUND_PS, r.bound), (PLW_REJ_TARGET_PS, r.target)] else s
  s.prkEnd { code := r.code, sect := r.sect, ri := r.ri, ofs := im.recOfs r.sect r.ri }

/-- Step 12 of a full commit, and step 1 of the structure load (R51, R52, R242). -/
def State.step12Full (s : State) (im : Image) (p : Placement) : State :=
  if (List.range 48).any (fun k => (s.leg k).st != .safe) then s.prkEnd { code := 0x30 }
  else (({ s with step12 := true } : State).wr PRK_STATE_OP 0 3).lockWl.plwRecord im p

/-- Engines that a patch affects: those of its jobs. -/
def patchEngines (im : Image) (p : Placement) : List Nat :=
  ((p.jobs.filter fun q => im.jobs.any (·.job == q.job)).map (·.engine)).dedup

/-- The end of a re-placement at device time t: the paths before it still apply to the boundaries up to t (R446). -/
def repath (old new : List RPath) (t : Nat) : List RPath :=
  new.map fun r => match old.find? (·.idx == r.idx) with
    | some o => if o.port = r.port ∧ o.x = r.x then { r with past := o.past } else { r with past := some (t, o.port, o.x) }
    | none => r

/-- The hold-off windows follow the X of the placement in force (R223, R238). -/
def State.rehold (s : State) : State :=
  (s.place.jobs.filter fun j => j.cls == 1 && (match s.recOf j with | some r => r.trig == 0 | none => false)).foldl (fun s j =>
    s.setEng j.engine { s.eng j.engine with holdOff := 9 * j.x }) s

/-- A run of Pillow ends (R217, R237, R238, R242). -/
def State.placementEnd (s : State) : State :=
  match s.plwRun with
  | none => s
  | some r =>
    let s := s.reach r.due
    let s := ({ s with plwRun := none }).wrs 0 [(PLW_STAT_BUSY, 0), (PLW_STAT_RUNS, s.rd PLW_STAT_RUNS 0 + 1), (PLW_STAT_LAST, r.occ),
      (PLW_TIME_CYCLES, (s.et - r.start) / 64)]
    if r.occ < 3 then
      match s.prkOp.bind (·.image), r.found.rej with
      | none, _ => s
      | some _, some j => s.plwReject j
      | some im, none =>
        if r.occ = 1 then s.step12Full im r.found
        else
          let s := (s.wr PRK_STATE_OP 0 4).plwRecord (underlay im (s.committed.getD {})) r.found
          let es := patchEngines im r.found
          let s := es.foldl (fun s e => s.setEng e { s.eng e with staged := true }) s
          { s with patch := some im, patchLeft := es }
    else if !r.redo then s
    else
      let p := { r.found with paths := repath s.place.paths r.found.paths s.tick }
      let s := ((s.plwRecord (s.committed.getD {}) p).rehold).applyRoutes p.routes
      if r.found.over = 0 then s
      else (State.edge 1 s (s.raise PLW_STAT_OVERF 0 1)).publish 0xC01

/-! ## Structure load and patches -/

/-- The structure load, once no engine runs a job (R52), under a new hash key (R240). err: the NVM offset of a codeword in which it meets an uncorrectable error. -/
def State.structureLoad (s : State) (err : Option Nat) : State :=
  match s.prkOp.bind fun o => o.image.map fun im => (o.slot, im) with
  | none => s
  | some (slot, im) =>
    if s.rd PRK_STATE_OP 0 ≠ 3 || (List.range 48).any (fun e => (s.eng e).run.isSome) then s
    else
      let s := (s.reach (s.within (usec 3000))).drawn
      let s := s.reseed
      let s := match err with | some a => s.eccHit 4 0 a .uncorr false | none => s
      match s.loadBad im slot with
      | some r => s.loadFails.prkEnd r
      | none => ({ (State.edges s (s.loadImage im slot s.place)) with step12 := false }).prkEnd { code := 0 }

/-- Every item of a patch is staged (R58): step 12 of a patch, images into engines that carry no committed job, and OP 5. -/
def State.stagingEnd (s : State) : State :=
  match s.patch with
  | none => s
  | some im =>
    if s.rd PRK_STATE_OP 0 ≠ 4 then s
    else if im.apply ≠ 0 && im.apply ≤ s.tick then (s.unstage.unplace).prkEnd { code := 0x35, sect := 1, ofs := 40 }
    else
      let cx := s.committed.getD {}
      let new := s.patchLeft.filter fun e => (cx.onEngine s.place e).isEmpty
      let s := new.foldl (fun s e =>
        match im.onEngine s.place e with
        | [] => s
        | q :: _ => match (underlay im cx).engImages.find? (·.id == q.1.image) with
          | some g => { s.setEng e (g.into (s.eng e)) with badCw := s.badCw.filter fun c => !((c.1 == 2 || c.1 == 3) && c.2.1 == e) }
          | none => s) s
      if s.patchLeft.isEmpty then
        ((({ s with committed := some (underlay im cx), patch := none }).wr PRK_PSERIAL_SERIAL 0 im.serial).prkEnd { code := 0 })
      else s.wr PRK_STATE_OP 0 5

/-- The apply point of an engine (R59, R60): parameters and new jobs, in the first ENG cycle in which no job is part-way. -/
def State.applyPoint (s : State) (e : Nat) : State :=
  match s.patch with
  | none => s
  | some im =>
    if s.rd PRK_STATE_OP 0 ≠ 5 || e ∉ s.patchLeft || (s.eng e).run.isSome then s
    else
      let at_ := if im.apply = 0 then 0 else s.etOf im.apply
      let s := s.reach (engCeil (max (max s.et at_) (s.eng e).freeAt))
      let cx := underlay im (s.committed.getD {})
      let l := im.onEngine s.place e
      let x := s.eng e
      let s := s.setEng e (cx.slotFacts (cx.onEngine s.place e)
        { x with staged := false, dm := l.foldl (fun (m : Mem) (q : JobRec × PJob) => putParams m q.2.slot q.1.param) x.dm })
      let new := l.filter fun (q : JobRec × PJob) => decide (8 * e + q.2.slot ∉ s.slotsUsed)
      let s := new.foldl (fun s q => s.loadSlot e q.1 q.2.slot) s
      let s := { s with slotsUsed := s.slotsUsed ++ new.map (fun (q : JobRec × PJob) => 8 * e + q.2.slot), patchLeft := s.patchLeft.erase e }
      if s.patchLeft.isEmpty then
        ((({ s with committed := some cx, patch := none }).wr PRK_PSERIAL_SERIAL 0 im.serial).prkEnd { code := 0 })
      else s

/-! ## Boot commit -/

/-- Steps 1 to 13 on a slot at boot (R47), and their rejection, if any. A rejection at step 13 leaves STRUCT 0 (R47). Log entry 23 (DEDUCED). -/
def State.bootTry (s : State) (slot : Nat) : State × Option Rej :=
  if s.contentOf slot ≠ 1 && s.contentOf slot ≠ 2 then (s, some { code := 3 })
  else
    match s.steps2to10 slot [0] with
    | .error r => (s.loopReport slot [0] r, some r)
    | .ok im =>
      let s := s.verified slot im
      let p := s.placeFull im
      let s := (s.wrs 0 [(PLW_STAT_RUNS, s.rd PLW_STAT_RUNS 0 + 1), (PLW_STAT_LAST, 1), (PLW_TIME_CYCLES, (s.within (usec 2000) - s.et) / 64)]).drawn
      match p.rej with
      | some r =>
        let s := s.wrs 0 [(PLW_REJ_CODE, r.code), (PLW_REJ_REASON, r.reason), (PLW_REJ_JOB, r.job)]
        let s := if r.code = 0x20 then s.wrs 0 [(PLW_REJ_BOUND_PS, r.bound), (PLW_REJ_TARGET_PS, r.target)] else s
        (s, some { code := r.code, sect := r.sect, ri := r.ri, ofs := im.recOfs r.sect r.ri })
      | none =>
        let s := (s.lockWl.plwRecord im p).reseed
        match s.loadBad im slot with
        | some r => (s, some r)
        | none => (s.loadImage im slot p, none)

/-- The codes of a rejection at boot (R47): they are held in PRK_STATUS; no command has ended. -/
def State.bootCodes (s : State) (r : Rej) : State :=
  s.wrs 0 [(PRK_STATUS_CODE, r.code), (PRK_STATUS_SECT, r.sect), (PRK_STATUS_RECORD, min r.ri 0xFFF), (PRK_ERRREC_RECORD, r.ri), (PRK_ERROFS_OFS, r.ofs)]

/-- The boot commit (R47): the active slot, then the fallback slot; after it no configuration request is retried (R414). With another
BOOTMODE, nothing is verified (R502). -/
def State.bootCommit (s : State) : State :=
  if s.bootEnded then s
  else
    let s0 := s
    let s := { s with bootEnded := true }
    if s.rd NVM_STRAP_BOOTMODE 0 ≠ 0 then s
    else
      let second (s : State) : State :=
        match s.nv.fallback with
        | none => s
        | some f => match s.bootTry f with
          | (t, none) => t.wr PRK_STATE_FALLBACK 0 1
          | (t, some r) => t.bootCodes r
      State.edges s0 (match s.nv.active with
        | none => second s
        | some a => match s.bootTry a with
          | (t, none) => t
          | (t, some r) => second (t.bootCodes r))

end Sys2Proof.Machine
end

