-- ==== Sys2Proof/Machine/Nvm.lean ====
section
/-!
DEFINITION. The non-volatile store (spec/22): the commands of NVM_CMD, the staging buffer, the pricking window, the settings area and its journal
(R485 to R498), and what the boot ROM loads (R498, R502 to R504).
-/
namespace Sys2Proof.Machine
open F

/-! ## Registers behind the store -/

/-- Free journal entries (R496). -/
def Nv.free (n : Nv) : Nat := 7680 - n.jused

/-- NVM_SETINFO and NVM_SETGEN (Table 22.12). -/
def State.showSettings (s : State) : State :=
  let n := s.nv
  let img := if n.imgA = 0 && n.imgB = 0 then 0 else if n.imgB ≤ n.imgA then 1 else 2
  s.wrs 0 [(NVM_SETINFO_IMAGE, img), (NVM_SETINFO_FREE, n.free), (NVM_SETGEN_VALUE, n.setGen)]

/-- A command ends or is refused (R505, Table 22.10): the result, DONE, and NVM_REFUSED or NVM_WRFAIL. -/
def State.nvmResult (s : State) (ini op code : Nat) : State :=
  let t := (s.wrs 0 [(NVM_RESULT_INIT, ini), (NVM_RESULT_OP, op), (NVM_RESULT_CODE, code)]).raise NVM_STAT_DONE 0 1
  let t := State.edge 18 s t
  if code = 6 then t.setFlag 18 NVM_FAULT_FLAGS 0 1 else if code = 0 then t else t.setFlag 18 NVM_FAULT_FLAGS 0 3

/-- The staging buffer's bytes (R490). -/
def State.stBytes (s : State) (n : Nat) : List (BitVec 8) := ((List.range (n / 4)).flatMap fun i => leBytes 4 (s.rd NVM_STBUF_DATA i))

/-- The owner of the staging buffer (R491). -/
def State.stOwner (s : State) : Option Nat := if s.on NVM_CLAIM_HELD 0 then some (s.rd NVM_CLAIM_OWNER 0) else none

/-- CLAIM and RELEASE (R491). -/
def State.nvmClaim (s : State) (ini : Nat) : State :=
  if s.stOwner.isSome then s else s.wrs 0 [(NVM_CLAIM_HELD, 1), (NVM_CLAIM_OWNER, ini)]

def State.nvmRelease (s : State) (ini : Nat) : State :=
  if s.stOwner = some ini || ini = 16 then s.wrs 0 [(NVM_CLAIM_HELD, 0), (NVM_CLAIM_OWNER, 0)] else s

/-! ## Commands -/

/-- The part of the NVM that a program write of n bytes at an offset may reach (R44, R490): 0 wholly in a slot that takes it, or the
code-image area; 4 a slot in a verified state; 2 anything else. -/
def State.progTarget (s : State) (off n : Nat) : Nat :=
  if off % 64 ≠ 0 then 2
  else if 0x1800000 ≤ off && off + n ≤ 0x1C00000 then 0
  else if off + n ≤ 0x1800000 && off / 0x800000 = (off + n - 1) / 0x800000 then (if 2 ≤ s.contentOf (off / 0x800000) then 4 else 0)
  else 2

/-- Why a command of NVM_CMD is refused, 0 if it is not (R488, R490 to R495, Table 22.10). mem: the initiator holds a memory warrant with
write right over a span, and store: the NVM store right over a span of lines; PF0 needs neither (R355). -/
def State.nvmReason (s : State) (ini op count : Nat) (mem store : Nat → Nat → Bool) : Nat :=
  let arg := s.rd NVM_ARG_ARG 0
  let p := s.rd PRK_STATE_OP 0
  let own := s.stOwner == some ini
  if op = 0 || 5 < op then 2
  else if s.nvOp.isSome || p = 1 || p = 2 || p = 3 || p = 6 || p = 7 || p = 8 then 1
  else if op ≤ 2 then
    if count = 0 || 32 < count then 2
    else if op = 1 && 16384 < arg + count then 2
    else
      let t := if op = 2 then s.progTarget arg (64 * count) else 0
      if t = 2 then 2
      else if !own then 5
      else if ini ≠ 16 && !(if op = 1 then store arg (arg + count - 1) else mem (0x30000000 + arg) (0x30000000 + arg + 64 * count - 1)) then 3
      else t
  else if ini ≠ 16 then 3
  else if op = 3 then
    if !own then 5 else if s.nv.keys.any (·.1 == arg % 4) then 4 else 0
  else if op = 4 then
    let k := arg % 4
    if !s.nv.keys.any (·.1 == k) || !s.nv.keys.any (fun q => q.1 != k && decide (q.1 ∉ s.nv.revoked)) then 4 else 0
  else 0

/-- Lines of STORE that differ from the area (R495). -/
def State.storeDiff (s : State) (first n : Nat) (buf : List (BitVec 8)) : Nat :=
  ((List.range n).filter fun i => s.nvmBytes (0x1C00000 + 64 * (first + i)) 64 != ((buf.drop (64 * i)).take 64)).length

/-- The time an operation may take (R487, R495). -/
def State.nvmBound (s : State) (op count : Nat) (buf : List (BitVec 8)) : Nat :=
  if op = 1 then
    let d := s.storeDiff (s.rd NVM_ARG_ARG 0) count buf
    usec (10 + d + 1) + (if s.nv.free < 33 then usec 5000 else 0)
  else if op = 2 then usec (8 * ((count + 3) / 4)) else usec 8

/-- GO of NVM_CMD: the operation starts on the buffer as it stands, or is refused. -/
def State.nvmGo (s : State) (ini op count : Nat) (mem store : Nat → Nat → Bool) : State :=
  let r := s.nvmReason ini op count mem store
  if r ≠ 0 then s.nvmResult ini op r
  else
    let buf := s.stBytes (if op = 3 then 48 else if op ≤ 2 then 64 * count else 0)
    let comp := if op = 1 && s.nv.free < 33 then s.within (usec 5000) else 0
    let s := s.drawn
    let s := (({ s with nvOp := some { op := op, ini := ini, arg := s.rd NVM_ARG_ARG 0, count := count, buf := buf, comp := comp,
                                       due := max comp (s.within (s.nvmBound op count buf)) } }).drawn)
    s.wrs 0 [(NVM_STAT_BUSY, 1), (NVM_STAT_OP, op)]

/-- Bytes go into the NVM array. -/
def State.nvmPut (s : State) (off : Nat) (l : List (BitVec 8)) : State :=
  ({ s with nvm := s.nvm.wrL off l }).eccClean 4 0 off l.length

/-- A slot that a program write has reached is written (R44). -/
def State.slotWritten (s : State) (off : Nat) : State :=
  if off < 0x1800000 && s.contentOf (off / 0x800000) = 0 then s.setContent (off / 0x800000) 1 0 else s

/-- The commit of a STORE (R495 to R497): compaction first when fewer than 33 journal entries are free. Log entry 75 (DEDUCED). -/
def State.storeDone (s : State) (o : NvOp) : State :=
  let d := s.storeDiff o.arg o.count o.buf
  let n := s.nv
  let n := if n.free < 33 then
      (if n.imgB < n.imgA then { n with imgB := n.setGen, jused := 0 } else { n with imgA := n.setGen, jused := 0 }) else n
  (({ s with nv := { n with setGen := n.setGen + 1, jused := n.jused + d + 1 } }).nvmPut (0x1C00000 + 64 * o.arg) o.buf).showSettings

/-- An operation that does not complete (R487): a PROG leaves a part of its lines; a STORE leaves the content before it, with a free number of
journal entries spent, or the content after it (R497). Log entry 74 (DESIGN CHOICE). -/
def State.nvmFails (s : State) (o : NvOp) : State :=
  if o.op = 2 then (s.nvmCut o.arg o.buf).slotWritten o.arg
  else if o.op ≠ 1 then s
  else if s.fresh % 2 = 0 then (s.storeDone o).drawn
  else
    let n := s.drawn.fresh % (s.storeDiff o.arg o.count o.buf + 1)
    ({ s with nv := { s.nv with jused := min 7680 (s.nv.jused + n) } }).drawn.drawn.showSettings

/-- Power or reset ends what the NVM was writing (R486, R497). -/
def State.nvmLost (s : State) : State :=
  match s.nvOp, s.prkOp with
  | some o, _ => s.nvmFails o
  | none, some o => if s.rd PRK_STATE_OP 0 = 6 then s.eraseCut o.slot else s
  | none, none => s

/-- The NVM operation in progress ends (R487): what it writes is in place, or a part of it after WRFAIL. With none, the write of a pricking
command ends. -/
def State.nvmWriteDone (s : State) (fail : Bool) : State :=
  match s.nvOp with
  | none => s.prkNvmDone fail
  | some o =>
    let s := ({ s.reach o.due with nvOp := none }).wrs 0 [(NVM_STAT_BUSY, 0), (NVM_STAT_OP, 0)]
    let s := if fail then s.nvmFails o
      else if o.op = 1 then s.storeDone o
      else if o.op = 2 then (s.nvmPut o.arg o.buf).slotWritten o.arg
      else if o.op = 3 then ({ s with nv := { s.nv with keys := mins (mdel s.nv.keys (o.arg % 4)) (o.arg % 4) (ofBE o.buf) } }).showKeys
      else if o.op = 4 then ({ s with nv := { s.nv with revoked := (o.arg % 4) :: s.nv.revoked.filter (· ≠ o.arg % 4) } }).showKeys
      else { s with nv := { s.nv with splitopt := o.arg % 256, straplock := bit o.arg 8 } }
    s.nvmResult o.ini o.op (if fail then 6 else 0)

/-- A write of NVM_STBUF by its owner (R491); anything else is the caller's bus error. -/
def State.stWrite (s : State) (j w : Nat) : State := s.wr NVM_STBUF_DATA j w

/-- A write of PF0 through its pricking window (R489). -/
def State.pwWrite (s : State) (o : Nat) (l : List (BitVec 8)) : State :=
  let t := s.rd NVM_PWSLOT_SLOT 0
  let bad := if t = 3 then decide (0x400000 < o + l.length) else decide (0x800000 < o + l.length) || decide (2 ≤ s.contentOf t)
  if l.isEmpty then s
  else if bad then s.raise NVM_STAT_PWERR 0 1
  else
    let a := slotBase t + o
    (s.nvmPut a l).slotWritten a

/-! ## Boot ROM -/

/-- The image of the active slot when it passes steps 1 to 7 and the boot ROM verifies it (R414, R437, R502). -/
def State.activeImage (s : State) : Option Image :=
  if s.rd NVM_STRAP_BOOTMODE 0 ≠ 0 then none
  else match s.nv.active with
    | some a => (match s.steps2to7 a [0] with | .ok im => some im | .error _ => none)
    | none => none

/-- The boot ROM starts (R371, R498, R502 to R504): the straps, as GPIO2 to GPIO0, and SPLIT; the comparator results of the pairs; SVNMIN, key
status and the slot table; the settings area, empty if it cannot be rebuilt; and, once steps 1 to 7 pass on the active slot,
training of the Braid ports (R437). The codeword whose error prevents the rebuild lies at a free offset of the area that only the device reads. -/
def State.bootRom (s : State) (straps : Nat) (cmp : List Nat) (lost : Bool) : State :=
  if s.bootEnded then s
  else
    let n := s.nv
    let mode := if n.straplock then 0 else if bits straps 2 1 = 0 then 0 else 1
    let s := s.wrs 0 [(NVM_STRAP_STRAPLOCK, if n.straplock then 1 else 0), (NVM_STRAP_SPLITOPT, n.splitopt), (NVM_STRAP_BADMODE, bits straps 2 2),
      (NVM_STRAP_BOOTMODE, mode), (NVM_STRAP_SPLITEN, straps), (SYS_CFG_SPLIT, if bit straps 0 then n.splitopt else 0)]
    let s := (List.range 8).foldl (fun s p => s.cmpResult p (cmp.getD p 4095)) s
    let s := (List.range 3).foldl (fun s i => (s.wr PRK_SLOT_INFO_CONTENT i (s.contentOf i)).wr PRK_SLOT_SERIAL_SERIAL i (mget n.serial 0 i)) s
    let s := (s.showMarks).showKeys
    let s := if lost then
        ((({ s with nvm := s.nvm.filter fun p => !(decide (0x1C00000 ≤ p.1) && decide (p.1 < 0x1D00000)) }).setFlag 18 NVM_FAULT_FLAGS 0 2).eccHit 4 0
          (0x1D00000 + 16 * (s.fresh % 0x30000)) .uncorr false).drawn
      else s
    let s := s.showSettings
    match s.activeImage with
    | some im => let p := im.plan; s.braidTrain [p.seat, p.ring, p.follower, p.ports, p.gfirst, p.gcount]
    | none => s

/-- PCIe training starts (R414). -/
def State.linkTraining (s : State) : State := s.train (if s.bootEnded then none else s.activeImage)

end Sys2Proof.Machine
end

