-- ==== Sys2Proof/Machine/Faults.lean ====
section
/-!
DEFINITION. Environment faults, clock loss, supply start and stop, the reset levels, and the FRST array (spec/20, R449 to R456; spec/21).
-/
namespace Sys2Proof.Machine
open F

/-- System fault 0x11 + i (Table 21.1). -/
def State.sysFault (s : State) (i : Nat) : State := s.setFlag 19 FRST_SYSFAULT_FLAGS 0 i

/-- An enabled Braid port is not up 10 ms after it began to train (R474). -/
def State.notrainTimeout (s : State) (b : Nat) : State :=
  s.due (s.notrainDue b) fun s =>
    let s := s.setBport b { s.bport b with notrain := none }
    if s.training b then s.sysFault 3 else s

/-! ## Clock loss -/

/-- FRST_SYSSTAT.FALLBACK (Table 21.11). -/
def State.showFallback (s : State) : State := s.wrb FRST_SYSSTAT_FALLBACK 0 (s.rd SYS_CLKSTAT_CREF 0 == 3 || s.kpllAon)

/-- The 50 MHz reference is declared lost (R475). Log entry 71 (DEDUCED). -/
def State.xtalLost (s : State) : State :=
  let s := ((s.raise SYS_CLKSTAT_XTAL_LOST 0 1).wrs 0 [(SYS_CLKSTAT_AON_LOCKED, 0), (FRST_SYSSTAT_REFOK, 0)]).sysFault 0
  let s := if s.rd SYS_CLKSTAT_CREF 0 < 2 then s.toAon else s
  if s.kpllAon then s
  else (({ s with kpll := some (s.within (usec 100), true), kpllOut := true }).drawn).wr SYS_CLKSTAT_KPLL_LOCK 0 0

/-- PLL p, 0 control or 1 core, locks (R475 to R477). After the second of a CLKRET the gating ends. -/
def State.pllLock (s : State) (p : Nat) : State :=
  let s := if p = 0 then
      (match s.cpll with
      | some (t, c) =>
        let s := s.reach t
        ({ (if s.yard.isNone then s.endPace else s) with cpll := none }).wrs 0 [(SYS_CLKSTAT_CPLL_LOCK, 1), (SYS_CLKSTAT_CREF, c)]
      | none => s.wr SYS_CLKSTAT_CPLL_LOCK 0 1)
    else
      (match s.kpll with
      | some (t, a) => ({ s.reach t with kpll := none, kpllAon := a, kpllOut := false }).wr SYS_CLKSTAT_KPLL_LOCK 0 1
      | none => ({ s with kpllOut := false }).wr SYS_CLKSTAT_KPLL_LOCK 0 1)
  let s := s.showFallback
  if s.clkret && s.cpll.isNone && s.kpll.isNone then ({ s with clkret := false, gated := false }).wr FRST_SYSSTAT_GATED 0 0 else s

/-- The control PLL loses lock with its reference present (R476). -/
def State.cpllUnlock (s : State) : State :=
  let s := ((s.raise SYS_CLKSTAT_CPLL_UNLOCK 0 1).wr SYS_CLKSTAT_CPLL_LOCK 0 0).sysFault 1
  let s := s.gateLegs.startPace
  { s with cpll := some (s.et, match s.cpll with | some (_, c) => c | none => s.rd SYS_CLKSTAT_CREF 0) }

/-- The core PLL loses lock (R476): the cores stop. -/
def State.kpllUnlock (s : State) : State :=
  let s := ((s.raise SYS_CLKSTAT_KPLL_UNLOCK 0 1).wr SYS_CLKSTAT_KPLL_LOCK 0 0).sysFault 2
  { s with kpllOut := true, kpll := some (s.et, match s.kpll with | some (_, a) => a | none => s.kpllAon) }

/-- FRST_STAT.ERR with a LASTERR (Table 21.7). -/
def State.frstErr (s : State) (code : Nat) : State := (s.raise FRST_STAT_ERR 0 1).wr FRST_STAT_LASTERR 0 code

/-- A write of CLKRET (R477). -/
def State.clkretWrite (s : State) : State :=
  if !s.on FRST_SYSSTAT_REFOK 0 || !s.on SYS_CLKSTAT_CPLL_LOCK 0 || !s.on SYS_CLKSTAT_KPLL_LOCK 0
      || (List.range 48).any (fun k => (s.leg k).st != .safe) then s.frstErr 5
  else
    let c := s.rd SYS_CLKSTAT_CREF 0
    let c := if c = 3 then ((s.committed.getD {}).clock.getD 0 0) else c
    let s := ({ s.startPace with cpll := some (s.within (usec 100), c) }).drawn
    let s := ({ s with kpll := some (s.within (usec 100), false), kpllOut := true, clkret := true }).drawn
    s.wrs 0 [(SYS_CLKSTAT_CPLL_LOCK, 0), (SYS_CLKSTAT_KPLL_LOCK, 0), (TG_DTSTAT_UNCORR, 1)]

/-- The reference has been present for 1 ms (R477). -/
def State.refokSet (s : State) : State := s.wr FRST_SYSSTAT_REFOK 0 1

/-! ## Resets of the device -/

/-- A state in which everything has been reset but what every reset of the device keeps: time, the NVM, the reset-cause record, the pins,
the record of messages, the queue, and the count of free values (R478, Table 21.2). A new key for handles is drawn (R348). -/
def State.cleared (s : State) : State :=
  let s := s.nvmLost
  { State.reset with
    pending := s.pending, et := s.et, dt0 := s.endPace.dt0, fv := s.fv + 1, wkey := s.fv, bankKey := s.bankKey, out := s.out, nvm := s.nvm, nv := s.nv,
    strapLock := s.nv.straplock, badCw := s.badCw.filter (·.1 == 4), perst := s.perst, supply := s.supply,
    regs := s.regs.filter fun p => decide (p.1 % 1024 ∈ [FRST_CAUSE_COUNT.key.val, FRST_CAUSE_CAUSE.key.val, FRST_CAUSE_LEVEL.key.val,
      PIN_VIOSTAT_G.key.val, PIN_VIOSTAT_E.key.val]) }

/-- One more entry of the reset-cause record (Table 21.9). -/
def State.resetCause (s : State) (cause level : Nat) : State :=
  (s.satAdd FRST_CAUSE_COUNT 0).wrs 0 [(FRST_CAUSE_CAUSE, cause), (FRST_CAUSE_LEVEL, level)]

/-- Registers of the supply, of the AON domain and of device time, which a device reset keeps (Table 21.2), and the count of reseeds since power-on
(R240). -/
def devKeeps : List Nat :=
  ([PWR_AUXCTL_YARDOFF, PWR_AUXCTL_STOP5, PWR_AUXCTL_STOP12, PWR_AUXCTL_AUX5EN, PWR_AUXCTL_AUX12EN, PWR_AUXSTAT_I12, PWR_AUXSTAT_I5, PWR_AUXSTAT_WERR,
    PWR_AUXSTAT_HIC12, PWR_AUXSTAT_HIC5, PWR_AUXSTAT_PG12, PWR_AUXSTAT_PG5, PWR_VIN_VIN, PWR_VIN_IIN, PWR_PIN_PIN, PWR_ENERGY_LO_ENERGY,
    PWR_ENERGY_HI_ENERGY, PWR_FAULT_FLAGS, PWR_FIEN_IE, PWR_FINFO_CODE, PWR_FINFO_VALUE, SYS_CLKSTAT_AON_LOCKED, TG_DTSTAT_STEP,
    TG_DTSTAT_UNCORR, PLW_HASHGEN_GEN] : List Field).map (·.key.val)

/-- Device reset (R478): outputs safe, 10 µs of reset, then the boot sequence at the boot-ROM step. Log entry 73 (DEDUCED). -/
def State.deviceReset (s : State) (cause : Nat) : State :=
  let t := s.cleared
  let t := { t with et := s.et + usec 10, regs := s.regs.filter fun p => decide (p.1 % 1024 ∈ devKeeps) || t.regs.any (·.1 == p.1) }
  t.resetCause cause 2

/-- A write of FRST_DEVRST (R478): PF0 is initiator 16. -/
def State.devrstWrite (s : State) (ini w : Nat) : State := if w % 2 ^ 32 = 0x9664 then s.deviceReset (if ini = 16 then 4 else 5) else s

/-! ## Supply start and stop -/

/-- Power-on reset (Table 21.2): device time starts at 0 (R293). -/
def State.powerOn (s : State) : State :=
  let t := s.cleared
  { t with dt0 := -((s.et / 64 : Nat) : Int) }

/-- VHOLD reaches the start threshold, and power-on reset is released (R449, R455, R504); the auxiliary outputs follow their enables 0.2 ms after the rails (R455). cold: VHOLD had fallen below 20 V (Table 21.9). A
device that a third PWR_RAIL keeps off waits until VHOLD has fallen below the stop threshold (R456). Log entry 69 (DEDUCED). -/
def State.supplyStart (s : State) (cold : Bool) : State :=
  let s := if cold then s.rstFields 0 [FRST_CAUSE_COUNT, FRST_CAUSE_CAUSE, FRST_CAUSE_LEVEL] else s
  if s.supply.up then s.auxShows
  else if s.supply.tsd || s.supply.railDue.isSome || (s.supply.stayOff && !cold) then s
  else
    let t := { s with et := s.et + usec 4480 }.powerOn
    ({ t with supply := { rails := s.supply.rails } }).auxShows

/-- The stop sequence begins (R451): every leg's outputs go to their safe values by the gating. -/
def State.stopWith (s : State) (cause : Nat) : State :=
  if !s.supply.up || s.supply.stopAt.isSome then s
  else
    let s := s.gateLegs
    { s with supply := { s.supply with stopAt := some (s.et + usec 20), stopCause := cause } }

/-- VHOLD falls below the stop threshold (R451). The device that stays off after a third PWR_RAIL may start again (R456). -/
def State.stopSequence (s : State) : State :=
  if s.supply.up && s.supply.stopAt.isNone then s.stopWith 2 else { s with supply := { s.supply with stayOff := false } }

/-- 20 µs on: the auxiliary outputs are off and power-on reset is asserted (R451). -/
def State.stopAuxOff (s : State) : State :=
  s.due s.supply.stopAt fun s =>
    let p := s.supply
    let t := (s.powerOn).resetCause p.stopCause 1
    { t with supply := { up := false, railDue := p.railDue, tsd := p.tsd, rails := p.rails, stayOff := p.stayOff } }

/-- An internal rail has been out of tolerance for 10 µs (R456): a restart 100 ms on, or none after the third in 1 s. -/
def State.railFault (s : State) (rail : Nat) : State :=
  if !s.supply.up || s.supply.stopAt.isSome then s
  else
    let s := s.pwrFault 5 rail
    let rs := (s.supply.rails.filter fun t => decide (s.et < t + usec 1000000)) ++ [s.et]
    let off := decide (3 ≤ rs.length)
    let s := { s with supply := { s.supply with rails := rs, stayOff := off, railDue := if off then none else some (s.et + usec 100000) } }
    s.stopWith 0x26

/-- The power die exceeds 150 °C (R456). -/
def State.thermalShutdown (s : State) (temp : Nat) : State :=
  if !s.supply.up || s.supply.stopAt.isSome then s
  else
    let s := s.pwrFault 8 temp
    ({ s with supply := { s.supply with tsd := true } }).stopWith 0x29

/-- The power die reaches 130 °C (R456). -/
def State.pwrHot (s : State) (temp : Nat) : State := s.pwrFault 6 temp

/-- The device starts again, 100 ms after PWR_RAIL or once cooled after PWR_TSD (R456). -/
def State.powerRestart (s : State) : State :=
  if s.supply.up || s.supply.stayOff then s
  else if s.supply.tsd || s.supply.railDue.isSome then
    s.due (some ((s.supply.railDue).getD s.et)) fun s => ({ s with supply := { s.supply with tsd := false, railDue := none } }).supplyStart false
  else s

/-! ## The FRST array -/

/-- A function number of Table 21.3. -/
def fnValid (f : Nat) : Bool :=
  decide (f < 0x48) || (decide (0x50 ≤ f) && decide (f < 0x98)) || (decide (0xA0 ≤ f) && decide (f < 0xD4)) || (decide (0xE0 ≤ f) && decide (f < 0x145))
    || (decide (0x150 ≤ f) && decide (f < 0x160))

/-- The number under which a function is kept: both cores of a lockstep pair are one (R480). -/
def State.fnLead (s : State) (f : Nat) : Nat :=
  if 0x150 ≤ f && f < 0x160 && s.lockstep (f - 0x150) then 0x150 + (f - 0x150) / 2 * 2 else f

def State.setFnRst (s : State) (f : Nat) (x : FnRst) : State := { s with frst := mset s.frst {} f x }

/-- The bounded unit of a function is finished (Table 21.3). -/
def State.fnDrained (s : State) (f : Nat) : Bool :=
  if 0x60 ≤ f && f < 0x90 then (s.eng (f - 0x60)).run.isNone && !s.posts.any (fun q => q.engine == f - 0x60)
  else if 0x90 ≤ f && f < 0x98 then (match (s.ltile (f - 0x90)).cur with | some w => w.phase == 5 | none => true)
  else if 0xA0 ≤ f && f < 0xD0 then (s.leg (f - 0xA0)).st == .safe
  else if f = 0x142 then s.cap.count == 0
  else if 0x150 ≤ f then (match (s.core (f - 0x150)).wait with | .host _ => false | _ => true)
  else true

/-- What drain starts: a leg stops by its rule, a waiting WFE or WAITT ends (Table 21.3). -/
def State.fnDrain (s : State) (f : Nat) : State :=
  if 0xA0 ≤ f && f < 0xD0 then s.legStopOwn (f - 0xA0)
  else if 0x150 ≤ f then
    let c := f - 0x150
    (match (s.core c).wait with
    | .host _ => s
    | _ => s.setCore c { s.core c with wait := .none })
  else s

/-- The effect of a function's reset (Table 21.3); hard: the bounded unit is discarded (R480). -/
def State.fnApply (s : State) (f : Nat) (hard : Bool) : State :=
  if f < 0x40 then s.modStop f
  else if f < 0x48 then s.spareReset (f - 0x40)
  else if f < 0x60 then s.mcReset (f - 0x50)
  else if f < 0x90 then
    let e := f - 0x60
    let s := s.leSwapAbort e
    (s.setEng e { s.eng e with rst := true, reload := none }).leFault e 11
  else if f < 0x98 then s.lesReset (f - 0x90)
  else if f < 0xD0 then (s.legStop (f - 0xA0) 0).legReset (f - 0xA0)
  else if f < 0xD4 then
    let g := f - 0xD0
    let t := s.tgReset g
    State.edge (5 + g) s (if s.on PRK_STATE_LOCKED 0 then t
      else ((List.range 16).map (16 * g + ·)).foldl (fun t n => t.rstRows regsGT n [.wl]) t)
  else if f < 0x100 then s.dmaReset (f - 0xE0)
  else if f < 0x140 then s.fnReset (f - 0x100)
  else if f < 0x142 then s.braidReset (f - 0x140)
  else if f = 0x142 then (if hard then s.loseTracked else s).capReset
  else if f = 0x143 then s.sprReset
  else if f = 0x144 then s.gndReset
  else s.coreReset (f - 0x150)

/-- The longest a reset phase takes (R479 to R481, Table 21.3). -/
def State.fnBound (s : State) (f : Nat) : Nat :=
  if f = 0x144 then 64 else if 0x150 ≤ f && s.lockstep (f - 0x150) then 820 + 128000 else usec 1000

/-- The reset phase begins. -/
def State.fnPhase (s : State) (f : Nat) (hard : Bool) : State :=
  let x := s.fnRst f
  let s := s.fnApply f hard
  (s.setFnRst f { x with phase := 2, due := some (s.within (s.fnBound f)) }).drawn

/-- Release (R479, R481): the function restarts from its committed configuration. -/
def State.fnRelease (s : State) (f : Nat) : State :=
  let s := s.setFnRst f {}
  if f < 0x40 then (if s.modOn f then s.modGo f else s)
  else if 0x50 ≤ f && f < 0x60 then (s.mainsStart (f - 0x50)).mcKick (f - 0x50)
  else if f = 0x140 || f = 0x141 then
    let b := f - 0x140
    if s.training b then s.setBport b { s.bport b with notrain := some (s.et + usec 10000) } else s
  else if 0x150 ≤ f then s.coreGo (f - 0x150)
  else s

/-- A command starts on a function: drain, or at once (R479, R480). -/
def State.fnStart (s : State) (f : Nat) (hard keep : Bool) : State :=
  let keep := keep || (s.fnRst f).phase == 3
  let s := s.setFnRst f { phase := 1, keep := keep }
  if hard then s.fnPhase f true
  else
    let s := s.fnDrain f
    if s.fnDrained f then s.fnPhase f false else s

/-- GO of FRST_CMD (R479 to R483): ACTION 1 RESET, 2 HRESET, 3 HOLD, 4 HHOLD, 5 RELEASE. One command is taken in a FAB cycle (R482). Log entry 72 (DEDUCED). -/
def State.frstCmd (s : State) (ini f0 act : Nat) : State :=
  let f := s.fnLead f0
  let x := s.fnRst f
  let took (s : State) : State := ({ s with frstAt := some (s.et / 64) }).wrs 0 [(FRST_STAT_INIT, ini), (FRST_STAT_FUNC, f0)]
  if s.rd PRK_STATE_OP 0 = 3 then s.frstErr 2
  else if !fnValid f0 || act = 0 || 5 < act then s.frstErr 1
  else if s.frstAt = some (s.et / 64) then s.frstErr 3
  else if x.phase = 1 || x.phase = 2 then
    if x.phase = 1 && (act = 2 || act = 4) then (took (s.setFnRst f { x with keep := decide (act = 4) })).fnPhase f true
    else if !x.keep && (act = 3 || act = 4) then took (s.setFnRst f { x with keep := true })
    else s.frstErr 3
  else if act = 5 then (if x.phase = 3 then (took s).fnRelease f else s.frstErr 4)
  else (took s).fnStart f (act = 2 || act = 4) (act = 3 || act = 4)

/-- The bounded unit of a draining function has finished (R479). -/
def State.fnDrainEnd (s : State) (f0 : Nat) : State :=
  let f := s.fnLead f0
  if (s.fnRst f).phase = 1 && s.fnDrained f then s.fnPhase f false else s

/-- The reset phase of a function ends: held or released (R479, R481). pass: the groups that detected both injections in the comparator
test of a pair reset (R480). An engine's ends with its reload (R142), or, held, with its fallback. -/
def State.fnResetEnd (s : State) (f0 pass : Nat) : State :=
  let f := s.fnLead f0
  let x := s.fnRst f
  if x.phase ≠ 2 then s
  else if 0x60 ≤ f && f < 0x90 then
    let e := s.eng (f - 0x60)
    if x.keep then (if e.reload.isSome then s.setFnRst f { phase := 3, keep := true } else s)
    else if e.reload.isNone && !e.rst then s.setFnRst f {} else s
  else
    s.due x.due fun s =>
      let s := if 0x150 ≤ f && s.lockstep (f - 0x150) then s.cmpResult ((f - 0x150) / 2) pass else s
      if x.keep then s.setFnRst f { phase := 3, keep := true } else s.fnRelease f

/-- FRST_HELDj (R481): functions held or in reset. -/
def State.frstHeld (s : State) (j : Nat) : Nat :=
  (List.range 32).foldl (fun m i => if fnValid (32 * j + i) && s.fnHeld (s.fnLead (32 * j + i)) then m + 2 ^ i else m) 0

/-- FRST_STAT.BUSY: a command is in drain or reset. -/
def State.frstBusy (s : State) : Bool := s.frst.any fun p => p.2.phase == 1 || p.2.phase == 2

end Sys2Proof.Machine
end

