-- ==== Sys2Proof/Machine/Debug.lean ====
section
/-!
DEFINITION. Debug and pins: the detached engine (R515 to R517), trace blocks (R519), the test access port without its bus accesses
(R507, R508), and the general pins (R524 to R527).
-/
namespace Sys2Proof.Machine
open F

/-! ## The detached engine -/

/-- The tile whose released engine is detached. -/
def State.dbgTile (s : State) : Option Nat :=
  (List.range 8).find? fun t => match (s.ltile t).cur with | some w => w.phase == 5 | none => false

/-- A refused command sets DBG_LSTAT.WERR. -/
def State.lRefuse (s : State) : State := s.raise DBG_LSTAT_WERR 0 1

/-- DETACH (R515). -/
def State.detach (s : State) (e : Nat) : State :=
  if 48 ≤ e || s.dbgTile.isSome then s.lRefuse
  else
    let m := (s.eng e).mode
    let s := if !(s.ltile (engTile e)).spareOk || m = .faulted || m = .fallback then s.lRefuse else s
    s.leSwapRequest e 2

/-- ATTACH (R517): the test follows. -/
def State.attach (s : State) : State :=
  match s.dbgTile with
  | none => s.lRefuse
  | some t =>
    match (s.ltile t).cur with
    | none => s
    | some w =>
      let s := s.setLtile t { s.ltile t with cur := some { w with phase := 3, due := s.within (usec 200) } }
      ((s.setEng (48 + t) { s.eng (48 + t) with run := none, fb := none }).wrs 0 [(DBG_LSTAT_DETACHED, 0), (DBG_LSTAT_INRUN, 0)]).drawn

/-- DBG_LSTAT and what DBG_LRDATA reads follow the detached engine. -/
def State.lShow (s : State) (e : Nat) : State :=
  let x := s.eng e
  let s := { s with dbgRun := if x.run.isSome then x.run else s.dbgRun }
  match x.run, x.fb with
  | some r, _ => s.wrs 0 [(DBG_LSTAT_INRUN, 1), (DBG_LSTAT_ADDR, r.pc)]
  | none, some f => s.wrs 0 [(DBG_LSTAT_INRUN, 1), (DBG_LSTAT_ADDR, f.pc)]
  | none, none => s.wr DBG_LSTAT_INRUN 0 0

/-- DISPATCH (R516). A run in progress, or a slot without a job, refuses it. -/
def State.lDispatch (s : State) : State :=
  match s.dbgTile with
  | none => s.lRefuse
  | some t =>
    let e := 48 + t
    let slot := s.rd DBG_LCTL_SLOT 0
    let x := s.eng e
    let n := engCeil s.et
    if s.on DBG_LSTAT_INRUN 0 then s.lRefuse
    else if s.on DBG_LCTL_FB 0 then ((s.setEng e { x with fb := some { start := n, next := n } }).wr DBG_LSTAT_BPHIT 0 0).lShow e
    else if !s.on LE_SLOT_JOB_VALID (8 * e + slot) then s.lRefuse
    else
      let pc := s.rd LE_SLOT_CODE_ENTRY (8 * e + slot)
      let r : ERun := { slot := slot, t0 := n, pc := pc, at_ := pc }
      ((s.setEng e { x with run := some r }).wr DBG_LSTAT_BPHIT 0 0).lShow e

/-- One microword of the detached engine's run, with all its microsteps. A run that reaches its budget ends with LE_OVERRUN (R126), and the
horizontal program after the limit of the role it is detached from (R173). -/
def State.lStep1 (s : State) (e : Nat) : State :=
  let x := s.eng e
  let role := match (s.ltile (e - 48)).cur with | some w => w.req.role | none => 0
  match x.fb with
  | some f =>
    if f.start + 32 * s.rd LE_FBLIM_LIMIT role ≤ f.next then s.setEng e { x with fb := none } else s.fallbackWord e .ok .ok
  | none =>
    match x.run with
    | none => s
    | some r =>
      match decodeU (mget x.vs (2 ^ 26) r.pc) with
      | none => s
      | some o =>
        let s := s.uword e .ok o .ok
        match (s.eng e).run with
        | some r => if s.rd LE_SLOT_BUDGET_BUDGET (8 * e + r.slot) ≤ r.steps then s.leFault e 0 else s
        | none => s

/-- STEP of DBG_LCTL (R516). -/
def State.lStep (s : State) : State :=
  match s.dbgTile with
  | none => s.lRefuse
  | some t =>
    if !s.on DBG_LSTAT_INRUN 0 then s.lRefuse
    else ((s.lStep1 (48 + t)).wr DBG_LSTAT_BPHIT 0 0).lShow (48 + t)

/-- Microwords until the run's end or the breakpoint. -/
def State.lRunOn : Nat → State → Nat → State
  | 0, s, _ => s
  | n + 1, s, e =>
    let s := s.lStep1 e
    let x := s.eng e
    match (match x.run with | some r => some r.pc | none => x.fb.map (·.pc)) with
    | none => s
    | some pc => if s.on DBG_LCTL_BPEN 0 && pc == s.rd DBG_LCTL_BPADDR 0 then s.wr DBG_LSTAT_BPHIT 0 1 else s.lRunOn n e

/-- CONT (R516). Every microword takes a microstep or an ENG cycle at least, so the budget or the horizontal limit bounds their number. -/
def State.lCont (s : State) : State :=
  match s.dbgTile with
  | none => s.lRefuse
  | some t =>
    if !s.on DBG_LSTAT_INRUN 0 then s.lRefuse else (State.lRunOn (2 ^ 26) (s.wr DBG_LSTAT_BPHIT 0 0) (48 + t)).lShow (48 + t)

/-- A write of DBG_LCTL: the RW fields, then the command bits from bit 31 down. Log entry 42 (DEDUCED). -/
def State.lctl (s : State) (w : Nat) : State :=
  let s := s.wrs 0 [(DBG_LCTL_FB, bits w 26 26), (DBG_LCTL_BPEN, bits w 25 25), (DBG_LCTL_SLOT, bits w 24 22), (DBG_LCTL_LE, bits w 21 16),
    (DBG_LCTL_BPADDR, bits w 11 0)]
  let s := if bit w 31 then s.detach (bits w 21 16) else s
  let s := if bit w 30 then s.attach else s
  let s := if bit w 29 then s.lDispatch else s
  let s := if bit w 28 then s.lStep else s
  if bit w 27 then s.lCont else s

/-- DBG_LRDATA: the item that DBG_LRSEL selects (Table 23.9). -/
def State.lrData (s : State) : Nat :=
  let i := s.rd DBG_LRSEL_SEL 0
  match s.dbgTile with
  | none => 0
  | some t =>
    let r : ERun := s.dbgRun.getD { slot := 0, t0 := 0, pc := 0, at_ := 0 }
    let p := (s.eng (48 + t)).post
    if i < 16 then u24 (r.rv i)
    else if i < 18 then u24 (r.racc (i - 16))
    else if i < 20 then ofS 48 (r.racc (i - 18)) / 2 ^ 24
    else if i < 24 then r.ra (i - 20)
    else if i = 24 then (if r.sat then 8 else 0) + (if r.q then 4 else 0) + (if r.n then 2 else 0) + (if r.z then 1 else 0)
    else match p with
      | none => 0
      | some (leg, mask, vals) => if i = 32 then leg + 256 * mask else if 33 ≤ i && i < 38 then u24 (vals.getD (i - 33) 0) else 0

/-- The switch of a tile's engine swap; that of a detachment waits while another engine is detached (R515). -/
def State.leSwitchNow (s : State) (t : Nat) : State :=
  let det := match (s.ltile t).cur with | some w => w.req.kind == 2 && w.phase == 2 | none => false
  if det && s.dbgTile.isSome then s else s.leSwitch t (fun s e => s.reloadEngine e)

/-! ## Trace blocks (R519) -/

/-- The oldest trace block goes into the host ring under R398 to R401; its records are counted as dropped when the ring has no room. -/
def State.traceIssue (s : State) : State :=
  match s.tracer.full with
  | [] => s
  | b :: rest =>
    let done (s : State) : State := { s with tracer := { s.tracer with full := rest } }
    if !s.on CAP_CTL_EN 0 then (done s).traceLose (b.bytes.length / 16)
    else if !s.capIssues then s
    else s.ringIssue b done (fun s => (done s).traceLose (b.bytes.length / 16))

/-- A block is issued: of stream i, of the blocks forwarded from other seats (256), or of the trace (257). -/
def State.issueBlock (s : State) (i : Nat) : State :=
  if i < 256 then s.blockIssue i else if i = 256 then s.fwdIssue else if i = 257 then s.traceIssue else s

/-- The flush timeout of a stream, or of the trace (257). -/
def State.flushNow (s : State) (i : Nat) : State :=
  if i < 256 then s.flushTimeout i
  else if i = 257 then
    let f := s.rd CAP_CTL_FLUSH 0
    if f = 0 || s.tracer.pay.isEmpty then s else (s.reach (s.tracer.at_ + usec f)).traceBlock
  else s

/-! ## The test access port -/

/-- While STRAPLOCK is 1 only IDCODE, BYPASS and SAMPLE/PRELOAD act until PF0 sets DAPEN (R507). -/
def State.tapLocked (s : State) : Bool := s.strapLock && !s.on DBG_CTL_DAPEN 0

/-- Load an instruction. -/
def State.tapIr (s : State) (ir : Nat) : State := { s with tap := { s.tap with ir := ir } }

/-- EXTEST, CLAMP and HIGHZ: refused into BYPASS with JREF under a committed structure (R508), and not given under the lock (R507). -/
def State.tapPins (s : State) (ir : Nat) : State :=
  if s.tapLocked then s.tapIr 0xFF
  else if s.rd PRK_STATE_STRUCT 0 = 1 then (s.raise DBG_STAT_JREF 0 1).tapIr 0xFF
  else s.tapIr ir

/-- The pins are under the control of a TAP instruction: 0 EXTEST drives the boundary-scan register, 3 CLAMP holds it, 4 HIGHZ. -/
def State.tapDrives (s : State) : Option Nat :=
  if s.rd PRK_STATE_STRUCT 0 ≠ 1 && (s.tap.ir = 0 || s.tap.ir = 3 || s.tap.ir = 4) then some s.tap.ir else none

/-- EXTEST with the data shifted into the boundary-scan register. Log entry 44 (DESIGN CHOICE). -/
def State.extest (s : State) (scan : Nat) : State :=
  let s := s.tapPins 0
  if s.tap.ir = 0 then (({ s with tap := { s.tap with scan := scan } }).emit (.tapData s.fresh)).drawn else s

/-- SAMPLE/PRELOAD: the pins are sampled, in an order the specification does not give, and the register preloaded. -/
def State.samplePreload (s : State) (scan : Nat) : State :=
  (({ (s.tapIr 1) with tap := { (s.tapIr 1).tap with scan := scan } }).emit (.tapData s.fresh)).drawn

/-- IDCODE. -/
def State.idcode (s : State) : State := (s.tapIr 2).emit (.tapData 0x1966456F)

/-- A TAP reset clears DAPEN (R507); IDCODE is then in force (log entry 43). -/
def State.tapReset (s : State) : State := (s.wr DBG_CTL_DAPEN 0 0).tapIr 2

/-! ## Pins -/

/-- A general pin is driven: enabled, under a committed structure (R525) and with its bank in range (R527). -/
def State.pinDriven (s : State) (p : Nat) : Bool :=
  decide (p < 32) && bit (s.rd PIN_GPIO_OE_OE 0) p && s.committed.isSome && s.rd PIN_VIOSTAT_G 0 != 0 && !(decide (s.et < s.pinAt) && bit s.pinCh p)

/-- The levels of pins first, first + 1, … as an input register shows them (R526): driven GPIO pins read their output, pins of function 0x02
read 0, and what the board drives on the rest, or a pin that is still changing, is a fresh value. -/
def State.pinLevels (s : State) (first n : Nat) : Nat × State :=
  let v := (List.range n).foldl (fun m i =>
    let p := first + i
    let x := if s.rd PIN_CFG_FUNC p = 2 then false
      else if s.pinDriven p then bit (s.rd PIN_GPIO_OUT_OUT 0) p
      else bit s.fresh i
    if x then m + 2 ^ i else m) 0
  (v, s.drawn)

/-- A bank supply enters or leaves its range (R527): bank 0 to 7 VIO_E, 8 VIO_G; level 0 below range, 1 1.8 V, 2 2.5 V, 3 3.3 V. -/
def State.vioBank (s : State) (bank level : Nat) : State :=
  if bank = 8 then s.wr PIN_VIOSTAT_G 0 level
  else if 8 < bank then s
  else
    let e := s.rd PIN_VIOSTAT_E 0
    s.wr PIN_VIOSTAT_E 0 (e - bits e (2 * bank + 1) (2 * bank) * 4 ^ bank + level % 4 * 4 ^ bank)

/-! ## Halting cores -/

/-- HALT (R510): once the request has crossed into CORE, 2.0 to 3.0 ns on, the core halts at the first boundary that permits it. Log entry 59 (DEDUCED). -/
def State.dbgHalt (s : State) (c : Nat) : State :=
  if s.coreOk c && (s.core c).st == 1 && !(s.core c).haltReq then
    (s.setCore c { s.core c with haltReq := true, haltFrom := cycAt (s.et + 103 + s.fresh % 51) }).drawn
  else s

/-- The core reaches a boundary that permits the halt. -/
def State.coreHalted (s : State) (c : Nat) : State :=
  if (s.core c).haltReq && !(s.core c).stepping && s.haltOk c then (s.reach (cycTime (s.core c).haltFrom)).coreHalt c 1 else s

/-- The cycles of a halt do not count (R509): the core goes on now. -/
def State.unhalt (s : State) (c : Nat) : State :=
  let k := s.core c
  let n := max k.haltAt (cycAt s.et)
  s.setCore c { k with st := 1, free := n, cyc0 := k.cyc0 + (n - k.haltAt), skipBp := true, haltReq := false }

/-- RESUME (R511). -/
def State.dbgResume (s : State) (c : Nat) : State := if (s.core c).st = 4 then s.unhalt c else s

/-- STEP asks for one instruction of a halted core (R511). -/
def State.dbgStep (s : State) (c : Nat) : State :=
  if (s.core c).st = 4 then s.setCore c { s.core c with stepping := true } else s

/-- A breakpoint ahead of the core is met (R512). -/
def State.breakpoint (s : State) (c : Nat) : State :=
  if s.canIssue c && s.bpHit c then (s.reach (cycTime (s.core c).free)).coreHalt c 3 else s

/-- A write of DBG_Cc_CTL: the RW fields, then HALT, STEP, RESUME in ascending bits. -/
def State.dbgCtl (s : State) (c w : Nat) : State :=
  let s := s.wrs c [(DBG_C_CTL_HALTRST, bits w 5 5), (DBG_C_CTL_MASKINT, bits w 4 4), (DBG_C_CTL_BRKCLAIM, bits w 3 3)]
  let s := if bit w 0 then s.dbgHalt c else s
  let s := if bit w 1 then s.dbgStep c else s
  if bit w 2 then s.dbgResume c else s

end Sys2Proof.Machine
end

