-- ==== Sys2Proof/Machine/RegView.lean ====
section
/-!
DEFINITION. What a register read returns (R11 to R13): stored fields, fields that show other state, and the reads with effects (R106, R290,
R292). The read of DBG_Cc_RDATA is in Special.lean.
-/
namespace Sys2Proof.Machine
open F

/-! ## Fields that show other state; i is the register's instance number, ini the reader's initiator number -/

/-- Registers of modulators and tiles (spec/03). -/
def State.viewMod (s : State) (f : Field) (i : Nat) : Option Nat :=
  let x := s.mtile (i / 8)
  if f = MOD_STAT_SWAP then some (match x.cur with
    | some w => if w.req.role = i then w.phase else b2n (x.queue.any (·.role == i))
    | none => b2n (x.queue.any (·.role == i)))
  else if f = MOD_STAT_UNIT then some (b2n (s.unitOf i == 64 + i / 8))
  else if f = MOD_STAT_OVL then some (b2n (s.modOn i && (s.munit (s.unitOf i)).episode))
  else if f = MOD_TRIM_GAIN then some (ofS 16 (s.munit (s.unitOf i)).gain)
  else if f = MOD_TRIM_OFFSET then some (ofS 16 (s.munit (s.unitOf i)).offset)
  else none

def State.viewMods (s : State) (f : Field) (t : Nat) : Option Nat :=
  let x := s.mtile t
  let u := s.munit (s.freeUnit t)
  if f = MODS_STAT_FAILED then some (b2n u.failed)
  else if f = MODS_STAT_PHASE then some (match x.cur with | some w => w.phase | none => 0)
  else if f = MODS_STAT_BUSY then some (b2n x.cur.isSome)
  else if f = MODS_STAT_ROLE then some (match x.cur with | some w => w.req.role | none => 0)
  else if f = MODS_TRIM_GAIN then some (ofS 16 u.gain)
  else if f = MODS_TRIM_OFFSET then some (ofS 16 u.offset)
  else none

def State.viewTile (s : State) (f : Field) (t : Nat) : Option Nat :=
  let x := s.mtile t
  if f = TILE_SWAPSTAT_NOSPARE then some (b2n (!s.spareOk t))
  else if f = TILE_SWAPSTAT_ACTIVE then some (b2n x.cur.isSome)
  else if f = TILE_SWAPSTAT_CURRENT then some (match x.cur with | some w => w.req.role % 8 | none => 0)
  else if f = TILE_SWAPSTAT_QDEPTH then some x.queue.length
  else none

/-- Registers of converters (spec/04). CALBUSY shows a calibration from its first point to its end, and CUR reads 0 but in a scan conversion. Log
entry 86 (DESIGN CHOICE). -/
def State.viewMc (s : State) (f : Field) (k : Nat) : Option Nat :=
  let x := s.mc k
  let w : Option McWork := x.conv.map fun (v : McConv) => v.work
  if f = MC_STAT_LEVEL then some x.fifo.length
  else if f = MC_STAT_CUR then some (match w with | some (.scan i) => i | _ => 0)
  else if f = MC_STAT_CALBUSY then some (b2n (x.cals.any fun q => match (s.mtile q.1).cur with | some c => c.point != 0 | none => false))
  else if f = MC_STAT_XCBUSY then some (match w with | some (.cross _) => 1 | _ => 0)
  else if f = MC_STAT_INSET then some (b2n (decide (k ∈ s.xcSet)))
  else if f = MC_STAT_SCANNING then some (match w with | some (.scan _) => 1 | _ => b2n (!x.todo.isEmpty))
  else if f = MC_XCSTAT_COUNT then some (s.xcDealt k).length
  else none

/-- Registers of engines (spec/05). -/
def State.viewLe (s : State) (f : Field) (e : Nat) : Option Nat :=
  let x := s.ltile (engTile e)
  if f = LE_STAT_SWAP then some (match x.cur with
    | some w => if w.req.role = e then (if w.phase = 5 then 0 else w.phase) else b2n (x.queue.any (·.role == e))
    | none => b2n (x.queue.any (·.role == e)))
  else if f = LE_STAT_UNIT then some (b2n (x.carrier e == 48 + engTile e))
  else if f = LE_STAT_RUNSLOT then some (match (s.eng e).run with | some r => r.slot | none => 0)
  else if f = LE_STAT_STATE then some (s.engState e)
  else if f = LE_MBOX_STAT_LEVEL then some (s.eng e).mbox.length
  else if f = LE_MBOX_STAT_GROUP then some (match (s.eng e).mbox.getLast? with | some m => b2n m.hold | none => 0)
  else none

def State.viewLes (s : State) (f : Field) (t : Nat) : Option Nat :=
  let x := s.ltile t
  let p := match x.cur with | some w => w.phase | none => 0
  if f = LES_STAT_QDEPTH then some x.queue.length
  else if f = LES_STAT_FAILED then some (b2n x.failed)
  else if f = LES_STAT_PHASE then some (if p = 5 then 0 else p)
  else if f = LES_STAT_BUSY then some (b2n (p != 0 && p != 5))
  else if f = LES_STAT_DETACHED then some (b2n (p == 5))
  else if f = LES_STAT_ROLE then some (match x.cur with | some w => w.req.role | none => 0)
  else none

/-- Registers of legs (spec/07). -/
def State.viewLeg (s : State) (f : Field) (k : Nat) : Option Nat :=
  if f = L_STAT_STATE then some (match (s.leg k).st with | .safe => 0 | .active => 1 | .stopping => 2 | .fallback => 3)
  else if f = L_OTRSTAT_LOWH then some (s.otrLow k 0)
  else if f = L_OTRSTAT_LOWL then some (s.otrLow k 1)
  else none

/-- Pillow's tables are read through the reader's own selects (spec/09). -/
def State.viewPlw (s : State) (f : Field) (ini : Nat) : Option Nat :=
  let via (sel : Field) : Option Nat := some (s.rd f (s.rd sel ini))
  if f = PLW_JINFO_VALID || f = PLW_JINFO_PINNED || f = PLW_JINFO_CLASS || f = PLW_JINFO_SLOT || f = PLW_JINFO_X || f = PLW_JINFO_FREM
    || f = PLW_JINFO_PREM || f = PLW_JINFO_ENGINE || f = PLW_JBOUND_PS || f = PLW_JSLACK_PS then via PLW_JSEL_JOB
  else if f = PLW_EINFO_USED || f = PLW_EINFO_TGT || f = PLW_EINFO_VACANT || f = PLW_EINFO_NSLOTS || f = PLW_EINFO_IMAGE || f = PLW_ELOAD_HOLD
    || f = PLW_ELOAD_W || f = PLW_EUTIL_UTIL then via PLW_ESEL_ENGINE
  else if f = PLW_TBASE_VALUE then via PLW_TSEL_ID
  else if f = PLW_CROUTE_VALID || f = PLW_CROUTE_ROUTE || f = PLW_CROUTE_RATE then via PLW_CSEL_STREAM
  else if f = PLW_RPATH_VALID || f = PLW_RPATH_NOPATH || f = PLW_RPATH_PORT || f = PLW_RPATH_X || f = PLW_RPATH_SEAT then via PLW_RSEL_SAMPLE
  else none

/-- Registers of Ground and Springbok (spec/10, spec/11). -/
def State.viewGnd (s : State) (f : Field) (i ini : Nat) : Option Nat :=
  let at_ (j : Nat) : Nat := s.loop.getD (16 * s.rd GND_LOOPSEL_PAGE ini + j) 0
  if f = GND_STAT_MUTED then some s.mutedNow
  else if f = GND_LOOP_PICOTA then some (at_ (2 * i))
  else if f = GND_LOOP_PICOTB then some (at_ (2 * i + 1))
  else if f = GND_EVCNT_COUNT then
    some (if s.coreOk i then (List.range 8).foldl (fun m j => m + 16 ^ j * (mget (s.core i).ev 0 j % 16)) 0 else 0)
  else none

/-- A mask over legs from a test. -/
def legMask (p : Nat → Bool) : Nat := (List.range 48).foldl (fun m k => if p k then m + 2 ^ k else m) 0

def State.viewSpr (s : State) (f : Field) : Option Nat :=
  if f = SPR_LATCH0_LATCH then some (legMask fun k => (s.leg k).latch)
  else if f = SPR_LATCH1_LATCH then some (legMask (fun k => (s.leg k).latch) / 2 ^ 32)
  else if f = SPR_ACTIVE0_ACTIVE then some (legMask s.srcActive)
  else if f = SPR_ACTIVE1_ACTIVE then some (legMask s.srcActive / 2 ^ 32)
  else none

/-- Registers of timers and groups (spec/12). -/
def State.viewGt (s : State) (f : Field) (n : Nat) : Option Nat := if f = GT_STAT_OLDPLAN then some (b2n (s.gtOldPlan n)) else none

def State.viewTg (s : State) (f : Field) (g : Nat) : Option Nat :=
  if f = TG_IRQ_FLT then some (s.rd TG_FAULT_FLAGS g &&& s.rd TG_FIEN_IE g)
  else if f = TG_IRQ_TMR then some ((List.range 16).foldl (fun m k =>
    let i := 16 * g + k
    if (s.on GT_STAT_MATCH i && s.on GT_IEN_MATCH_IE i) || (s.on GT_STAT_END i && s.on GT_IEN_END_IE i)
        || (s.on GT_STAT_OVR i && s.on GT_IEN_OVR_IE i) then m + 2 ^ k else m) 0)
  else none

/-- Registers of the warrant table, read through the reader's own selects (R368). -/
def State.viewWrt (s : State) (f : Field) (ini : Nat) : Option Nat :=
  let i := s.rd WRT_ESEL_INDEX ini
  let x := s.went i
  let slot := mget (s.fn (s.rd WRT_BINDSEL_FN ini)).bound 0 (s.rd WRT_BINDSEL_SLOT ini)
  if f = WRT_STAT_BUSY then some (b2n (decide (cycAt s.et < s.wrtFree)))
  else if f = WRT_STAT_RETIRED then some (((List.range 4095).map (· + 1)).filter s.retired).length
  else if f = WRT_STAT_FREE then some s.wfrees.length
  else if f = WRT_EINFO_ALLOC then some (b2n (s.walloc i))
  else if f = WRT_EINFO_RETIRED then some (b2n (i != 0 && s.retired i))
  else if f = WRT_EINFO_ENTRYW then some (b2n x.entryw)
  else if f = WRT_EINFO_ROOT then some (b2n x.root)
  else if f = WRT_EINFO_KIND then some x.kind
  else if f = WRT_EINFO_RIGHTS then some x.rights
  else if f = WRT_EINFO_PARENT then some x.parent
  else if f = WRT_EGEN_GEN then some (s.wgenOf i)
  else if f = WRT_EBASE_VALUE then some x.base
  else if f = WRT_ELIMIT_VALUE then some x.limit
  else if f = WRT_BIND_LO_HANDLE then some slot
  else if f = WRT_BIND_HI_HANDLE then some (slot / 2 ^ 32)
  else if f = WRT_BINDSTAT_VALID then some ((List.range 8).foldl (fun m j =>
    if s.handleBad (mget (s.fn (s.rd WRT_BINDSEL_FN ini)).bound 0 j) = 0 then m + 2 ^ j else m) 0)
  else none

/-- Registers of a core's CP block (R385); the log's three words are repeated 64 times. -/
def State.viewCp (s : State) (f : Field) (i : Nat) : Option Nat :=
  let c := i
  let e := (s.core (i / 64)).slog.getD (i % 64) []
  if f = CP_STAT_SPLIT then some (b2n (!s.lockstep c))
  else if f = CP_STAT_STATE then some (if (s.core c).st = 1 && decide (cycAt s.et < (s.core c).recov) then 2 else (s.core c).st)
  else if f = CP_JLEVEL_JUSED then some (s.core c).jrnl.length
  else if f = CP_JLEVEL_LUSED then some (s.core c).slog.length
  else if f = CP_SLOG_INFO_VALID then some (b2n (!e.isEmpty))
  else if f = CP_SLOG_INFO_KIND then some (e.getD 0 0)
  else if f = CP_SLOG_INFO_DETAIL then some (e.getD 1 0)
  else if f = CP_SLOG_ADDR_VALUE then some (e.getD 2 0)
  else if f = CP_SLOG_DATA_VALUE then some (e.getD 3 0)
  else none

/-- Registers of DMA and capture (R411). -/
def State.viewDma (s : State) (f : Field) (e : Nat) : Option Nat :=
  if f = DMA_STAT_DONE then some ((List.range 8).foldl (fun m c => if s.on DMAC_STAT_DONEF (8 * e + c) then m + 2 ^ c else m) 0)
  else if f = CAP_STAT_TRACKED then some s.cap.count
  else if f = CAP_STAT_ACTIVE then some (b2n (s.on CAP_CTL_EN 0 && !s.on CAP_STAT_FROZEN 0))
  else none

/-- Registers of PCIE, PWR, FRST, DBG and PIN that show other state. -/
def State.viewSys (s : State) (f : Field) (i ini : Nat) : Option Nat :=
  let vf := s.rd PCIE_ISEL_VF ini
  if f = PCIE_ISTAT_ACCEPTED || f = PCIE_ISTAT_REFUSED || f = PCIE_ISTAT_REASON then some (s.rd f vf)
  else if f = PCIE_ISTAT_QLEVEL then some (s.fn (vf + 1)).intents.length
  else if f = PWR_STAT_YARDOK then some (b2n s.yardOk)
  else if f = NVM_STAT_OP then s.nvOp.map fun o => if s.et < o.comp then 7 else o.op
  else if f = FRST_STAT_BUSY then some (b2n s.frstBusy)
  else if f = FRST_HELD_HELD then some (s.frstHeld i)
  else if f = FRST_DEVRST_KEY then some 0
  else if f = DBG_LRDATA_VALUE then some s.lrData
  else if f = DBG_C_STAT_HALTED then some (b2n ((s.core i).st == 4))
  else if f = PIN_MISC_PERST then some (b2n s.perst)
  else none

/-- What a field reads as. -/
def State.view (s : State) (blk : Blk) (f : Field) (i ini : Nat) : Nat :=
  let o : Option Nat := match blk with
    | .mod => s.viewMod f i
    | .mods => s.viewMods f i
    | .tile => s.viewTile f i
    | .mc => s.viewMc f i
    | .le => s.viewLe f i
    | .les => s.viewLes f i
    | .leg => s.viewLeg f i
    | .plw => s.viewPlw f ini
    | .gnd => s.viewGnd f i ini
    | .ec => if f = EC_STAT_USED then some (b2n (decide (i ∈ s.ecUsed))) else none
    | .spr => s.viewSpr f
    | .gt => s.viewGt f i
    | .tg => s.viewTg f i
    | .wrt => s.viewWrt f ini
    | .cp => s.viewCp f i
    | .dma | .cap => s.viewDma f i
    | .sys | .prk | .frst | .pwr | .nvm | .dbg | .dbgc | .pin | .picot | .dmac | .caps | .cappt | .pcie | .b => s.viewSys f i ini
  (o.getD (s.rd f (fieldInst f i ini))) % 2 ^ f.w

/-- The word of a register. -/
def State.regWord (s : State) (r : Reg) (ini : Nat) : Nat :=
  (r.row.fs.map fun f => if f.acc == .w1p then 0 else s.view r.blk f.f r.key ini * 2 ^ f.lo).sum

/-- The shadow number of the energy count's upper half (R292). -/
def energyShadow : Nat := 130

/-- A read of a register, with its effects (R12: RL). -/
def State.regRead (s : State) (ini : Nat) (r : Reg) : Nat × State :=
  let n := r.inst
  match r.row.fs with
  | [] => (0, s)
  | f :: _ =>
    let f := f.f
    if f = MC_RES_VALID then s.mcResRead n
    else if f = GT_COUNT_LO_COUNT then s.countLoRead ini n
    else if f = GT_COUNT_HI_COUNT then s.hiRead ini (2 * n)
    else if f = GT_CAP_LO_CAP then s.capLoRead ini n
    else if f = GT_CAP_HI_CAP then s.hiRead ini (2 * n + 1)
    else if f = TG_DTIME_LO_TIME then s.dtimeLoRead ini
    else if f = TG_DTIME_HI_TIME then s.hiRead ini 128
    else if f = PWR_ENERGY_LO_ENERGY then
      (s.rd PWR_ENERGY_LO_ENERGY 0, s.latch ini energyShadow (s.rd PWR_ENERGY_LO_ENERGY 0 + 2 ^ 32 * s.rd PWR_ENERGY_HI_ENERGY 0))
    else if f = PWR_ENERGY_HI_ENERGY then
      match mget s.shadows none ini with
      | some (k, v, t) =>
        if k = energyShadow && s.et ≤ t then (v, { s with shadows := mset s.shadows none ini none }) else (s.rd PWR_ENERGY_HI_ENERGY 0, s)
      | none => (s.rd PWR_ENERGY_HI_ENERGY 0, s)
    else if f = PIN_GPIO_IN_IN then s.pinLevels 0 32
    else if f = PIN_TPIN_IN_IN then s.pinLevels 32 16
    else if f = L_OTRSTAT_LOWL then (s.regWord r ini, s.drawn)
    else if f = PIN_MISC_WAKE then (4 * (s.fresh % 2) + 2 * (s.fresh / 2 % 2) + b2n s.perst, s.drawn)
    else
      let s := if r.blk = .ec then s.ecNow n s.tick else if r.blk = .gt then s.gtNow n else if r.blk = .le then s.leNow n else s
      (s.regWord r ini, s)

end Sys2Proof.Machine
end

