-- ==== Sys2Proof/Machine/Special.lean ====
section
/-!
DEFINITION. The special registers of a core (R319, Tables 13.5 to 13.7), and the debugger's access to the registers of a halted core (R513).
-/
namespace Sys2Proof.Machine
open F

/-- STATUS.INH and the rest of STATUS from a saved STATUS (R339); DET is computed from the warrant registers (R364). -/
def CArch.withStatus (x : CArch) (v : Nat) : CArch :=
  ({ x with inh := bit v 5, pf := bit v 4, ijbar := bit v 2, detf := bit v 1 } : CArch).detNow

/-- A paired counter's low word: the upper half goes into the core's shadow. -/
def State.srLo (s : State) (c n v : Nat) : Nat × State :=
  let k := s.core c
  (v % 2 ^ 32, s.setCore c { k with shad := mset k.shad none n (some (v / 2 ^ 32 % 2 ^ 32)) })

/-- Its high word: the shadow of its low register's last read, or the live upper half. -/
def State.srHi (s : State) (c n v : Nat) : Nat × State :=
  let k := s.core c
  match mget k.shad none n with
  | some h => (h, s.setCore c { k with shad := mset k.shad none n none })
  | none => (v / 2 ^ 32 % 2 ^ 32, s)

/-- COREID. -/
def State.coreId (s : State) (c : Nat) : Nat := if s.lockstep c then 16 + c / 2 * 2 else c

/-- A read of special register n of core c in a CORE cycle; none for a number not in the table. -/
def State.srRead (s : State) (c n cyc : Nat) : Option (Nat × State) :=
  let k := s.core c
  let a := k.arch
  match n with
  | 0x00 => some (a.status, s)
  | 0x01 => some (s.rd CP_EVEC_EVEC c, s)
  | 0x02 => some (k.ecause, s)
  | 0x03 => some (k.epc, s)
  | 0x04 => some (k.estatus, s)
  | 0x05 => some (k.einfo, s)
  | 0x06 => some (a.wstale, s)
  | 0x08 => some (a.lstart, s)
  | 0x09 => some (a.lend, s)
  | 0x0A => some (a.lcount, s)
  | 0x0C => some (match k.task with | some (_, cap, _, _) => cap | none => 0, s)
  | 0x0D => some (a.hold - (if a.holdNew then 0 else cyc - k.free), s)
  | 0x10 => some (a.fcsr, s)
  | 0x11 => some (s.srLo c 0x11 (cyc - k.cyc0))
  | 0x12 => some (s.srHi c 0x11 (cyc - k.cyc0))
  | 0x13 => some (s.srLo c 0x13 k.instret)
  | 0x14 => some (s.srHi c 0x13 k.instret)
  | 0x15 => let r := s.dtRead 0; some (r.2.srLo c 0x15 r.1)
  | 0x16 => let r := s.dtRead 0; some (r.2.srHi c 0x15 r.1)
  | 0x18 => some (s.coreId c, s)
  | 0x19 => some ((List.range 8).foldl (fun m j => m + 16 ^ j * (mget k.ev 0 j % 16)) 0, s)
  | _ => none

/-- A write to which is serialising. -/
def srSerial (n : Nat) : Bool := n ∈ [0x00, 0x08, 0x09, 0x0A, 0x10]

/-- A write of special register n: the KIND of ILLEGAL for a number not in the table, a register that is read only, or EPC without a
frame. -/
def State.srWrite (s : State) (c n v : Nat) : Except Nat State :=
  let k := s.core c
  match n with
  | 0x00 => .ok (s.modArch c fun a => ({ a with pf := a.pf && !bit v 4, ijbar := bit v 2, detf := bit v 1 } : CArch).detNow)
  | 0x03 =>
    match k.arch.frames with
    | [] => .error 5
    | f :: t => .ok (s.setCore c { k with epc := v % 2 ^ 32, arch := { k.arch with frames := { f with pc := v % 2 ^ 32 } :: t } })
  | 0x06 => .ok (s.modArch c fun a => { a with wstale := (List.range 8).foldl (fun m i => if bit v i then setBit m i false else m) a.wstale })
  | 0x08 => .ok (s.modArch c fun a => { a with lstart := v % 2 ^ 32 })
  | 0x09 => .ok (s.modArch c fun a => { a with lend := v % 2 ^ 32 })
  | 0x0A => .ok (s.modArch c fun a => { a with lcount := v % 2 ^ 32 })
  | 0x10 => .ok (s.modArch c fun a =>
      { a with fcsr := (List.range 5).foldl (fun m i => if bit v (4 + i) then setBit m (4 + i) false else m) (a.fcsr / 4 * 4) + v % 4 })
  | _ => .error 4

/-! ## DBG_Cc_RDATA -/

/-- A refused register access of the debugger. -/
def State.cRefuse (s : State) (c : Nat) : State := s.raise DBG_C_STAT_WERR c 1

/-- A read of DBG_Cc_RDATA. -/
def State.rdataRead (s : State) (c : Nat) : Nat × State :=
  let k := s.core c
  let i := s.rd DBG_C_RSEL_SEL c
  if k.st ≠ 4 then (0, s.cRefuse c)
  else if i < 32 then (k.arch.reg i, s)
  else if 0x100 ≤ i && i < 0x200 then (s.srRead c (i - 0x100) k.haltAt).getD (0, s.cRefuse c)
  else if 0x200 ≤ i && i < 0x210 then
    let h := (k.arch.wreg ((i - 0x200) / 2)).handle
    (if i % 2 = 0 then h % 2 ^ 32 else h / 2 ^ 32, s)
  else (0, s.cRefuse c)

/-- A write of DBG_Cc_RDATA: a warrant register takes a valid handle with the write of its high half. -/
def State.rdataWrite (s : State) (c v : Nat) : State :=
  let k := s.core c
  let i := s.rd DBG_C_RSEL_SEL c
  if k.st ≠ 4 then s.cRefuse c
  else if i < 32 then s.modArch c fun a => a.setReg i v
  else if 0x100 ≤ i && i < 0x200 then (match s.srWrite c (i - 0x100) v with | .ok s => s | .error _ => s.cRefuse c)
  else if 0x200 ≤ i && i < 0x210 then
    if i % 2 = 0 then s.setCore c { k with wlo := v % 2 ^ 32 }
    else
      let h := v % 2 ^ 32 * 2 ^ 32 + k.wlo
      if s.handleBad h = 0 then s.modArch c fun a => a.setWreg ((i - 0x200) / 2) (s.wregOf h) else s.cRefuse c
  else s.cRefuse c

/-- An access of the debugger to the selected register of a halted core: a read, or a write of a value. -/
def State.rdata (s : State) (c : Nat) (w : Option Nat) : State :=
  match w with
  | none => let r := s.rdataRead c; r.2.emit (.readData (BitVec.ofNat 32 r.1))
  | some v => s.rdataWrite c v

end Sys2Proof.Machine
end

