-- ==== Sys2Proof/Machine/Bus.lean ====
section
/-!
DEFINITION. Accesses to the core address map once their warrant checks have passed (R11, R12, R27 to R30): register writes, the memories
with their codewords, and the host windows. A bus error is the KIND that ECAUSE would show (Table 14.5).
-/
namespace Sys2Proof.Machine
open F

/-! ## Register writes -/

/-- A write of one field by its access type (R12); WL fields keep their value under the lock (R55). -/
def State.fieldWrite (s : State) (r : Reg) (ini : Nat) (locked : Bool) (f : FieldAt) (w : Nat) : State :=
  let i := fieldInst f.f r.key ini
  let v := w / 2 ^ f.lo % 2 ^ f.f.w
  match f.acc with
  | .rw => s.wr f.f i v
  | .w1c => s.wr f.f i (s.cleared1 f.f i v)
  | .wl => if locked then s else s.wr f.f i v
  | .ro | .w1p | .rl => s

/-- Note a write of WL fields before the lock: the lock may take effect in its FAB cycle (R55). -/
def State.wlNote (s : State) (r : Reg) (ini addr w : Nat) : State :=
  let l := (r.row.fs.filter (·.acc == .wl)).map fun f => (f.f, fieldInst f.f r.key ini, s.rd f.f (fieldInst f.f r.key ini), w / 2 ^ f.lo % 2 ^ f.f.w)
  if l.isEmpty || s.on PRK_STATE_LOCKED 0 then s
  else { s with wlNow := (s.et / 64, ⟨ini, addr, l⟩ :: if s.wlNow.1 = s.et / 64 then s.wlNow.2 else []) }

/-- A write of a register field by field, with the record of a refused WL write and the interrupt sources that follow (R12, R55, R423). Log entry 17 (DEDUCED). -/
def State.plainWrite (s : State) (r : Reg) (ini addr w : Nat) : State :=
  let locked := s.on PRK_STATE_LOCKED 0
  let t := r.row.fs.foldl (fun t f => t.fieldWrite r ini locked f w) (s.wlNote r ini addr w)
  let t := State.edges s t
  if locked && r.row.fs.any (fun f => f.acc == .wl && w / 2 ^ f.lo % 2 ^ f.f.w != s.rd f.f (fieldInst f.f r.key ini)) then t.lockErr ini addr
  else t

/-- A log register whose VALID clears the record with it (R30, R353, R500). -/
def State.logWrite (s : State) (v : Bool) (k : Nat) (valid count : Field) (fs : List Field) : State :=
  if v then State.edges s (s.logClear k valid count fs) else s

/-- Writes of modulator, tile and converter registers with effects of their own; none: field by field. -/
def State.writeMod (s : State) (f : Field) (n w : Nat) : Option State :=
  if f = MOD_CTL_CMEN then some (s.ctlWrite n w)
  else if f = MOD_WIN_HYST then some (s.winWrite n w)
  else if f = MOD_SWAP_CANCEL then
    let s := if bit w 0 then s.swapRequest n false else s
    let s := if bit w 1 then s.swapRequest n true else s
    some (if bit w 2 then s.swapCancel n else s)
  else if f = MC_CTL_XCEN then
    let s := if bit w 0 = s.on MC_CTL_RUN n then s else s.mcRun n (bit w 0)
    let s := if bit w 1 then s.mcOne n else s
    some (if bit w 2 = s.on MC_CTL_XCEN n then s else s.mcXcen n (bit w 2))
  else none

/-- The same for engines and legs. The posts that a leg in SAFE accepts in the FAB cycle of a write of its plan come first (R190). -/
def State.writeLeg (s : State) (ini : Initiator) (r : Reg) (f : Field) (n w : Nat) : Option State :=
  if f = LE_CMD_ENABLE then
    let s := if bit w 0 then s.engDisable n else s
    let s := if bit w 1 then s.engHdisable n else s
    some (if bit w 2 then s.engEnable n else s)
  else if f = LE_SWAP_CANCEL then
    let s := if bit w 0 then s.leSwapRequest n 0 else s
    let s := if bit w 1 then s.leSwapRequest n 1 else s
    some (if bit w 2 then s.leSwapCancel n else s)
  else if f = LE_MBOX_DATA_VALUE then some (s.mboxData n ini w)
  else if f = LE_MBOX_PUSH_PUSH then some (s.mboxPush n ini w)
  else if f = L_CMD_CLRCLAMP then some (if w % 16 = 0 then s else s.legCommand n (w % 16))
  else if f = L_OTR_SETTLE then some (s.otrWrite n w)
  else if f = L_CFG_DTF || f = L_PERIOD_LO_PERIOD || f = L_PERIOD_HI_PERIOD || f = L_PHASE_LO_PHASE || f = L_PHASE_HI_PHASE || f = L_EDGE_TIME then
    some (if (s.leg n).st != .safe then s.raise L_STAT_WERR n 1 else (s.postsBy n ((s.et / 64 + 1) * 64)).setRW r w)
  else none

/-- A write of the trip map: an asserted source trips the legs that join its mask (R267). -/
def State.writeMap (s : State) (r : Reg) (ini addr w : Nat) : Option State :=
  match r.row.fs with
  | h :: _ => if h.f = SPR_MAP_LO_MASK || h.f = SPR_MAP_HI_MASK then some ((s.plainWrite r ini addr w).tripSource r.idx) else none
  | [] => none

/-- The same for Ground, timers and warrants. -/
def State.writeGnd (s : State) (ini : Initiator) (f : Field) (n w : Nat) : Option State :=
  let i := initNum ini
  if f = EC_CTL_LOG then some (s.ecCtl n w)
  else if f = GT_CMD_ARM then some (if bit w 0 then s.gtArm n else s)
  else if f = TG_ARM_ARM then some (s.tgArm n (w % 2 ^ 16))
  else if f = GT_CMP_LO_CMP then some (s.cmpLo i n w)
  else if f = GT_CMP_HI_CMP then some (s.cmpHi i n w)
  else if f = GT_END_LO_END then some (s.endLo i n w)
  else if f = GT_END_HI_END then some (s.endHi i n w)
  else if f = WRT_BIND_LO_HANDLE then some (s.wrtBindLo ini w)
  else if f = WRT_BIND_HI_HANDLE then some (s.wrtBindHi ini w)
  else if f = WRT_REFUSE_INFO_COUNT then some (s.logWrite (bit w 23) 2 WRT_REFUSE_INFO_VALID WRT_REFUSE_INFO_COUNT
    [WRT_REFUSE_INFO_CAUSE, WRT_REFUSE_INFO_KIND, WRT_REFUSE_INFO_RIGHTS, WRT_REFUSE_INFO_INIT, WRT_REFUSE_ADDR_ADDR])
  else none

/-- The same for DMA and capture. -/
def State.writeDma (s : State) (ini : Initiator) (r : Reg) (f : Field) (n w : Nat) : Option State :=
  let i := initNum ini
  let locked (g : State → State) : Option State := some (s.dmaLocked n g)
  let capLock (f : Field) (v : Nat) : Option State := some (s.capLocked f v)
  if f = DMAC_CMD_INC then some (s.dmaCmd n w)
  else if f = DMAC_CTL_FREE then some (s.dmaCtlWrite ini n w)
  else if f = DMAC_SRC_VALUE || f = DMAC_DST_VALUE || f = DMAC_COUNT_VALUE || f = DMAC_PACE_PIDX || f = DMAC_PACEMK_HIGH then locked fun s => s.setRW r w
  else if f = DMAC_WSRC_LO_HANDLE then some (s.dmaHandle i n false false w)
  else if f = DMAC_WSRC_HI_HANDLE then some (s.dmaHandle i n false true w)
  else if f = DMAC_WDST_LO_HANDLE then some (s.dmaHandle i n true false w)
  else if f = DMAC_WDST_HI_HANDLE then some (s.dmaHandle i n true true w)
  else if f = CAP_CTL_FLUSH then some (s.capCtl w)
  else if f = CAP_RINGPAGES_VALUE then capLock f w
  else if f = CAP_WBADDR_LO_VALUE then capLock f (w / 8)
  else if f = CAP_WBADDR_HI_VALUE || f = CAP_WBINT_VALUE then capLock f w
  else if f = CAP_RDIDX_VALUE then some (s.rdidxWrite w)
  else if f = CAP_SNAP_ARM then some (s.snapWrite w)
  else if f = CAP_S_RPWR_VALUE then some (s.rpwrWrite n w)
  else if f = CAP_S_CTL_RPOFF then
    let s := s.wr CAP_S_CTL_RUN n (w % 2)
    let s := if bit w 1 then s.replayRequest n true else s
    some (if bit w 2 then s.replayRequest n false else s).ltrNow
  else none

/-- The same for the rest of the system blocks. -/
def State.writeSys (s : State) (ini : Initiator) (f : Field) (n w : Nat) : Option State :=
  let i := initNum ini
  if f = SYS_ADDRERR_INFO_COUNT then some (s.logWrite (bit w 15) 0 SYS_ADDRERR_INFO_VALID SYS_ADDRERR_INFO_COUNT
    [SYS_ADDRERR_INFO_KIND, SYS_ADDRERR_INFO_INIT, SYS_ADDRERR_ADDR_ADDR])
  else if f = PRK_CMD_SLOT then some (s.prkWrite i w)
  else if f = PRK_LOCKERR_INFO_COUNT then some (s.logWrite (bit w 15) 1 PRK_LOCKERR_INFO_VALID PRK_LOCKERR_INFO_COUNT [PRK_LOCKERR_INFO_INIT, PRK_LOCKERR_ADDR_ADDR])
  else if f = PLW_CTL_BANKCLR then some (if bit w 0 then s.wrs 0 [(PLW_BANKACC_COUNT, 0), (PLW_BANKCONF_COUNT, 0)] else s)
  else if f = FRST_CMD_GO then
    let s := s.wrs 0 [(FRST_CMD_ACTION, bits w 30 28), (FRST_CMD_FUNC, w % 512)]
    some (if bit w 31 then s.frstCmd i (w % 512) (bits w 30 28) else s)
  else if f = FRST_DEVRST_KEY then some (s.devrstWrite i w)
  else if f = FRST_CTL_CLKRET then some (if bit w 0 then s.clkretWrite else s)
  else if f = PWR_QUIET_LO_END then some (s.quietLoWrite i w)
  else if f = PWR_QUIET_HI_END then some (s.quietHiWrite i w)
  else if f = PWR_AUXCTL_YARDOFF then some (s.auxCtl w)
  else if f = PWR_CTL_YARDEN then some (s.pwrCtl w)
  else if f = NVM_CLAIM_CLAIM then
    let s := if bit w 31 then s.nvmClaim i else s
    some (if bit w 30 then s.nvmRelease i else s)
  else if f = NVM_STBUF_DATA then some (s.stWrite n w)
  else if f = NVM_ECCLOG_INFO_COUNT then some (s.logWrite (bit w 23) 3 NVM_ECCLOG_INFO_VALID NVM_ECCLOG_INFO_COUNT
    [NVM_ECCLOG_INFO_SCRUB, NVM_ECCLOG_INFO_CLASS, NVM_ECCLOG_INFO_INST, NVM_ECCLOG_ADDR_ADDR])
  else if f = DBG_TCTL_DEST then some (s.tctl w)
  else if f = DBG_LCTL_DETACH then some (s.lctl w)
  else if f = DBG_C_CTL_HALTRST then some (s.dbgCtl n w)
  else if f = DBG_C_RDATA_VALUE then some (s.rdataWrite n w)
  else if f = PIN_GPIO_OUT_OUT then some (s.gpioOut w)
  else if f = PIN_GPIO_OE_OE then some (s.gpioOe w)
  else if f = SPR_REL_GO then
    let s := s.wr SPR_REL_LEG 0 (w % 64)
    some (match ini with | .core c => if bit w 31 then s.legRelease c (w % 64) else s | _ => s)
  else if f = CP_CMD_CMPTEST then some (if bit w 0 then s.cmpTest (n / 2) else s)
  else if f = PCIE_SWIRQ_GO then
    let s := s.wrs 0 [(PCIE_SWIRQ_VECTOR, bits w 12 8), (PCIE_SWIRQ_FN, w % 64)]
    some (if bit w 31 then s.swIrq (w % 64) (bits w 12 8) else s)
  else if f = B_CTL_DOWN then some (s.bCtl n w)
  else none

/-- NVM_CMD (R490 to R495): its fields, and GO. mem: whether the initiator holds a memory warrant with write right over a span. -/
def State.nvmCmd (s : State) (ini : Initiator) (w : Nat) (mem : Nat → Nat → Bool) : State :=
  let s := s.wrs 0 [(NVM_CMD_OP, bits w 30 28), (NVM_CMD_COUNT, bits w 21 16)]
  if bit w 31 then s.nvmGo (if ini = .dap then 24 else initNum ini) (bits w 30 28) (bits w 21 16) mem (fun _ _ => true) else s

/-- The initiator holds a memory warrant with write right over a span (R490): a core in any warrant register, PF1 or a VF in its bound set, a
DMA engine in the destination handle of its running channel; PF0 and the debug access port need none. -/
def State.holdsWrite (s : State) (ini : Initiator) (a b : Nat) : Bool :=
  match ini with
  | .core c => (List.range 8).any fun i => ((s.core c).arch.wreg i).check 1 2 [(a, b)] == 0
  | .pf0 | .dap => true
  | .pf1 => s.boundCheck 1 1 2 [(a, b)] == 0
  | .vf v => s.boundCheck (v + 1) 1 2 [(a, b)] == 0
  | .dma e => (s.wregFor (s.dmaDstH (8 * e + s.rd DMA_STAT_RUNCH e))).check 1 2 [(a, b)] == 0

/-- Registers that name the initiators they accept (R65, R274, R491): a write from any other ends in a bus error. -/
def State.iniRefused (s : State) (ini : Initiator) (f : Field) : Bool :=
  let isCore := match ini with | .core _ => true | _ => false
  if f = PRK_CMD_SLOT then !(isCore || ini == .pf0)
  else if f = SPR_REL_GO then !isCore
  else if f = NVM_STBUF_DATA then s.stOwner != some (initNum ini)
  else false

/-- A write of a register by an initiator whose warrants allow it: false for a bus error. The debug registers and the mailbox take the
instance; a register that is repeated takes instance times repetitions plus index. -/
def State.regWrite (s : State) (ini : Initiator) (r : Reg) (addr w : Nat) : Bool × State :=
  match r.row.fs with
  | [] => (true, s)
  | h :: _ =>
    let f := h.f
    if s.iniRefused ini f then (false, s)
    else
      let n := if f = NVM_STBUF_DATA then r.idx else r.inst
      if f = NVM_CMD_GO then (true, s.nvmCmd ini w (s.holdsWrite ini))
      else
        let o : Option State := match r.blk with
          | .mod | .mods | .tile | .mc => s.writeMod f n w
          | .le => (s.leNow n).writeLeg ini r f n w
          | .les | .leg => s.writeLeg ini r f n w
          | .ec | .gt | .tg | .wrt => s.writeGnd ini f n w
          | .spr => (s.writeSys ini f n w).orElse fun _ => s.writeMap r (initNum ini) addr w
          | .dma | .dmac | .cap | .caps | .cappt => s.writeDma ini r f n w
          | .sys | .prk | .plw | .frst | .pwr | .nvm | .dbg | .dbgc | .pin | .gnd | .picot | .cp | .pcie | .b => s.writeSys ini f n w
        (true, match o with
          | some t => t
          | none => (if r.blk = .gt then s.gtNow n else if r.blk = .le then s.leNow n else s).plainWrite r (initNum ini) addr w)

/-- A read of register space: an aligned word of a documented register, or a bus error with its record (R11, R30). -/
def State.regSpaceRead (s : State) (ini a n : Nat) : Except Nat Nat × State :=
  if n ≠ 4 || a % 4 ≠ 0 then (.error 2, s.addrErr ini a 2)
  else
    match regAt (s.rd SYS_CFG_SPLIT 0) a with
    | none => (.error 1, s.addrErr ini a 1)
    | some r =>
      let q := if r.blk = .dbgc && r.row.off = 0x0C then s.rdataRead r.inst else s.regRead ini r
      (.ok q.1, q.2)

/-- A write of register space. -/
def State.regSpaceWrite (s : State) (ini : Initiator) (a n v : Nat) : Option Nat × State :=
  if n ≠ 4 || a % 4 ≠ 0 then (some 2, s.addrErr (initNum ini) a 2)
  else
    match regAt (s.rd SYS_CFG_SPLIT 0) a with
    | none => (some 1, s.addrErr (initNum ini) a 1)
    | some r =>
      let q := s.regWrite ini r a (v % 2 ^ 32)
      (if q.1 then none else some 1, q.2)

/-! ## The address map (R27) -/

/-- What an address reaches: a memory by class of Table 22.2, instance and offset; register space; a host window; nothing. -/
inductive Target where
  | mem (cls inst off : Nat)
  | reg
  | host
  | none
  deriving DecidableEq, Repr

/-- The target of an address; tcm is the core whose TCM the low range reaches, if any. Log entry 61 (DEDUCED). -/
def target (tcm : Option Nat) (a : Nat) : Target :=
  if a < 0x40000 then (match tcm with | some c => .mem 0 c a | none => .none)
  else if 0x10000000 ≤ a && a < 0x12000000 then .mem 1 0 (a - 0x10000000)
  else if 0x20000000 ≤ a && a < 0x20300000 then .mem 2 ((a - 0x20000000) / 0x10000) (a % 0x10000)
  else if 0x20300000 ≤ a && a < 0x20380000 then .mem 2 (48 + (a - 0x20300000) / 0x10000) (a % 0x10000)
  else if 0x30000000 ≤ a && a < 0x31D00000 then .mem 4 0 (a - 0x30000000)
  else if 0x40000000 ≤ a && a < 0x40780000 then .reg
  else if 0x80000000 ≤ a && a < 0x100000000 then .host
  else .none

/-- The bytes of a memory; the window of LES t shows the unit of its tile that carries no role (R28). -/
def State.memOf (s : State) (cls inst : Nat) : Mem :=
  if cls = 0 then s.tcmOf inst else if cls = 1 then s.sram
  else if cls = 2 then (if inst < 48 then (s.eng inst).dm else s.spareDm (inst - 48)) else s.nvm

/-- A write through the window of LES t of bytes that a copy in progress has passed stays in that unit (R28, R147). -/
def State.spareOwn (s : State) (cls inst off n : Nat) : State :=
  if cls ≠ 2 || inst < 48 then s
  else
    let t := inst - 48
    let x := s.ltile t
    match x.cur with
    | none => s
    | some w =>
      let l := ((List.range n).map (off + ·)).filter (fun a => decide (a < s.copied t))
      s.setLtile t { x with cur := some { w with own := w.own.filter (fun a => decide (a ∉ l)) ++ l } }

/-- Put the bytes of a memory. -/
def State.setMem (s : State) (cls inst : Nat) (m : Mem) : State :=
  if cls = 0 then s.setTcm inst m else if cls = 1 then { s with sram := m } else if cls = 2 then s.setEng inst { s.eng inst with dm := m } else { s with nvm := m }

/-- The codewords of a span are checked in ascending order; ecc is what the check of the first finds. Log entry 80 (DESIGN CHOICE). -/
def State.spanRead (s : State) (cls inst : Nat) : Nat → Nat → Ecc → Bool × State
  | _, 0, _ => (false, s)
  | cw, n + 1, e =>
    let q := s.eccRead cls inst (16 * cw) e
    if q.1 then q else q.2.spanRead cls inst (cw + 1) n .ok

/-- A read of n bytes of one memory. -/
def State.memRead (s : State) (cls inst off n : Nat) (ecc : Ecc) : Except Nat (List (BitVec 8)) × State :=
  let q := (if cls = 1 then s.bankCount off n else s).spanRead cls inst (off / 16) ((off + n - 1) / 16 - off / 16 + 1) ecc
  if q.1 then (.error 0, q.2) else (.ok ((q.2.memOf cls inst).rdL off n), q.2)

/-- A write of bytes to one memory: the NVM is read only, as is the parameter area of an engine (R27, R118), and a write that merges into a
codeword with an uncorrectable error is a bus error (Table 22.2). -/
def State.memWrite (s : State) (cls inst off : Nat) (l : List (BitVec 8)) : Option Nat × State :=
  let n := l.length
  if n = 0 then (none, s)
  else
    let s := if cls = 1 then s.bankCount off n else s
    if cls = 4 || (cls = 2 && 0xF800 < off + n) || s.eccMergeBad cls inst off n then (some 0, s)
    else
      let s := if cls = 0 then s.codeWritten inst off n else s
      (none, ((s.setMem cls inst ((s.memOf cls inst).wrL off l)).spareOwn cls inst off n).eccClean cls inst off n)

/-- The pieces of a span that lie in one 64 KB stretch, the most an instance of a memory holds or a whole part of it. -/
def pieces (a n : Nat) : List (Nat × Nat) :=
  let m := min n (0x10000 - a % 0x10000)
  if m = n then [(a, n)] else [(a, m), (a + m, n - m)]

/-! ## Host windows (R420) -/

/-- The host address of a window address, while its window is valid and its function may issue. Log entry 57 (DEDUCED). -/
def State.hostAddr (s : State) (a : Nat) : Option (Nat × Nat) :=
  let n := (a - 0x80000000) / 2 ^ 27
  let f := s.rd PCIE_OW_LO_FN n
  if s.on PCIE_OW_LO_V n && s.issues f then some (f, s.rd PCIE_OW_HI_BASE n * 2 ^ 32 + s.rd PCIE_OW_LO_BASE n * 2 ^ 27 + a % 2 ^ 27) else none

/-- A store to a host window becomes a posted write, or is a bus error. -/
def State.hostStore (s : State) (a : Nat) (l : List (BitVec 8)) : Option Nat × State :=
  match s.hostAddr a with
  | some (_, h) => (none, s.outPut h l)
  | none => (some 0, s)

/-- A load from a host window whose completion is given: its data, or none for an error, which raises PCIE_CTO (R421). -/
def State.hostLoad (s : State) (a n : Nat) (data : Option (List (BitVec 8))) : Except Nat (List (BitVec 8)) × State :=
  match s.hostAddr a with
  | none => (.error 0, s)
  | some (f, h) =>
    let s := s.outFlush.emit (.hostRead h n)
    match data with
    | some l => (.ok ((l ++ List.replicate n 0).take n), s)
    | none => (.error 0, s.pcieFault 1 f)

/-! ## Bursts and words of DMA and the debug access port -/

/-- A read of n bytes at an address; data: what a host window answers. -/
def State.busRead (s : State) (ini : Initiator) (tcm : Option Nat) (a n : Nat) (ecc : Ecc) (data : Option (List (BitVec 8))) :
    Except Nat (List (BitVec 8)) × State :=
  match target tcm a with
  | .reg =>
    (List.range ((n + 3) / 4)).foldl (fun (q : Except Nat (List (BitVec 8)) × State) i =>
      match q.1 with
      | .error k => (.error k, q.2)
      | .ok l =>
        let r := q.2.regSpaceRead (initNum ini) (a + 4 * i) (min 4 (n - 4 * i))
        (match r.1 with | .ok v => .ok (l ++ leBytes 4 v) | .error k => .error k, r.2)) (.ok [], s)
  | .host => s.hostLoad a n data
  | _ =>
    (pieces a n).foldl (fun (q : Except Nat (List (BitVec 8)) × State) p =>
      match q.1 with
      | .error k => (.error k, q.2)
      | .ok l =>
        match target tcm p.1 with
        | .mem cls inst off =>
          let r := q.2.memRead cls inst off p.2 ecc
          (match r.1 with | .ok m => .ok (l ++ m) | .error k => .error k, r.2)
        | _ => (.error 1, q.2)) (.ok [], s)

/-- A write of bytes at an address. -/
def State.busWrite (s : State) (ini : Initiator) (tcm : Option Nat) (a : Nat) (l : List (BitVec 8)) : Option Nat × State :=
  let n := l.length
  match target tcm a with
  | .reg =>
    (List.range ((n + 3) / 4)).foldl (fun (q : Option Nat × State) i =>
      match q.1 with
      | some k => (some k, q.2)
      | none => q.2.regSpaceWrite ini (a + 4 * i) (min 4 (n - 4 * i)) (ofLE ((l.drop (4 * i)).take 4))) (none, s)
  | .host => s.hostStore a l
  | _ =>
    (pieces a n).foldl (fun (q : Option Nat × State) p =>
      match q.1 with
      | some k => (some k, q.2)
      | none =>
        match target tcm p.1 with
        | .mem cls inst off => q.2.memWrite cls inst off ((l.drop (p.1 - a)).take p.2)
        | _ => (some 1, q.2)) (none, s)

/-- A write to a register from a command that has no row of its own (R12, R30), its warrants checked before. Log entry 18 (DEDUCED). -/
def State.registerWrite (s : State) (ini : Initiator) (a w : Nat) : State := (s.regSpaceWrite ini a 4 w).2

end Sys2Proof.Machine
end

