-- ==== Sys2Proof/Machine/Access.lean ====
section
/-!
DEFINITION. Accesses with their warrant checks: guarded registers (R353, Table 15.4), host accesses through the BARs (R417 to R419, R423, R424,
R489), DMA bursts (R386 to R393), and the debug access port (R507).
-/
namespace Sys2Proof.Machine
open F

/-! ## Guarded registers -/

/-- What a check asks for: a kind, the rights any of which suffices, and spans of identifiers. -/
abbrev Guard := Nat × Nat × List (Nat × Nat)

/-- One identifier. -/
def oneId (n : Nat) : List (Nat × Nat) := [(n, n)]

/-- What a guarded register asks of a write of w or of a read (Table 15.4); none where a memory warrant decides. -/
def State.guardOf (s : State) (r : Reg) (write : Bool) (w : Nat) (ini : Initiator) : Option Guard :=
  match r.row.fs with
  | [] => none
  | h :: _ =>
    let f := h.f
    if r.blk = .dmac then some (6, 1, oneId r.inst)
    else if r.blk = .caps then some (7, 1, oneId r.inst)
    else if write then
      if f = LE_CMD_ENABLE || f = LE_SWAP_CANCEL || f = LE_MBOX_DATA_VALUE || f = LE_MBOX_PUSH_PUSH then some (3, 1, oneId r.inst)
      else if f = L_CMD_CLRCLAMP then some (4, 1, oneId r.inst)
      else if f = SPR_REL_GO then some (4, 2, oneId (w % 64))
      else if f = EC_CTL_LOG then some (2, 3, oneId r.inst)
      else if f = GT_CMD_ARM || f = GT_CMP_LO_CMP || f = GT_CMP_HI_CMP || f = GT_END_LO_END || f = GT_END_HI_END || f = GT_IEN_OVR_IE then
        some (5, 1, oneId r.inst)
      else if f = TG_ARM_ARM then some (5, 1, ((List.range 16).filter fun i => bit w i).flatMap fun i => oneId (16 * r.inst + i))
      else if f = WRT_BIND_LO_HANDLE || f = WRT_BIND_HI_HANDLE then some (9, 1, oneId (s.rd WRT_BINDSEL_FN (fieldInst WRT_BINDSEL_FN 0 (initNum ini))))
      else if f = NVM_CMD_GO && bit w 31 && bits w 30 28 = 1 then
        let a := s.rd NVM_ARG_ARG 0
        some (8, 1, [(a, a + bits w 21 16 - 1)])
      else none
    else if f = GT_COUNT_LO_COUNT || f = GT_COUNT_HI_COUNT || f = GT_CAP_LO_CAP || f = GT_CAP_HI_CAP || f = GT_CMP_LO_CMP || f = GT_CMP_HI_CMP then
      some (5, 2, oneId r.inst)
    else if f = MC_LAST_VALID then some (10, 1, oneId (16 * r.inst + r.idx))
    else if f = MC_RES_VALID || f = MC_RTIME_LO_TIME || f = MC_RTIME_HI_TIME then some (10, 1, [(16 * r.inst, 16 * r.inst + 15)])
    else none

/-- The guarded register that an access to register space reaches, if it reaches one, with what it asks. -/
def State.guardAt (s : State) (a : Nat) (write : Bool) (w : Nat) (ini : Initiator) : Option Guard :=
  (regAt (s.rd SYS_CFG_SPLIT 0) (a / 4 * 4)).bind fun (r : Reg) => s.guardOf r write w ini

/-- What an access of n bytes asks of a warrant (R352, R353), and whether a guarded register asks it. -/
def State.asks (s : State) (ini : Initiator) (a n : Nat) (write : Bool) (w : Nat) : Guard × Bool :=
  match (if target none a = .reg then s.guardAt a write w ini else none) with
  | some g => (g, true)
  | none => ((1, if write then 2 else 1, [(a, a + n - 1)]), false)

/-! ## Core accesses -/

/-- The check of a core's data access against warrant register wr (R352, R353): the Table 15.3 condition that raises WARRANT, or none, and the
condition under which a guarded register refuses the access with a bus error, with what it asks. -/
def State.coreCheck (s : State) (c wr a n : Nat) (write : Bool) (w : Nat) : Nat × Option (Nat × Guard) :=
  let x := (s.core c).arch.wreg wr
  let q := s.asks (.core c) a n write w
  let k := x.check q.1.1 q.1.2.1 q.1.2.2
  if q.2 && 2 < k then (0, some (k, q.1)) else (k, none)

/-! ## Host accesses -/

/-- What a host address reaches (Table 18.4): a core address, a TCM, the pricking window, an MSI-X table, a PBA, an intent doorbell, or nothing. -/
inductive HostAt where
  | core (a : Nat)
  | tcm (c off : Nat)
  | window (off : Nat)
  | table (off : Nat)
  | pba (off : Nat)
  | bell (off : Nat)
  | none
  deriving DecidableEq, Repr

/-- Vectors of a function (Table 18.5). -/
def vectors (f : Nat) : Nat := if f = 0 then 32 else if f = 1 then 9 else 4

/-- An MSI-X table and PBA at their offsets in a BAR. -/
def msixAt (f t p o : Nat) : HostAt :=
  if t ≤ o && o < t + 16 * vectors f then .table (o - t) else if p ≤ o && o < p + 8 then .pba (o - p) else .none

/-- Table 18.4. The offset of the first byte decides. -/
def hostAt (f bar o : Nat) : HostAt :=
  if f < 2 then
    if bar = 0 then
      if o < 0x800000 then .core (0x40000000 + o)
      else if o < 0xC00000 then .core (0x20000000 + (o - 0x800000))
      else if o < 0x1000000 then .tcm ((o - 0xC00000) / 0x40000) (o % 0x40000)
      else .none
    else if bar = 2 then
      if o < 0x2000000 then .core (0x10000000 + o) else if o < 0x4000000 then .core (0x30000000 + (o - 0x2000000)) else .none
    else if bar = 4 then
      if f = 0 then (if o < 0x800000 then .window o else msixAt 0 0x800000 0x801000 o) else msixAt 1 0 0x1000 o
    else .none
  else if bar = 0 then (if o < 0x800000 then .core (0x40000000 + o) else .none)
  else if bar = 2 then (if o < 16 then .bell o else msixAt f 0x1000 0x2000 o)
  else .none

/-- The initiator of a function, and the initiator number of its records (R31, Table 1.13). -/
def hostIni (f : Nat) : Initiator := if f = 0 then .pf0 else if f = 1 then .pf1 else .vf (f - 1)

/-- The tests of R419 on an inbound access of n bytes, in its order: none when it passes, else the state with its record. all: every byte is enabled.
w: the first word of a write. PF0 acts in the DBG block as the debug access port (R507). -/
def State.inboundRefusal (s : State) (f bar o n : Nat) (all write : Bool) (w : Nat) : Option State :=
  let ini := hostIni f
  let t := hostAt f bar o
  let i := if f = 0 && (match t with | .core a => decide (a / 0x1000 = 0x40006) | _ => false) then 24 else initNum ini
  let addr := match t with | .core a => a | _ => o
  let isReg := match t with | .core a => decide (target none a = .reg) | _ => false
  let q := s.asks ini addr n write w
  let chk := match t with
    | .core _ => if f = 0 then 0 else s.boundCheck f q.1.1 q.1.2.1 q.1.2.2
    | _ => 0
  if (s.fn f).d3 then some (s.addrErr i addr 5)
  else if t = .none then some (s.addrErr i addr 1)
  else if f ≠ 0 && (match t with | .tcm _ _ => true | _ => false) then some (s.addrErr i addr 4)
  else if chk ≠ 0 then some (s.wrtRefuse i addr chk q.1.1 q.1.2.1)
  else if isReg && (n ≠ 4 || addr % 4 ≠ 0 || !all) then some (s.addrErr i addr 2)
  else if isReg && (regAt (s.rd SYS_CFG_SPLIT 0) addr).isNone then some (s.addrErr i addr 1)
  else if write && (match t with | .core a => decide (0x30000000 ≤ a) && decide (a < 0x32000000) | _ => false) then some (s.addrErr i addr 3)
  else none

/-- The words of a completion that carries bytes. -/
def dwords : List (BitVec 8) → List (BitVec 32)
  | a :: b :: c :: d :: t => BitVec.ofNat 32 (ofLE [a, b, c, d]) :: dwords t
  | [] => []
  | l => [BitVec.ofNat 32 (ofLE l)]

/-- Bytes of the MSI-X table of a function from an offset. -/
def PcieFn.tblBytes (x : PcieFn) (o n : Nat) : List (BitVec 8) :=
  (List.range n).map fun i =>
    let a := (o + i) / 4
    BitVec.ofNat 8 (mget x.tbl (if a % 4 = 3 then 1 else 0) a / 2 ^ (8 * ((o + i) % 4)))

/-- Bytes of the pending-bit array of a function from an offset. -/
def PcieFn.pbaBytes (x : PcieFn) (o n : Nat) : List (BitVec 8) :=
  let v := x.pend.foldl (fun m i => setBit m i true) 0
  (List.range n).map fun i => BitVec.ofNat 8 (v / 2 ^ (8 * (o + i)))

/-- A write of one enabled byte of the MSI-X table; the vector control word keeps its Mask bit alone. -/
def PcieFn.tblByte (x : PcieFn) (o : Nat) (v : BitVec 8) : PcieFn :=
  let a := o / 4
  let d := if a % 4 = 3 then 1 else 0
  let sh := 2 ^ (8 * (o % 4))
  let old := mget x.tbl d a
  let new := old - old / sh % 256 * sh + v.toNat * sh
  let new := if a % 4 = 3 then new % 2 else if a % 4 = 0 then new / 4 * 4 else new
  { x with tbl := mset x.tbl d a new }

/-- A refused or failed access completes without effect on its target, and raises PCIE_REFUSED (R419). -/
def State.refused (s : State) (f : Nat) : State := s.pcieFault 2 f

/-- A target that lies in the core cluster: a TCM, or a CP block of register space (R465). -/
def inCluster (a : Nat) : Bool := decide (a < 0x40000) || (decide (0x40400000 ≤ a) && decide (a < 0x40408000))

/-- A host access waits: the device is in Yard (R470), its target lies in the cluster and the cluster is out of Run (R465), or one before it waits
(R417). -/
def State.hostWaits (s : State) (f bar o : Nat) : Bool :=
  !s.heldAcc.isEmpty || s.yard.isSome || (s.asleep 8 && (match hostAt f bar o with | .tcm .. => true | .core a => inCluster a | _ => false))

/-- It is held, and starts the exit of the cluster. -/
def State.holdAcc (s : State) (x : HostAcc) : State := ({ s with heldAcc := s.heldAcc ++ [x] }).wakeUnit 8

/-- An inbound memory read of n bytes (R417 to R419, R424, R489). all: every byte is enabled. ecc: what the check of the first codeword finds. Log entry 20 (DEDUCED). -/
def State.inboundRead (s : State) (f bar o n : Nat) (all : Bool) (ecc : Ecc) : State :=
  let done (s : State) (l : List (BitVec 8)) : State := s.emit (.completion (dwords l) 0)
  if !s.fnExists f || s.inFlr f then s.emit (.completion [] 2)
  else if s.hostWaits f bar o then s.holdAcc (.read f bar o n all ecc)
  else
    match s.inboundRefusal f bar o n all false 0 with
    | some t => done (t.refused f) (List.replicate n 0xFF)
    | none =>
      let bus (s : State) (tcm : Option Nat) (a : Nat) : State :=
        let q := s.busRead (hostIni f) tcm a n ecc none
        match q.1 with
        | .ok l => done q.2 l
        | .error _ => done q.2.drawn (freshBytes q.2.fresh n)
      match hostAt f bar o with
      | .core a => bus s none a
      | .tcm c off => bus s (some (if s.lockstep c then c / 2 * 2 else c)) off
      | .window off =>
        let t := s.rd NVM_PWSLOT_SLOT 0
        done s (s.nvm.rdL (slotBase t + off) n)
      | .table off => done s ((s.fn f).tblBytes off n)
      | .pba off => done s ((s.fn f).pbaBytes off n)
      | .bell _ => done s (List.replicate n 0)
      | .none => s

/-- The runs of enabled bytes of a write, with their offsets. -/
def enabledRuns : Nat → List (Option (BitVec 8)) → List (Nat × List (BitVec 8))
  | _, [] => []
  | o, none :: t => enabledRuns (o + 1) t
  | o, some v :: t =>
    match enabledRuns (o + 1) t with
    | (p, l) :: r => if p = o + 1 then (o, v :: l) :: r else (o, [v]) :: (p, l) :: r
    | [] => [(o, [v])]

/-- An inbound memory write, a byte each with its enable (R417 to R419, R425, R489). A poisoned write is discarded (R429). -/
def State.inboundWrite (s : State) (f bar o : Nat) (data : List (Option (BitVec 8))) (poison : Bool) : State :=
  let n := data.length
  let runs := enabledRuns 0 data
  let w (i : Nat) : Nat := ofLE (((data.drop (4 * i)).take 4).map (·.getD 0))
  if poison then s.aerLog f 12
  else if !s.fnExists f || s.inFlr f then (if s.fnExists f then s else s.aerLog f 20)
  else if s.hostWaits f bar o then s.holdAcc (.write f bar o data poison)
  else
    match s.inboundRefusal f bar o n (data.all (·.isSome)) true (w 0) with
    | some t => t.refused f
    | none =>
      let bus (s : State) (tcm : Option Nat) (a : Nat) : State :=
        runs.foldl (fun (s : State) (p : Nat × List (BitVec 8)) =>
          let q := s.busWrite (hostIni f) tcm (a + p.1) p.2
          if q.1.isSome && decide (target tcm a = .reg) then q.2.refused f else q.2) s
      match hostAt f bar o with
      | .core a => bus s none a
      | .tcm c off => bus s (some (if s.lockstep c then c / 2 * 2 else c)) off
      | .window off => runs.foldl (fun (s : State) (p : Nat × List (BitVec 8)) => s.pwWrite (off + p.1) p.2) s
      | .table off =>
        let x := (data.zipIdx).foldl (fun (x : PcieFn) (p : Option (BitVec 8) × Nat) =>
          match p.1 with | some v => if off + p.2 < 16 * vectors f then x.tblByte (off + p.2) v else x | none => x) (s.fn f)
        (s.setFn f x).msixFlush f
      | .pba _ => s
      | .bell off => s.doorbell (f - 1) (off == 0 && n == 16 && data.all (·.isSome)) (w 0) (w 1) (w 2) (w 3)
      | .none => s

/-- The host accesses that waited are made in their order (R465, R470). -/
def State.hostHeld (s : State) : State :=
  if s.away 8 then s
  else s.heldAcc.foldl (fun s x => match x with
    | .read f bar o n all ecc => s.inboundRead f bar o n all ecc
    | .write f bar o data poison => s.inboundWrite f bar o data poison) { s with heldAcc := [] }

/-! ## DMA bursts -/

/-- The check of one access of a channel against the copy of a handle (R389): 0 where FREE turns checks off. -/
def State.dmaCheck (s : State) (h hd a n : Nat) (write : Bool) (w : Nat) : State × Bool :=
  let ini : Initiator := .dma (h / 8)
  let q := s.asks ini a n write w
  let k := if s.on DMAC_CTL_FREE h then 0 else (s.wregFor hd).check q.1.1 q.1.2.1 q.1.2.2
  if k = 0 then (s, true) else (if q.2 then s.wrtRefuse (initNum ini) a k q.1.1 q.1.2.1 else s, false)

/-- The check of a unit: as a whole, or word by word in register space (R387). -/
def State.dmaUnitCheck (s : State) (h hd a n : Nat) (write : Bool) (l : List (BitVec 8)) : State × Bool :=
  if inRegs a then
    (List.range (n / 4)).foldl (fun (q : State × Bool) i =>
      if q.2 then q.1.dmaCheck h hd (a + 4 * i) 4 write (ofLE ((l.drop (4 * i)).take 4)) else q) (s, true)
  else s.dmaCheck h hd a n write 0

/-- A failed check of a burst (R389). -/
def State.dmaWarrant (s : State) (h : Nat) : State := (s.dmaHalt h 2).dmaFault h 1

/-- A burst ends in a bus error (R392). -/
def State.dmaErr (s : State) (h : Nat) : State :=
  let x := s.dma h
  if x.tries < s.rd DMAC_CTL_RETRY h then s.setDma h { x with tries := x.tries + 1, retryAt := some (s.et + 64 * 64) }
  else (s.dmaHalt h 1).dmaFault h 0

/-- Where a channel writes its unit: at CURDST, or at the write index of the replay buffer it paces on (R391). -/
def State.dmaDest (s : State) (h : Nat) : Nat :=
  if s.rd DMAC_PACE_PSEL h = 2 then
    let i := s.rd DMAC_PACE_PIDX h
    0x10000000 + (s.rd CAP_S_RPBASE_VALUE i + s.rd CAP_S_RPWR_VALUE i % max 1 (s.rd CAP_S_RPSIZE_VALUE i)) % 2 ^ 25
  else s.rd DMAC_CURDST_VALUE h

/-- A unit has been moved: the addresses, REMAIN and the paced level advance, and after the last unit the channel completes (R386, R391,
R393). -/
def State.dmaMoved (s : State) (h : Nat) : State :=
  let u := s.rd DMAC_CTL_USIZE h
  let ps := s.rd DMAC_PACE_PSEL h
  let s := s.setDma h { s.dma h with tries := 0, retryAt := none }
  let s := s.wrs h [(DMAC_REMAIN_VALUE, s.rd DMAC_REMAIN_VALUE h - 1),
    (DMAC_CURSRC_VALUE, (s.rd DMAC_CURSRC_VALUE h + (if s.on DMAC_CTL_SINC h then u else 0)) % 2 ^ 32),
    (DMAC_CURDST_VALUE, (s.rd DMAC_CURDST_VALUE h + (if s.on DMAC_CTL_DINC h then u else 0)) % 2 ^ 32)]
  let s := if ps = 2 then s.addTo CAP_S_RPWR_VALUE (s.rd DMAC_PACE_PIDX h) 64
    else if ps = 3 then s.wr DMAC_SWLVL_LEVEL h (s.rd DMAC_SWLVL_LEVEL h - 1) else s
  if s.rd DMAC_REMAIN_VALUE h = 0 then s.dmaDone h else s

/-- The read and the write of one unit. -/
def State.dmaMove (s : State) (h : Nat) (ecc : Ecc) (data : Option (List (BitVec 8))) : State :=
  let u := s.rd DMAC_CTL_USIZE h
  let src := s.rd DMAC_CURSRC_VALUE h
  let dst := s.dmaDest h
  let c := s.rd DMAC_CTL_TCMCORE h
  let tcm := some (if s.lockstep c then c / 2 * 2 else c)
  if (inCluster src || inCluster dst) && s.away 8 then s.wakeUnit 8
  else if !s.dmaHandlesOk h then s.dmaWarrant h
  else
    let q := s.dmaUnitCheck h (s.dmaSrcH h) src u false []
    if !q.2 then q.1.dmaWarrant h
    else
      let r := q.1.busRead (.dma (h / 8)) tcm src u ecc data
      match r.1 with
      | .error _ => r.2.dmaErr h
      | .ok l =>
        let l := dmaSwap (s.rd DMAC_CTL_SWAP h) l
        let q := r.2.dmaUnitCheck h (s.dmaDstH h) dst u true l
        if !q.2 then q.1.dmaWarrant h
        else
          let v := (if target tcm dst = .host then q.1.reach q.1.outRoom else q.1).busWrite (.dma (h / 8)) tcm dst l
          if v.1.isSome then v.2.dmaErr h else v.2.dmaMoved h

/-- One burst of a running channel that waits for no retry (R387, R391). Log entry 62 (DEDUCED). -/
def State.dmaBurst (s : State) (h : Nat) (ecc : Ecc) (data : Option (List (BitVec 8))) : State :=
  if s.rd DMAC_STAT_STATE h ≠ 3 || (s.dma h).retryAt.isSome then s
  else if s.rd DMAC_PACE_PSEL h ≠ 0 && s.dmaLevel h ≤ s.rd DMAC_PACEMK_LOW h then (s.wr DMAC_STAT_STATE h 1).dmaRunEnd h
  else s.dmaMove h ecc data

/-- 64 FAB cycles after a bus error the unit is moved again (R392). -/
def State.dmaRetry (s : State) (h : Nat) (ecc : Ecc) (data : Option (List (BitVec 8))) : State :=
  s.due (s.dma h).retryAt fun s =>
    let s := s.setDma h { s.dma h with retryAt := none }
    if s.rd DMAC_STAT_STATE h ≠ 3 then s else s.dmaMove h ecc data

/-! ## Debug access port -/

/-- An access of the port ends with RES and DATA (Table 23.2). -/
def State.dapEnd (s : State) (res data : Nat) : State := { s with tap := { s.tap with res := res, data := data, wait := none } }

/-- An access of the port is made: a read (1) or a write (2) of an aligned word; an unaligned one ends in a bus error, recorded in register space
(R11, R30). -/
def State.dapAccess (s : State) (op addr data : Nat) (host : Option (List (BitVec 8))) : State :=
  if addr % 4 ≠ 0 then (if target none addr = .reg then s.addrErr 24 addr 2 else s).dapEnd 2 0
  else if op = 1 then
    let q := s.busRead .dap none addr 4 .ok host
    match q.1 with
    | .ok l => q.2.dapEnd 0 (ofLE l)
    | .error _ => q.2.dapEnd 2 0
  else
    let q := s.busWrite .dap none addr (leBytes 4 data)
    q.2.dapEnd (if q.1.isSome then 2 else 0) 0

/-- DAPACC (R507, Table 23.2): the previous result is captured and shifted out, then the access starts. In Yard it wakes the device and is made
after the exit (R469). -/
def State.dapacc (s : State) (op addr data : Nat) (host : Option (List (BitVec 8))) : State :=
  if s.tapLocked then ((s.tapIr 0xFF).emit (.tapData (3 * 2 ^ 66))).dapEnd 3 0
  else
    let s := (s.tapIr 0x10).emit (.tapData (s.tap.res * 2 ^ 66 + s.tap.data * 2 ^ 34))
    if op = 0 || 3 ≤ op then s
    else if s.yard.isSome then ({ s with tap := { s.tap with res := 1, wait := some (op, addr, data) } }).yardWake 7
    else s.dapAccess op addr data host

/-- The access that waited for the exit from Yard. -/
def State.dapAfterYard (s : State) : State :=
  match s.tap.wait with
  | some (op, addr, data) => if s.yard.isNone then s.dapAccess op addr data none else s
  | none => s

end Sys2Proof.Machine
end

