-- ==== Sys2Proof/Machine/Operands.lean ====
section
/-!
DEFINITION. The operand forms of the core instructions (R302 to R304, Tables 13.1, 13.2): formats, lengths, prefixes accepted, register fields
of W, immediates and reserved fields.
-/
namespace Sys2Proof.Machine

/-- The base formats of Table 13.2. -/
inductive Fmt where
  | z | e | r | s | c | v | g | q | j | i | m | b | l | k | t
  deriving DecidableEq, Repr

/-- The format of an opcode (Table 13.4), if it is listed. -/
def fmtOf (op : Nat) : Option Fmt :=
  if op ∈ [0x00, 0x74, 0x76, 0x77, 0x79, 0x7D] then some .z
  else if op ∈ [0x78, 0x7C, 0x83, 0x86] then some .e
  else if (0x01 ≤ op ∧ op ≤ 0x0E) ∨ (0x10 ≤ op ∧ op ≤ 0x16) ∨ op = 0x46 ∨ op = 0x47 ∨ (0x50 ≤ op ∧ op ≤ 0x5E) ∨ op = 0x69 ∨ op = 0x6C then some .r
  else if op = 0x60 ∨ op = 0x61 then some .s
  else if op = 0x68 ∨ op = 0x75 then some .c
  else if op = 0x6A ∨ op = 0x6B then some .v
  else if op = 0x82 ∨ op = 0x85 then some .g
  else if op = 0x84 then some .q
  else if op = 0x44 ∨ op = 0x45 then some .j
  else if 0x20 ≤ op ∧ op ≤ 0x28 then some .i
  else if (0x30 ≤ op ∧ op ≤ 0x34) ∨ (0x38 ≤ op ∧ op ≤ 0x3A) ∨ op = 0x80 ∨ op = 0x81 then some .m
  else if op = 0x40 then some .b
  else if op = 0x70 then some .l
  else if op = 0x71 then some .k
  else if op = 0x3B then some .t
  else none

/-- Bytes of a base, and under 0xE8. -/
def Fmt.len : Fmt → Nat
  | .z => 1 | .e => 2 | .r | .s | .c | .v | .g | .q => 3 | .j => 4 | .i | .m | .b | .l | .k => 5 | .t => 7

def Fmt.wlen : Fmt → Nat
  | .i | .m | .b | .l => 7 | .k => 9 | .t => 11 | f => f.len

/-- The base of a listed opcode, with the prefixes that Table 13.1 lets it accept. -/
def baseOf (op : Nat) : Base :=
  let f := (fmtOf op).getD .z
  { op := op, len := f.len, wlen := f.wlen,
    aw := decide ((0x30 ≤ op ∧ op ≤ 0x34) ∨ (0x38 ≤ op ∧ op ≤ 0x3B) ∨ op = 0x68 ∨ op = 0x69 ∨ (0x80 ≤ op ∧ op ≤ 0x82)),
    a8 := decide (f ∈ [Fmt.i, .m, .b, .l, .k, .t] ∧ ¬(0x24 ≤ op ∧ op ≤ 0x26)),
    a9 := decide (0x30 ≤ op ∧ op ≤ 0x34) }

/-! ## Fields of W -/

def rdOf (w : Nat) : Nat := bits w 4 0
def rs1Of (w : Nat) : Nat := bits w 9 5
def rs2Of (w : Nat) : Nat := bits w 14 10
def srOf (w : Nat) : Nat := bits w 12 5

/-- The first byte of W, at offset 1 or 2 of the base, that holds a nonzero bit of a mask of fields that must be zero, with its value (R303). -/
def resvW (mask w : Nat) : Option (Nat × Nat) :=
  if w % 2 ^ 16 &&& mask % 256 ≠ 0 then some (1, w % 256)
  else if w % 2 ^ 16 &&& mask ≠ 0 then some (2, w / 256 % 256) else none

/-- The same for one byte of the base at an offset. -/
def resvB (mask o v : Nat) : Option (Nat × Nat) := if v % 256 &&& mask ≠ 0 then some (o, v % 256) else none

/-! ## Immediates (R304) -/

/-- A field that is sign-extended from 16 bits, or used as it stands under 0xE8. -/
def Iss.sx (i : Iss) (v : Nat) : Nat := if i.pre.wide then v % 2 ^ 32 else ofS 32 (toS 16 v)

/-- A field that is zero-extended. -/
def Iss.zx (i : Iss) (v : Nat) : Nat := if i.pre.wide then v % 2 ^ 32 else v % 2 ^ 16

/-- The address of the instruction that follows (R303). -/
def State.nextPc (s : State) (c : Nat) (i : Iss) : Nat := ((s.core c).arch.pc + i.len) % 2 ^ 32

/-- A target at a signed offset from the next instruction. -/
def State.relPc (s : State) (c : Nat) (i : Iss) (off : Nat) : Nat := (s.nextPc c i + off) % 2 ^ 32

/-- The address (rb + OFF) of formats M and T. -/
def State.eaOf (s : State) (c : Nat) (i : Iss) (w off : Nat) : Nat := (s.gr c (rs1Of w) + i.sx off) % 2 ^ 32

/-! ## Decoding from bytes (R301 to R303) -/

/-- The prefix bytes in front of a base, at most four. -/
def prefixes : Nat → List (BitVec 8) → List (Fin 16)
  | 0, _ => []
  | _, [] => []
  | n + 1, b :: t => if b.toNat / 16 = 14 then ⟨b.toNat % 16, Nat.mod_lt _ (by decide)⟩ :: prefixes n t else []

/-- The length of the instruction that begins a list of bytes; one whose opcode is not listed counts its prefixes and its opcode. -/
def instrLen (l : List (BitVec 8)) : Nat :=
  let p := prefixes 4 l
  let op := (l.getD p.length 0).toNat
  let f := (fmtOf op).getD .z
  p.length + (if (8 : Fin 16) ∈ p && (baseOf op).a8 then f.wlen else f.len)

end Sys2Proof.Machine
end

