-- ==== Sys2Proof/Machine/Flags.lean ====
section
/-!
DEFINITION. The flags of the core instructions: the sticky flags of FCSR (R309, Table 13.7) and the conditions of BR (Table 13.3).
-/
namespace Sys2Proof.Machine

/-- FCSR.RM. -/
def State.rm (s : State) (c : Nat) : Nat := (s.core c).arch.fcsr % 4

/-- Set sticky flags of FCSR whose operation has its result ready in a cycle; MFSR of FCSR waits for the latest (R318). -/
def State.fpFlags (s : State) (c fl n : Nat) : State :=
  let k := s.core c
  s.setCore c { k with arch := { k.arch with fcsr := k.arch.fcsr ||| fl }, ready := mset k.ready 0 32 (max n (mget k.ready 0 32)) }

/-- Unsigned and signed views of a register value. -/
def sgn (v : Nat) : Int := toS 32 v

/-- 1 or 0. -/
def flag (v : Bool) : Nat := if v then 1 else 0

/-- Whether a condition of Table 13.3 holds; none for a reserved COND. -/
def brTaken (cond a b : Nat) : Option Bool :=
  match cond with
  | 0 => some (a == b)
  | 1 => some (a != b)
  | 2 => some (decide (sgn a < sgn b))
  | 3 => some (decide (sgn b ≤ sgn a))
  | 4 => some (decide (a < b))
  | 5 => some (decide (b ≤ a))
  | _ => none

/-- Quotient and remainder of R308 for signed operands: division by zero gives −1 and the dividend, and rounding is toward zero. -/
def sdiv (a b : Nat) : Nat := if b % 2 ^ 32 = 0 then 2 ^ 32 - 1 else ofS 32 (Int.tdiv (sgn a) (sgn b))
def srem (a b : Nat) : Nat := if b % 2 ^ 32 = 0 then a else ofS 32 (Int.tmod (sgn a) (sgn b))

/-- The same unsigned. -/
def udiv (a b : Nat) : Nat := if b = 0 then 2 ^ 32 - 1 else a / b
def urem (a b : Nat) : Nat := if b = 0 then a else a % b

end Sys2Proof.Machine
end

