-- ==== Sys2Proof/Machine/Cores.lean ====
section
/-!
DEFINITION. The shapes that core instructions share: results, loads and stores with their region costs (R306, R307, R323, R324), control transfers
with the indirect-target table (R328), waits (R313, R314), and the side-effect log (R377).
-/
namespace Sys2Proof.Machine
open F

/-! ## Results -/

/-- An instruction of one result: rd is written with latency lat, after which the instruction completes in count cycles. -/
def State.result (s : State) (c : Nat) (i : Iss) (count rd v lat : Nat) : State := (s.setGr c rd v (i.n + lat)).retire c i count none none

/-- Format R over two registers. -/
def State.aluR (s : State) (c : Nat) (pre : List (Fin 16)) (op w lat : Nat) (f : Nat → Nat → Nat) : State :=
  s.issue c pre (baseOf op) (resvW 0x8000 w) [rs1Of w, rs2Of w, rdOf w] fun s i => s.result c i 1 (rdOf w) (f (s.gr c (rs1Of w)) (s.gr c (rs2Of w))) lat

/-- Format I; zext for the immediates that R304 zero-extends. -/
def State.aluI (s : State) (c : Nat) (pre : List (Fin 16)) (op w imm : Nat) (zext : Bool) (f : Nat → Nat → Nat) : State :=
  s.issue c pre (baseOf op) (resvW 0xFC00 w) [rs1Of w, rdOf w] fun s i =>
    s.result c i 1 (rdOf w) (f (s.gr c (rs1Of w)) (if zext then i.zx imm else i.sx imm)) 1

/-- A shift by an immediate: bits [15:5] of IMM16 must be zero. -/
def State.shiftI (s : State) (c : Nat) (pre : List (Fin 16)) (op w imm : Nat) (f : Nat → Nat → Nat) : State :=
  let z := match resvW 0xFC00 w with
    | some r => some r
    | none => (resvW 0xFFE0 imm).map fun (r : Nat × Nat) => (r.1 + 2, r.2)
  s.issue c pre (baseOf op) z [rs1Of w, rdOf w] fun s i => s.result c i 1 (rdOf w) (f (s.gr c (rs1Of w)) (imm % 32)) 1

/-- The integer divider and the FP divide and square-root unit hold one operation each (R305): key 33 or 34 of the scoreboard. -/
def State.unitR (s : State) (c : Nat) (pre : List (Fin 16)) (op w lat : Nat) (f : Nat → Nat → Nat) : State :=
  s.issue c pre (baseOf op) (resvW 0x8000 w) [rs1Of w, rs2Of w, rdOf w, 33] fun s i =>
    (s.readyIn c 33 (i.n + lat)).result c i 1 (rdOf w) (f (s.gr c (rs1Of w)) (s.gr c (rs2Of w))) lat

/-- An FP operation: its result and flags from FCSR.RM and the operands rs1, rs2 and rd (R309). -/
def State.fpR (s : State) (c : Nat) (pre : List (Fin 16)) (op w mask lat : Nat) (uses : List Nat) (f : Nat → Nat → Nat → Nat → Nat × Nat) : State :=
  s.issue c pre (baseOf op) (resvW mask w) ([rs1Of w, rs2Of w, rdOf w] ++ uses) fun s i =>
    let v := f (s.rm c) (s.gr c (rs1Of w)) (s.gr c (rs2Of w)) (s.gr c (rdOf w))
    let s := uses.foldl (fun s (u : Nat) => s.readyIn c u (i.n + lat)) s
    (s.fpFlags c v.2 (i.n + lat)).result c i 1 (rdOf w) v.1 lat

/-! ## Data accesses -/

/-- The cost of an access by its region (Table 14.1): exact in deterministic mode, else a fresh value within the range. Log entry 53 (DESIGN CHOICE). -/
def State.regionCost (s : State) (c a : Nat) : Nat :=
  let det := (s.core c).arch.det
  let r (lo hi : Nat) : Nat := if det then hi else lo + s.fresh % (hi - lo + 1)
  match target (some c) a with
  | .mem cls _ _ => if cls = 0 then 0 else if cls = 1 then (if det then 32 else 8 + s.fresh) else if cls = 2 then r 8 20 else r 40 96
  | .reg => r 10 40
  | .host => 2 + (cycAt s.outRoom - cycAt s.et)
  | .none => 0

/-- The index of a side-effect log kind of Table 16.2 for a store, by its target; 0 for a store that is journaled. -/
def storeKind (t : Target) : Nat := match t with | .reg => 4 | .mem cls _ _ => (if cls = 2 then 5 else 0) | .host => 6 | .none => 0

/-- A core's read of n bytes outside the host windows; register space takes an aligned word alone (R11). -/
def State.coreRead (s : State) (c a n : Nat) (ecc : Ecc) : Except Nat Nat × State :=
  if target (some c) a = .reg then
    let q := s.regSpaceRead c a n
    match q.1 with | .ok v => (.ok v, q.2.slogAdd c 3 0 a v) | .error k => (.error k, q.2)
  else
    let q := s.busRead (.core c) (some c) a n ecc none
    (match q.1 with | .ok l => .ok (ofLE l) | .error k => .error k, q.2)

/-- A read for an instruction: alignment and warrant checks, then the access (R307, R324, R352, R353). wait: how the core waits for a host-window
read. k: what follows, from the added cost and the value or the bus error. -/
def State.dataRead (s : State) (c : Nat) (i : Iss) (a n align : Nat) (ecc : Ecc) (wait : HostLoad) (k : State → Nat → Except Nat Nat → State) : State :=
  if a % align ≠ 0 then s.fault c i { code := 2, info := a, wr := i.wr }
  else
    let q := s.coreCheck c i.wr a n false 0
    if q.1 ≠ 0 then s.fault c i { code := 4, kind := q.1, info := a, wr := i.wr }
    else
      match q.2 with
      | some (cause, g) => k (s.wrtRefuse c a cause g.1 g.2.1) 0 (.error 1)
      | none =>
        if target (some c) a = .host then
          if (s.core c).arch.det then k s 0 (.error 3)
          else
            match s.hostAddr a with
            | none => k s 0 (.error 0)
            | some (_, h) => (s.outFlush.emit (.hostRead h n)).setCore c { s.core c with wait := .host wait }
        else
          let cost := s.regionCost c a
          let r := s.drawn.coreRead c a n ecc
          k r.2 cost r.1

/-- A load (R306, R307). -/
def State.load (s : State) (c : Nat) (pre : List (Fin 16)) (op w off n : Nat) (ecc : Ecc) : State :=
  s.issue c pre (baseOf op) (resvW 0xFC00 w) [rs1Of w, rdOf w] fun s i =>
    let a := s.eaOf c i w off
    s.dataRead c i a n n ecc ⟨op, rdOf w, a, i.pre.probe, i.wr, i.len, i.n⟩ fun s cost r => s.loadEnd c i op (rdOf w) a (2 + cost) r

/-- A store that has met no error has retired its core unless it reset or stopped it. -/
def State.retireIf (s : State) (c : Nat) (i : Iss) (count : Nat) : State := if (s.core c).st = 1 then s.retire c i count none none else s

/-- A store of n bytes of v, counted as count (R307, R324, R376, R377). -/
def State.storeAt (s : State) (c : Nat) (i : Iss) (a n count v : Nat) : State :=
  let bad (s : State) (x : Exc) : State := s.fault c i { x with info := a, store := true, wr := i.wr }
  if a % n ≠ 0 then bad s { code := 2 }
  else
    let q := s.coreCheck c i.wr a n true v
    if q.1 ≠ 0 then bad s { code := 4, kind := q.1 }
    else
      match q.2 with
      | some (cause, g) => bad (s.wrtRefuse c a cause g.1 g.2.1) { code := 3, kind := 1 }
      | none =>
        let t := target (some c) a
        if t = .host && (s.core c).arch.det then bad s { code := 3, kind := 3 }
        else
          let cost := s.regionCost c a
          let s := s.drawn
          let put (s : State) : Option Nat × State :=
            if t = .reg then s.regSpaceWrite (.core c) a n v else s.busWrite (.core c) (some c) a (leBytes n v)
          let r := put s
          match r.1 with
          | some k => bad r.2 { code := 3, kind := k }
          | none =>
            let s := match t with
              | .mem cls _ off => if cls ≤ 1 then (put (s.journal c (cls == 1) off n)).2 else r.2
              | _ => r.2
            let s := if storeKind t ≠ 0 then s.slogAdd c (storeKind t) (if t = .reg then 0 else n) a (v % 2 ^ 32) else s
            s.retireIf c i (count + cost)

/-- SB, SH, SW. -/
def State.store (s : State) (c : Nat) (pre : List (Fin 16)) (op w off n : Nat) : State :=
  s.issue c pre (baseOf op) (resvW 0xFC00 w) [rs1Of w, rdOf w] fun s i => s.storeAt c i (s.eaOf c i w off) n 2 (s.gr c (rdOf w) % 2 ^ (8 * n))

/-! ## Control transfers -/

/-- The index into the indirect-target table of a jump at an address (R328): the history newest first. -/
def ijIndex (pc : Nat) (hist : List Nat) : Nat :=
  bits pc 7 2 ^^^ bits (hist.getD 0 0) 7 2 ^^^ bits (hist.getD 1 0) 9 4 ^^^ bits (hist.getD 2 0) 11 6 ^^^ bits (hist.getD 3 0) 13 8

/-- The count of an indirect jump, with the table and its history updated in background mode (R328 to R330). The wrong-path fetches that a wrong
target squashes are a fresh number. -/
def State.indirect (s : State) (c t : Nat) : Nat × State :=
  let k := s.core c
  if k.arch.ijbar || k.arch.det then (4, s)
  else
    let pc := k.arch.pc
    let x := ijIndex pc k.hist
    let tag := bits pc 17 8
    let n := match mget k.itt none x with
      | some (g, v) => if g = tag then (if v = t then 2 else 5) else 4
      | none => 4
    let s := s.setCore c { k with itt := mset k.itt none x (some (tag, t)), hist := (t :: k.hist).take 4 }
    if n = 2 then (2, s.addTo CP_IJHIT_COUNT c 1) else if n = 5 then (5, (s.addTo CP_SQUASH_COUNT c s.fresh).drawn) else (4, s)

/-- JR and JALR: link holds the destination of the link address, if there is one. -/
def State.jumpR (s : State) (c : Nat) (pre : List (Fin 16)) (op w mask : Nat) (link : Bool) : State :=
  s.issue c pre (baseOf op) (resvW mask w) (if link then [rs1Of w, rdOf w] else [rs1Of w]) fun s i =>
    let t := s.gr c (rs1Of w)
    let q := s.indirect c t
    let s := if link then q.2.setGr c (rdOf w) (q.2.nextPc c i) (i.n + 1) else q.2
    s.retire c i q.1 (some t) none

/-- J and JAL. -/
def State.jump (s : State) (c : Nat) (pre : List (Fin 16)) (op off : Nat) (link : Bool) : State :=
  s.issue c pre (baseOf op) none (if link then [31] else []) fun s i =>
    let t := s.relPc c i (ofS 32 (toS 24 off))
    let s := if link then s.setGr c 31 (s.nextPc c i) (i.n + 1) else s
    s.retire c i 2 (some t) none

/-- LOOP and LOOPI (R311): with a count of 0 execution goes on after the instruction at LEND. The loop buffer begins to
record the body (R325). -/
def State.loopTo (s : State) (c : Nat) (i : Iss) (count end_ : Nat) : State :=
  let start := s.nextPc c i
  let le := (start + end_) % 2 ^ 32
  let s := s.modArch c fun a => { a with lstart := start, lend := le, lcount := count }
  let k := (s.core c).noLoop
  if count = 0 then (s.setCore c k).retire c i 3 (some (le + instrLen (k.code (s.tcmOf c) le 15))) none 0
  else (s.setCore c { k with lphase := 1 }).retire c i 3 none none

/-! ## Events and waits -/

/-- The lowest input of a mask with a pending count (R313). -/
def State.evPick (s : State) (c mask : Nat) : Option Nat := (List.range 8).find? fun j => bit mask j && mget (s.core c).ev 0 j != 0

/-- Consume one event of an input. -/
def State.evTake (s : State) (c j : Nat) : State :=
  let k := s.core c
  (s.setCore c { k with ev := mset k.ev 0 j (mget k.ev 0 j - 1) }).slogAdd c 2 j 0 0

/-- WFE and EVTST (R313); wait: WFE waits where EVTST answers 0xFFFF_FFFF. -/
def State.eventInstr (s : State) (c : Nat) (pre : List (Fin 16)) (op rdb mask : Nat) (wait : Bool) : State :=
  s.issue c pre (baseOf op) (resvB 0xE0 1 rdb) [rdb % 32] fun s i =>
    if mask % 256 = 0 then s.fault c i (illegal 0 0 (i.len - 1))
    else
      match s.evPick c mask with
      | some j => (s.evTake c j).result c i 3 (rdb % 32) j 3
      | none =>
        if wait then s.setCore c { s.core c with wait := .wfe (mask % 256) (rdb % 32) i.len i.n }
        else s.result c i 3 (rdb % 32) (2 ^ 32 - 1) 3

/-- A waiting WFE consumes the first event that appears on an input of its mask. -/
def State.wfeConsume (s : State) (c : Nat) : State :=
  let k := s.core c
  match k.wait with
  | .wfe mask rd len n =>
    match s.evPick c mask with
    | some j =>
      let m := max n (cycAt s.et)
      (s.evTake c j).result c ⟨len, {}, n, k.free⟩ (m - n + 3) rd j (m - n + 3)
    | none => s
  | _ => s

/-- The synchronised copy of device time reaches a waiting WAITT's deadline (R314): at most 5.0 ns after device time does. -/
def State.waittDeadline (s : State) (c : Nat) : State :=
  let k := s.core c
  match k.wait with
  | .waitt d len n =>
    let t := s.etOf d + s.fresh % 257
    let s := s.drawn.reach t
    let e := max (n + 2) (cycAt s.et)
    ({ s with dtSeen := mset s.dtSeen 0 0 (max (mget s.dtSeen 0 0) d) }).retire c ⟨len, {}, n, k.free⟩ (e - n) none none
  | _ => s

/-! ## Errors in what a core keeps -/

/-- A codeword of the core's frames, journal or log holds an uncorrectable error: the core, or the pair, stops (R500, Table 22.2). Log entry 55 (DEDUCED). -/
def State.keptBad (s : State) (c : Nat) : Bool := s.badCw.any fun x => x.1 == 5 && x.2.1 == c
def State.keptStop (s : State) (c : Nat) : State := (s.setCore c { s.core c with st := 3, full := true, wait := .none, pload := none }).coreFault c 6

end Sys2Proof.Machine
end

