-- ==== Sys2Proof/Machine/CoreWarrants.lean ====
section
/-!
DEFINITION. The warrant instructions (R317, R360 to R367), RFE (R339, R364) and HOLD, LOOP and machine control (R311, R315, R316).
-/
namespace Sys2Proof.Machine
open F

/-! ## Warrant instructions -/

/-- WARRANT with a KIND that names a warrant register. -/
def State.wFault (s : State) (c : Nat) (i : Iss) (kind wr info : Nat) : State := s.fault c i { code := 4, kind := kind, info := info, wr := wr }

/-- WLD ends: a valid handle enters wd with its entry's copy; an invalid one raises WARRANT naming wd (R367). -/
def State.wldEnd (s : State) (c : Nat) (i : Iss) (wd a count : Nat) (r : Except Nat Nat) : State :=
  match r with
  | .error k => s.fault c i { code := 3, kind := k, info := a, wr := i.wr }
  | .ok h =>
    let bad := s.handleBad h
    if bad ≠ 0 then s.wFault c i bad wd a
    else (s.modArch c fun x => x.setWreg wd (s.wregOf h)).retire c i count none none

/-- WLD (R317, R367). -/
def State.iWld (s : State) (c : Nat) (pre : List (Fin 16)) (w off : Nat) (ecc : Ecc) : State :=
  s.issue c pre (baseOf 0x80) (resvW 0xFC18 w) [rs1Of w] fun s i =>
    let a := s.eaOf c i w off
    s.dataRead c i a 8 8 ecc ⟨0x80, w % 8, a, false, i.wr, i.len, i.n⟩ fun s cost r => s.wldEnd c i (w % 8) a (4 + cost) r

/-- WST (R317, R367): stale or not, the handle is stored. -/
def State.iWst (s : State) (c : Nat) (pre : List (Fin 16)) (w off : Nat) : State :=
  s.issue c pre (baseOf 0x81) (resvW 0xFC18 w) [rs1Of w] fun s i =>
    s.storeAt c i (s.eaOf c i w off) 8 3 ((s.core c).arch.wreg (w % 8)).handle

/-- The cycles an operation of the warrant table waits for the table, and the table busy until its end (R361). -/
def State.tableWait (s : State) (n count : Nat) : Nat × State :=
  let w := s.wrtFree - n
  (w, { s with wrtFree := n + w + count })

/-- A descriptor (Table 15.6) is a subset of a warrant with D: its kind, rights, base and limit (R360). -/
def wderOk (p : WReg) (d : Nat) : Bool :=
  let kind := bits d 7 0
  let rights := bits d 15 8
  let base := bits d 63 32
  let limit := bits d 95 64
  bit p.rights 7 && kind == p.kind && rights &&& p.rights == rights && decide (base ≤ limit) && decide (p.base ≤ base) && decide (limit ≤ p.limit)
    && bits d 31 16 == 0

/-- WDER has its descriptor: the checks of R360 in order, then the derivation. -/
def State.wderEnd (s : State) (c : Nat) (i : Iss) (wd ws a count : Nat) (r : Except Nat Nat) : State :=
  match r with
  | .error k => s.fault c i { code := 3, kind := k, info := a, wr := i.wr }
  | .ok d =>
    let p := (s.core c).arch.wreg ws
    if p.handle = 0 then s.wFault c i 1 ws a
    else if p.stale then s.wFault c i 2 ws a
    else if !wderOk p d then s.wFault c i 8 ws a
    else
      match s.wfree with
      | none => s.wFault c i 9 ws a
      | some e =>
        let x : WEntry := { (s.went e) with alloc := true, kind := bits d 7 0, rights := bits d 15 8, base := bits d 63 32, limit := bits d 95 64,
                                            parent := p.handle % 2 ^ 12, root := false, entryw := false }
        let q := s.tableWait i.n count
        let s := q.2.setWent e x
        let h := s.handleOf e
        let s := (s.modArch c fun y => y.setWreg wd (s.wregOf h)).slogAdd c 7 e 0 (h % 2 ^ 32)
        s.retire c i (count + q.1) none none

/-- WDER (R360, R361): in deterministic mode WARRANT with KIND 10 after 1 cycle. Log entry 56 (DEDUCED). -/
def State.iWder (s : State) (c : Nat) (pre : List (Fin 16)) (w : Nat) (ecc : Ecc) : State :=
  s.issue c pre (baseOf 0x82) (resvW 0xF800 w) [bits w 10 6] fun s i =>
    let ws := bits w 5 3
    if (s.core c).arch.det then s.wFault c { i with n := i.n + 1 } 10 ws 0
    else
      let a := s.gr c (bits w 10 6)
      s.dataRead c i a 12 4 ecc ⟨0x82, w % 8 + 8 * ws, a, false, i.wr, i.len, i.n⟩ fun s cost r => s.wderEnd c i (w % 8) ws a (10 + cost) r

/-- WREV (R362, R363, R365). -/
def State.iWrev (s : State) (c : Nat) (pre : List (Fin 16)) (b : Nat) : State :=
  s.issue c pre (baseOf 0x83) (resvB 0xF8 1 b) [] fun s i =>
    let ws := b % 8
    let p := (s.core c).arch.wreg ws
    if (s.core c).arch.det then s.wFault c { i with n := i.n + 1 } 10 ws 0
    else if p.handle = 0 then s.wFault c i 1 ws 0
    else if p.stale then s.wFault c i 2 ws 0
    else if !bit p.rights 7 then s.wFault c i 12 ws 0
    else
      let e := p.handle % 2 ^ 12
      let sub := s.subtree e
      match sub.find? fun j => (s.went j).entryw with
      | some j => s.wFault c i 11 ws j
      | none =>
        let q := s.tableWait i.n (14 + 2 * sub.length)
        ((q.2.revoke sub).slogAdd c 8 e 0 sub.length).retire c i (14 + 2 * sub.length + q.1) none none

/-- The field SEL of a warrant register (Table 15.7). -/
def WReg.sel (x : WReg) (sel : Nat) : Nat :=
  if x.handle = 0 then 0
  else
    match sel with
    | 0 => (if x.stale then 2 ^ 30 else 2 ^ 31) + x.rights % 256 * 256 + x.kind % 256
    | 1 => x.base
    | 2 => x.limit
    | 3 => x.handle % 2 ^ 12
    | 4 => x.handle / 2 ^ 12 % 2 ^ 20
    | 5 => x.handle % 2 ^ 32
    | 6 => x.handle / 2 ^ 32
    | _ => x.parent

/-- WQ (R367). -/
def State.iWq (s : State) (c : Nat) (pre : List (Fin 16)) (w : Nat) : State :=
  s.issue c pre (baseOf 0x84) (resvW 0xF800 w) [rdOf w] fun s i =>
    s.result c i 2 (rdOf w) (((s.core c).arch.wreg (bits w 7 5)).sel (bits w 10 8)) 1

/-- WMOV (R367): handle, copy and stale mark. -/
def State.iWmov (s : State) (c : Nat) (pre : List (Fin 16)) (w : Nat) : State :=
  s.issue c pre (baseOf 0x85) (resvW 0xFFC0 w) [] fun s i =>
    (s.modArch c fun a => a.setWreg (w % 8) (a.wreg (bits w 5 3))).retire c i 2 none none

/-- WCLR (R367). -/
def State.iWclr (s : State) (c : Nat) (pre : List (Fin 16)) (b : Nat) : State :=
  s.issue c pre (baseOf 0x86) (resvB 0xF8 1 b) [] fun s i => (s.modArch c fun a => a.setWreg (b % 8) {}).retire c i 2 none none

/-! ## RFE -/

/-- The registers that RFE puts back from the newest frame (R339, R364): the pc is the frame's already. -/
def State.rfeArch (s : State) (a : CArch) (f : Frame) (rest : List Frame) : CArch :=
  let a : CArch := s.revalidate { a with frames := rest, wr := f.wr, lstart := f.lstart, lend := f.lend, lcount := f.lcount }
  let a := a.withStatus f.status
  match f.pend with | some p => a.setReg p.d p.old | none => a

/-- RFE (R316, R339). -/
def State.iRfe (s : State) (c : Nat) (pre : List (Fin 16)) : State :=
  s.issue c pre (baseOf 0x76) none [] fun s i =>
    match (s.core c).arch.frames with
    | [] => s.fault c i (illegal 5 0x76 0)
    | f :: rest =>
      if s.keptBad c then s.keptStop c
      else
        let s := s.retire c i 10 (some f.pc) none 4
        let k := s.core c
        let k : Core := { k.noFetch with arch := s.rfeArch k.arch f rest, pload := f.pend, fresh := true }
        s.setCore c (match rest with
          | g :: _ => { k with ecause := g.ecause, einfo := g.einfo, epc := g.pc, estatus := g.status }
          | [] => k)

/-! ## Machine control -/

/-- HOLD n (R315, R340). -/
def State.iHold (s : State) (c : Nat) (pre : List (Fin 16)) (n : Nat) : State :=
  s.issue c pre (baseOf 0x75) none [] fun s i =>
    let x := (s.core c).arch
    let opened := decide ((if x.holdNew then 0 else i.n - i.prev) < x.hold)
    let cap := match (s.core c).task with | some (_, m, _, _) => m | none => 0
    let n := n % 2 ^ 16
    let s := s.retire c i 1 none none
    if n = 0 then s.modArch c fun a => { a with hold := 0, holdNew := false }
    else if opened then s.coreFault c 0
    else s.modArch c fun a => { a with hold := min n cap, holdNew := true }

/-- CKPT (R316, R375): the record holds the pc of the next instruction. -/
def State.iCkpt (s : State) (c : Nat) (pre : List (Fin 16)) : State :=
  s.issue c pre (baseOf 0x74) none [] fun s i =>
    let s := s.retire c i 4 none none
    if s.lockstep c then s.checkpoint c else s

/-- SYNC (R316): the loop buffer and the bytes fetched ahead are discarded. Accesses are performed as they issue. -/
def State.iSync (s : State) (c : Nat) (pre : List (Fin 16)) : State :=
  s.issue c pre (baseOf 0x77) none [] fun s i => let s := s.retire c i 3 none none; s.setCore c (s.core c).noFetch

/-- IJT.BAR (R316). -/
def State.iIjtBar (s : State) (c : Nat) (pre : List (Fin 16)) (b : Nat) : State :=
  s.issue c pre (baseOf 0x78) (resvB 0xFE 1 b) [] fun s i => (s.modArch c fun a => { a with ijbar := bit b 0 }).retire c i 2 none none

/-- IJT.FLUSH (R316, R329). -/
def State.iIjtFlush (s : State) (c : Nat) (pre : List (Fin 16)) : State :=
  s.issue c pre (baseOf 0x79) none [] fun s i => (s.setCore c { s.core c with itt := [], hist := [0, 0, 0, 0] }).retire c i 2 none none

/-- TRAP (R316): the saved PC is the instruction after it. -/
def State.iTrap (s : State) (c : Nat) (pre : List (Fin 16)) (imm : Nat) : State :=
  s.issue c pre (baseOf 0x7C) none [] fun s i => s.raiseAt c i.n { code := 5, info := imm % 256 } (s.nextPc c i)

/-- BRK (R316): a halt with CAUSE 2 under BRKCLAIM (R512). -/
def State.iBrk (s : State) (c : Nat) (pre : List (Fin 16)) : State :=
  s.issue c pre (baseOf 0x7D) none [] fun s i =>
    if s.on DBG_C_CTL_BRKCLAIM c then s.coreHalt c 2 else s.fault c i { code := 6 }

/-- LOOP (R311). -/
def State.iLoop (s : State) (c : Nat) (pre : List (Fin 16)) (w end_ : Nat) : State :=
  s.issue c pre (baseOf 0x70) (resvW 0xFFE0 w) [rdOf w] fun s i => s.loopTo c i (s.gr c (rdOf w)) (i.zx end_)

/-- LOOPI (R311). -/
def State.iLoopi (s : State) (c : Nat) (pre : List (Fin 16)) (cnt end_ : Nat) : State :=
  s.issue c pre (baseOf 0x71) none [] fun s i => s.loopTo c i (i.zx cnt) (i.zx end_)

/-- A special register number that ILLEGAL names: the first byte of W carries it. -/
def srIllegal (kind w : Nat) (i : Iss) : Exc := illegal kind w (i.len - 2)

/-- MFSR (R318, R319): FCSR waits for the FP operations issued before it. -/
def State.iMfsr (s : State) (c : Nat) (pre : List (Fin 16)) (w : Nat) : State :=
  s.issue c pre (baseOf 0x60) (resvW 0xE000 w) (if srOf w = 0x10 then [rdOf w, 32] else [rdOf w]) fun s i =>
    match s.srRead c (srOf w) i.n with
    | none => s.fault c i (srIllegal 4 w i)
    | some q => q.2.result c i 1 (rdOf w) q.1 1

/-- MTSR (R319, R344). -/
def State.iMtsr (s : State) (c : Nat) (pre : List (Fin 16)) (w : Nat) : State :=
  s.issue c pre (baseOf 0x61) (resvW 0xE000 w) (if srOf w = 0x10 then [rdOf w, 32] else [rdOf w]) fun s i =>
    match s.srWrite c (srOf w) (s.gr c (rdOf w)) with
    | .error k => s.fault c i (srIllegal k w i)
    | .ok t =>
      let t := if srOf w ∈ [0x08, 0x09, 0x0A] then t.setCore c (t.core c).noLoop else t
      t.retire c i (if srSerial (srOf w) then 4 else 1) none none

/-- A publish of SEV or SEVR under the check of R354; in lockstep its outputs leave 2 cycles later. -/
def State.sevAt (s : State) (c : Nat) (i : Iss) (ec : Nat) : State :=
  let k := ((s.core c).arch.wreg i.wr).check 2 1 [(ec, ec)]
  if k ≠ 0 then s.wFault c i k i.wr ec
  else ((s.sev c ec (cycTime (i.n + 1 + (if s.lockstep c then 2 else 0)))).slogAdd c 1 ec 0 0).retire c i 1 none none

/-- SEV (R312). -/
def State.iSev (s : State) (c : Nat) (pre : List (Fin 16)) (w : Nat) : State :=
  s.issue c pre (baseOf 0x68) (resvW 0xFC00 w) [] fun s i => s.sevAt c i (w % 1024)

/-- SEVR (R312): bits [31:10] of rs1 are ignored. -/
def State.iSevr (s : State) (c : Nat) (pre : List (Fin 16)) (w : Nat) : State :=
  s.issue c pre (baseOf 0x69) (resvW 0xFC1F w) [rs1Of w] fun s i => s.sevAt c i (s.gr c (rs1Of w) % 1024)

/-- WAITT (R314). -/
def State.iWaitt (s : State) (c : Nat) (pre : List (Fin 16)) (w : Nat) : State :=
  s.issue c pre (baseOf 0x6C) (resvW 0x801F w) [rs1Of w, rs2Of w] fun s i =>
    let d := s.gr c (rs1Of w) + 2 ^ 32 * s.gr c (rs2Of w)
    let q := s.dtRead 0
    if d ≤ q.1 then q.2.retire c i 2 none none
    else q.2.setCore c { q.2.core c with wait := .waitt d i.len i.n }

/-- BR (R310). Log entry 82 (DEDUCED). -/
def State.iBr (s : State) (c : Nat) (pre : List (Fin 16)) (w off : Nat) : State :=
  s.issue c pre (baseOf 0x40) (resvW 0xC000 w) [rdOf w, rs1Of w] fun s i =>
    match brTaken (bits w 13 10) (s.gr c (rdOf w)) (s.gr c (rs1Of w)) with
    | none => s.fault c i (illegal 3 (w / 256) (i.len - (if i.pre.wide then 5 else 3)))
    | some true => s.retire c i 3 (some (s.relPc c i (i.sx off))) none
    | some false => s.retire c i 3 (some (s.nextPc c i)) none 0

/-- STI (R304, R307). -/
def State.iSti (s : State) (c : Nat) (pre : List (Fin 16)) (w off data : Nat) : State :=
  s.issue c pre (baseOf 0x3B) (resvW 0xFC1F w) [rs1Of w] fun s i => s.storeAt c i (s.eaOf c i w off) 4 2 (i.sx data)

/-! ## Completion of a host-window read -/

/-- The completion of a core's host-window read (R421): a load, a WLD or the descriptor read of a WDER. -/
def State.coreHostDone (s : State) (c : Nat) (r : Except Nat Nat) : State :=
  let k := s.core c
  match k.wait with
  | .host l =>
    let i : Iss := ⟨l.len, ⟨some l.wr, false, l.probe⟩, l.n, k.free⟩
    let e := max (l.n + 2) (cycAt s.et)
    let t := s.setCore c { k with wait := .none }
    if l.op = 0x80 then t.wldEnd c i l.d l.addr (e - l.n + 2) r
    else if l.op = 0x82 then t.wderEnd c i (l.d % 8) (l.d / 8) l.addr (e - l.n + 8) r
    else s.hostDone c r
  | _ => s

end Sys2Proof.Machine
end

