-- ==== Sys2Proof/Machine/CoreInstr.lean ====
section
/-!
DEFINITION. The core instructions one by one over the shapes of Machine/Cores.lean (R308 to R311, R318, Table 13.4), and the decoder that runs
the instruction at a core's pc for a debugger's STEP (R511).
-/
namespace Sys2Proof.Machine
open F

/-- NOP. -/
def State.iNop (s : State) (c : Nat) (pre : List (Fin 16)) : State := s.issue c pre (baseOf 0x00) none [] fun s i => s.retire c i 1 none none

/-- ADD: rd = rs1 + rs2. -/
def State.iAdd (s : State) (c : Nat) (pre : List (Fin 16)) (w : Nat) : State := s.aluR c pre 0x01 w 1 (fun a b => a + b)

/-- SUB: rd = rs1 − rs2. -/
def State.iSub (s : State) (c : Nat) (pre : List (Fin 16)) (w : Nat) : State := s.aluR c pre 0x02 w 1 (fun a b => a + 2 ^ 32 - b)

/-- AND: rd = rs1 AND rs2. -/
def State.iAnd (s : State) (c : Nat) (pre : List (Fin 16)) (w : Nat) : State := s.aluR c pre 0x03 w 1 (fun a b => a &&& b)

/-- OR: rd = rs1 OR rs2. -/
def State.iOr (s : State) (c : Nat) (pre : List (Fin 16)) (w : Nat) : State := s.aluR c pre 0x04 w 1 (fun a b => a ||| b)

/-- XOR: rd = rs1 XOR rs2. -/
def State.iXor (s : State) (c : Nat) (pre : List (Fin 16)) (w : Nat) : State := s.aluR c pre 0x05 w 1 (fun a b => a ^^^ b)

/-- SLL: rd = rs1 shifted left by rs2[4:0]. -/
def State.iSll (s : State) (c : Nat) (pre : List (Fin 16)) (w : Nat) : State := s.aluR c pre 0x06 w 1 (fun a b => a * 2 ^ (b % 32))

/-- SRL: logical right shift. -/
def State.iSrl (s : State) (c : Nat) (pre : List (Fin 16)) (w : Nat) : State := s.aluR c pre 0x07 w 1 (fun a b => a / 2 ^ (b % 32))

/-- SRA: arithmetic right shift. -/
def State.iSra (s : State) (c : Nat) (pre : List (Fin 16)) (w : Nat) : State := s.aluR c pre 0x08 w 1 (fun a b => ofS 32 (sgn a / 2 ^ (b % 32)))

/-- SLT: rd = 1 if rs1 < rs2 signed, else 0. -/
def State.iSlt (s : State) (c : Nat) (pre : List (Fin 16)) (w : Nat) : State := s.aluR c pre 0x09 w 1 (fun a b => flag (decide (sgn a < sgn b)))

/-- SLTU: as SLT, unsigned. -/
def State.iSltu (s : State) (c : Nat) (pre : List (Fin 16)) (w : Nat) : State := s.aluR c pre 0x0A w 1 (fun a b => flag (decide (a < b)))

/-- MIN: signed minimum. -/
def State.iMin (s : State) (c : Nat) (pre : List (Fin 16)) (w : Nat) : State := s.aluR c pre 0x0B w 1 (fun a b => if sgn a < sgn b then a else b)

/-- MAX: signed maximum. -/
def State.iMax (s : State) (c : Nat) (pre : List (Fin 16)) (w : Nat) : State := s.aluR c pre 0x0C w 1 (fun a b => if sgn a < sgn b then b else a)

/-- MINU: unsigned minimum. -/
def State.iMinu (s : State) (c : Nat) (pre : List (Fin 16)) (w : Nat) : State := s.aluR c pre 0x0D w 1 (fun a b => min a b)

/-- MAXU: unsigned maximum. -/
def State.iMaxu (s : State) (c : Nat) (pre : List (Fin 16)) (w : Nat) : State := s.aluR c pre 0x0E w 1 (fun a b => max a b)

/-- MUL: the low 32 bits of rs1 × rs2. -/
def State.iMul (s : State) (c : Nat) (pre : List (Fin 16)) (w : Nat) : State := s.aluR c pre 0x10 w 2 (fun a b => a * b)

/-- MULH: the high 32 bits, signed × signed. -/
def State.iMulh (s : State) (c : Nat) (pre : List (Fin 16)) (w : Nat) : State := s.aluR c pre 0x11 w 3 (fun a b => ofS 32 (sgn a * sgn b / 2 ^ 32))

/-- MULHU: the high 32 bits, unsigned × unsigned. -/
def State.iMulhu (s : State) (c : Nat) (pre : List (Fin 16)) (w : Nat) : State := s.aluR c pre 0x12 w 3 (fun a b => a * b / 2 ^ 32)

/-- DIV (R308). -/
def State.iDiv (s : State) (c : Nat) (pre : List (Fin 16)) (w : Nat) : State := s.unitR c pre 0x13 w 18 sdiv

/-- DIVU (R308). -/
def State.iDivu (s : State) (c : Nat) (pre : List (Fin 16)) (w : Nat) : State := s.unitR c pre 0x14 w 18 udiv

/-- REM (R308). -/
def State.iRem (s : State) (c : Nat) (pre : List (Fin 16)) (w : Nat) : State := s.unitR c pre 0x15 w 18 srem

/-- REMU (R308). -/
def State.iRemu (s : State) (c : Nat) (pre : List (Fin 16)) (w : Nat) : State := s.unitR c pre 0x16 w 18 urem

/-- ADDI (R304). -/
def State.iAddi (s : State) (c : Nat) (pre : List (Fin 16)) (w imm : Nat) : State := s.aluI c pre 0x20 w imm false (fun a b => a + b)

/-- ANDI (R304). -/
def State.iAndi (s : State) (c : Nat) (pre : List (Fin 16)) (w imm : Nat) : State := s.aluI c pre 0x21 w imm true (fun a b => a &&& b)

/-- ORI (R304). -/
def State.iOri (s : State) (c : Nat) (pre : List (Fin 16)) (w imm : Nat) : State := s.aluI c pre 0x22 w imm true (fun a b => a ||| b)

/-- XORI (R304). -/
def State.iXori (s : State) (c : Nat) (pre : List (Fin 16)) (w imm : Nat) : State := s.aluI c pre 0x23 w imm true (fun a b => a ^^^ b)

/-- SLTI (R304). -/
def State.iSlti (s : State) (c : Nat) (pre : List (Fin 16)) (w imm : Nat) : State := s.aluI c pre 0x27 w imm false (fun a b => flag (decide (sgn a < sgn b)))

/-- SLTIU (R304). -/
def State.iSltiu (s : State) (c : Nat) (pre : List (Fin 16)) (w imm : Nat) : State := s.aluI c pre 0x28 w imm false (fun a b => flag (decide (a < b)))

/-- SLLI (R304). -/
def State.iSlli (s : State) (c : Nat) (pre : List (Fin 16)) (w imm : Nat) : State := s.shiftI c pre 0x24 w imm (fun a n => a * 2 ^ n)

/-- SRLI (R304). -/
def State.iSrli (s : State) (c : Nat) (pre : List (Fin 16)) (w imm : Nat) : State := s.shiftI c pre 0x25 w imm (fun a n => a / 2 ^ n)

/-- SRAI (R304). -/
def State.iSrai (s : State) (c : Nat) (pre : List (Fin 16)) (w imm : Nat) : State := s.shiftI c pre 0x26 w imm (fun a n => ofS 32 (sgn a / 2 ^ n))

/-- LB (R306, R307). -/
def State.iLb (s : State) (c : Nat) (pre : List (Fin 16)) (w off : Nat) (ecc : Ecc) : State := s.load c pre 0x30 w off 1 ecc

/-- LBU (R306, R307). -/
def State.iLbu (s : State) (c : Nat) (pre : List (Fin 16)) (w off : Nat) (ecc : Ecc) : State := s.load c pre 0x31 w off 1 ecc

/-- LH (R306, R307). -/
def State.iLh (s : State) (c : Nat) (pre : List (Fin 16)) (w off : Nat) (ecc : Ecc) : State := s.load c pre 0x32 w off 2 ecc

/-- LHU (R306, R307). -/
def State.iLhu (s : State) (c : Nat) (pre : List (Fin 16)) (w off : Nat) (ecc : Ecc) : State := s.load c pre 0x33 w off 2 ecc

/-- LW (R306, R307). -/
def State.iLw (s : State) (c : Nat) (pre : List (Fin 16)) (w off : Nat) (ecc : Ecc) : State := s.load c pre 0x34 w off 4 ecc

/-- SB (R307). -/
def State.iSb (s : State) (c : Nat) (pre : List (Fin 16)) (w off : Nat) : State := s.store c pre 0x38 w off 1

/-- SH (R307). -/
def State.iSh (s : State) (c : Nat) (pre : List (Fin 16)) (w off : Nat) : State := s.store c pre 0x39 w off 2

/-- SW (R307). -/
def State.iSw (s : State) (c : Nat) (pre : List (Fin 16)) (w off : Nat) : State := s.store c pre 0x3A w off 4

/-- J (R310). -/
def State.iJ (s : State) (c : Nat) (pre : List (Fin 16)) (off : Nat) : State := s.jump c pre 0x44 off false

/-- JAL (R310). -/
def State.iJal (s : State) (c : Nat) (pre : List (Fin 16)) (off : Nat) : State := s.jump c pre 0x45 off true

/-- JR (R310, R328): rd and rs2 zero. -/
def State.iJr (s : State) (c : Nat) (pre : List (Fin 16)) (w : Nat) : State := s.jumpR c pre 0x46 w 0xFC1F false

/-- JALR (R310, R328): rs2 zero. -/
def State.iJalr (s : State) (c : Nat) (pre : List (Fin 16)) (w : Nat) : State := s.jumpR c pre 0x47 w 0xFC00 true

/-- FADD (R309). -/
def State.iFadd (s : State) (c : Nat) (pre : List (Fin 16)) (w : Nat) : State := s.fpR c pre 0x50 w 0x8000 3 [] (fun rm a b _ => fpAdd rm a b)

/-- FSUB (R309). -/
def State.iFsub (s : State) (c : Nat) (pre : List (Fin 16)) (w : Nat) : State := s.fpR c pre 0x51 w 0x8000 3 [] (fun rm a b _ => fpSub rm a b)

/-- FMUL (R309). -/
def State.iFmul (s : State) (c : Nat) (pre : List (Fin 16)) (w : Nat) : State := s.fpR c pre 0x52 w 0x8000 3 [] (fun rm a b _ => fpMul rm a b)

/-- FDIV (R309). -/
def State.iFdiv (s : State) (c : Nat) (pre : List (Fin 16)) (w : Nat) : State := s.fpR c pre 0x53 w 0x8000 14 [34] (fun rm a b _ => fpDiv rm a b)

/-- FSQRT (R309). -/
def State.iFsqrt (s : State) (c : Nat) (pre : List (Fin 16)) (w : Nat) : State := s.fpR c pre 0x54 w 0xFC00 16 [34] (fun rm a _ _ => fpSqrt rm a)

/-- FMADD (R309). -/
def State.iFmadd (s : State) (c : Nat) (pre : List (Fin 16)) (w : Nat) : State := s.fpR c pre 0x55 w 0x8000 4 [] (fun rm a b d => fpMadd rm d a b)

/-- FMIN (R309). -/
def State.iFmin (s : State) (c : Nat) (pre : List (Fin 16)) (w : Nat) : State := s.fpR c pre 0x56 w 0x8000 1 [] (fun _ a b _ => fpMinMax false a b)

/-- FMAX (R309). -/
def State.iFmax (s : State) (c : Nat) (pre : List (Fin 16)) (w : Nat) : State := s.fpR c pre 0x57 w 0x8000 1 [] (fun _ a b _ => fpMinMax true a b)

/-- FEQ (R309). -/
def State.iFeq (s : State) (c : Nat) (pre : List (Fin 16)) (w : Nat) : State := s.fpR c pre 0x58 w 0x8000 1 [] (fun _ a b _ => fpEq a b)

/-- FLT (R309). -/
def State.iFlt (s : State) (c : Nat) (pre : List (Fin 16)) (w : Nat) : State := s.fpR c pre 0x59 w 0x8000 1 [] (fun _ a b _ => fpLt a b)

/-- FLE (R309). -/
def State.iFle (s : State) (c : Nat) (pre : List (Fin 16)) (w : Nat) : State := s.fpR c pre 0x5A w 0x8000 1 [] (fun _ a b _ => fpLe a b)

/-- FCVT.W.S (R309). -/
def State.iFcvtWS (s : State) (c : Nat) (pre : List (Fin 16)) (w : Nat) : State := s.fpR c pre 0x5B w 0xFC00 2 [] (fun rm a _ _ => fpToS rm a)

/-- FCVT.WU.S (R309). -/
def State.iFcvtWuS (s : State) (c : Nat) (pre : List (Fin 16)) (w : Nat) : State := s.fpR c pre 0x5C w 0xFC00 2 [] (fun rm a _ _ => fpToU rm a)

/-- FCVT.S.W (R309). -/
def State.iFcvtSW (s : State) (c : Nat) (pre : List (Fin 16)) (w : Nat) : State := s.fpR c pre 0x5D w 0xFC00 2 [] (fun rm a _ _ => fpOfS rm a)

/-- FCVT.S.WU (R309). -/
def State.iFcvtSWu (s : State) (c : Nat) (pre : List (Fin 16)) (w : Nat) : State := s.fpR c pre 0x5E w 0xFC00 2 [] (fun rm a _ _ => fpOfU rm a)

/-- WFE (R313). -/
def State.iWfe (s : State) (c : Nat) (pre : List (Fin 16)) (rdb mask : Nat) : State := s.eventInstr c pre 0x6A rdb mask true

/-- EVTST (R313). -/
def State.iEvtst (s : State) (c : Nat) (pre : List (Fin 16)) (rdb mask : Nat) : State := s.eventInstr c pre 0x6B rdb mask false

/-! ## The instruction at the pc -/

/-- An opcode that Table 13.4 does not list raises ILLEGAL with KIND 2, after the prefixes in front of it (R302, R303). -/
def State.iUnlisted (s : State) (c : Nat) (p : List (Fin 16)) (op : Nat) : State :=
  s.issue c p { op := op, len := 1, wlen := 1, aw := true, a8 := true, a9 := true } none [] fun s i => s.fault c i (illegal 2 op p.length)

/-- Decode and issue the instruction at a core's pc, from the loop buffer, the fetch buffer or TCM (R325, R326). -/
def State.instrAt (s : State) (c : Nat) : State :=
  let l := s.codeAt c (s.core c).arch.pc 15
  let p := prefixes 4 l
  let b := l.drop p.length
  let byte (i : Nat) : Nat := (b.getD i 0).toNat
  let w := byte 1 + 256 * byte 2
  let op := byte 0
  let wide := (8 : Fin 16) ∈ p && (baseOf op).a8
  let imm (i : Nat) : Nat := ofLE ((b.drop i).take (if wide then 4 else 2))
  match op with
  | 0x00 => s.iNop c p
  | 0x01 => s.iAdd c p w
  | 0x02 => s.iSub c p w
  | 0x03 => s.iAnd c p w
  | 0x04 => s.iOr c p w
  | 0x05 => s.iXor c p w
  | 0x06 => s.iSll c p w
  | 0x07 => s.iSrl c p w
  | 0x08 => s.iSra c p w
  | 0x09 => s.iSlt c p w
  | 0x0A => s.iSltu c p w
  | 0x0B => s.iMin c p w
  | 0x0C => s.iMax c p w
  | 0x0D => s.iMinu c p w
  | 0x0E => s.iMaxu c p w
  | 0x10 => s.iMul c p w
  | 0x11 => s.iMulh c p w
  | 0x12 => s.iMulhu c p w
  | 0x13 => s.iDiv c p w
  | 0x14 => s.iDivu c p w
  | 0x15 => s.iRem c p w
  | 0x16 => s.iRemu c p w
  | 0x20 => s.iAddi c p w (imm 3)
  | 0x21 => s.iAndi c p w (imm 3)
  | 0x22 => s.iOri c p w (imm 3)
  | 0x23 => s.iXori c p w (imm 3)
  | 0x27 => s.iSlti c p w (imm 3)
  | 0x28 => s.iSltiu c p w (imm 3)
  | 0x24 => s.iSlli c p w (imm 3)
  | 0x25 => s.iSrli c p w (imm 3)
  | 0x26 => s.iSrai c p w (imm 3)
  | 0x30 => s.iLb c p w (imm 3) .ok
  | 0x31 => s.iLbu c p w (imm 3) .ok
  | 0x32 => s.iLh c p w (imm 3) .ok
  | 0x33 => s.iLhu c p w (imm 3) .ok
  | 0x34 => s.iLw c p w (imm 3) .ok
  | 0x38 => s.iSb c p w (imm 3)
  | 0x39 => s.iSh c p w (imm 3)
  | 0x3A => s.iSw c p w (imm 3)
  | 0x3B => s.iSti c p w (imm 3) (imm (if wide then 7 else 5))
  | 0x40 => s.iBr c p w (imm 3)
  | 0x44 => s.iJ c p (ofLE (b.drop 1 |>.take 3))
  | 0x45 => s.iJal c p (ofLE (b.drop 1 |>.take 3))
  | 0x46 => s.iJr c p w
  | 0x47 => s.iJalr c p w
  | 0x50 => s.iFadd c p w
  | 0x51 => s.iFsub c p w
  | 0x52 => s.iFmul c p w
  | 0x53 => s.iFdiv c p w
  | 0x54 => s.iFsqrt c p w
  | 0x55 => s.iFmadd c p w
  | 0x56 => s.iFmin c p w
  | 0x57 => s.iFmax c p w
  | 0x58 => s.iFeq c p w
  | 0x59 => s.iFlt c p w
  | 0x5A => s.iFle c p w
  | 0x5B => s.iFcvtWS c p w
  | 0x5C => s.iFcvtWuS c p w
  | 0x5D => s.iFcvtSW c p w
  | 0x5E => s.iFcvtSWu c p w
  | 0x60 => s.iMfsr c p w
  | 0x61 => s.iMtsr c p w
  | 0x68 => s.iSev c p w
  | 0x69 => s.iSevr c p w
  | 0x6A => s.iWfe c p (byte 1) (byte 2)
  | 0x6B => s.iEvtst c p (byte 1) (byte 2)
  | 0x6C => s.iWaitt c p w
  | 0x70 => s.iLoop c p w (imm 3)
  | 0x71 => s.iLoopi c p (imm 1) (imm (if wide then 5 else 3))
  | 0x74 => s.iCkpt c p
  | 0x75 => s.iHold c p w
  | 0x76 => s.iRfe c p
  | 0x77 => s.iSync c p
  | 0x78 => s.iIjtBar c p (byte 1)
  | 0x79 => s.iIjtFlush c p
  | 0x7C => s.iTrap c p (byte 1)
  | 0x7D => s.iBrk c p
  | 0x80 => s.iWld c p w (imm 3) .ok
  | 0x81 => s.iWst c p w (imm 3)
  | 0x82 => s.iWder c p w .ok
  | 0x83 => s.iWrev c p (byte 1)
  | 0x84 => s.iWq c p w
  | 0x85 => s.iWmov c p w
  | 0x86 => s.iWclr c p (byte 1)
  | _ => s.iUnlisted c p op

/-! ## STEP -/

/-- The step ends (R511): an enabled interrupt that is due makes its entry, unless MASKINT, and the core halts with CAUSE 4. -/
def State.stepEnd (s : State) (c : Nat) : State :=
  if (s.core c).st ≠ 1 then s.setCore c { s.core c with stepping := false }
  else
    let s := if s.on DBG_C_CTL_MASKINT c || !s.irqOk c then s else s.irqEntry c
    if (s.core c).st ≠ 1 then s.setCore c { s.core c with stepping := false } else s.coreHalt c 4

/-- The slot of a load is executed in the same step, and a slot that is a load brings its own; a wait goes on. Log entry 58 (DESIGN CHOICE). -/
def State.stepSlots : Nat → State → Nat → State
  | 0, s, c => s.stepEnd c
  | n + 1, s, c =>
    let k := s.core c
    if k.st = 1 && k.wait != .none then s
    else if k.st = 1 && k.pload.isSome then stepSlots n ((s.setCore c { k with skipBp := true }).instrAt c) c
    else s.stepEnd c

/-- A step begins once the core's clock runs. -/
def State.stepGo (s : State) (c : Nat) : State := State.stepSlots 64 ((s.unhalt c).instrAt c) c

/-- A step in progress whose core waits no longer goes on. -/
def State.stepOn (s : State) (c : Nat) : State :=
  let k := s.core c
  if k.stepping && k.st != 4 && k.wait == .none then State.stepSlots 64 s c else s

/-- Begin the steps asked for, in ascending core number; a step may ask for another. -/
def State.runSteps : Nat → State → State
  | 0, s => s
  | n + 1, s =>
    match (List.range 16).find? fun c => (s.core c).stepping && (s.core c).st == 4 && s.coreClock with
    | none => s
    | some c => runSteps n (s.stepGo c)

/-- The steps that a register write or a clock that runs again lets begin. -/
def State.steps (s : State) : State := State.runSteps 16 s

end Sys2Proof.Machine
end

