-- ==== Sys2Proof/Machine/Commands.lean ====
section
/-!
DEFINITION. What several commands share before their effect: read answers, interrupts (R335), completions of outbound reads (R421), TLPs and blocks whose
buffers fail (Table 22.2), and the writes of NVM_STBUF (R491) and CAP_CTL.EN (R402).
-/
namespace Sys2Proof.Machine
open F

/-- A read's value leaves the part. -/
def answer (q : Nat × State) : State := q.2.emit (.readData (BitVec.ofNat 32 q.1))

/-- An interrupt is due at the boundary where the core stands (R335): a halt that waits there wins (R510), a step under MASKINT takes none, and a step that
was waiting ends with the entry (R511). Log entry 54 (DEDUCED). -/
def State.interrupt (s : State) (c : Nat) : State :=
  let k := s.core c
  if s.haltNow c then s.coreHalt c 1
  else if k.stepping && s.on DBG_C_CTL_MASKINT c then s
  else (s.irqEntry c).stepOn c

/-- Bytes that a host-window read of an opcode asks for. -/
def hostBytes (op : Nat) : Nat := if op = 0x80 then 8 else if op = 0x82 then 12 else if op = 0x34 then 4 else if op = 0x32 || op = 0x33 then 2 else 1

/-- The completion of core c's outbound read (R421): its data, or none for an error status or poisoned data, which raises PCIE_CTO. -/
def State.outbound (s : State) (c : Nat) (data : Option (List (BitVec 8))) : State :=
  match (s.core c).wait with
  | .host l =>
    (match data with
      | some b => s.coreHostDone c (.ok (ofLE (b.take (hostBytes l.op))))
      | none => (s.pcieFault 1 (s.rd PCIE_OW_LO_FN ((l.addr - 0x80000000) / 2 ^ 27))).coreHostDone c (.error 0)).stepOn c
  | _ => s

/-- The range of the completion timeout, from Device Control 2: the ranges A and B of the standard, and 10 ms by default (R421; log entry 21). -/
def PcieFn.ctoRange (x : PcieFn) : Nat × Nat :=
  match x.word 0x88 % 16 with
  | 1 => (usec 50, usec 100)
  | 2 => (usec 1000, usec 10000)
  | 5 => (usec 16000, usec 55000)
  | 6 => (usec 65000, usec 210000)
  | _ => (usec 10000, usec 10000)

/-- The outbound read times out (R421, R429), unless Device Control 2 of its requester turns the timeout off (log entry 21). -/
def State.outboundLate (s : State) (c : Nat) : State :=
  match (s.core c).wait with
  | .host l =>
    let f := s.rd PCIE_OW_LO_FN ((l.addr - 0x80000000) / 2 ^ 27)
    if bit ((s.fn f).word 0x88) 4 then s
    else
      let r := (s.fn f).ctoRange
      let s := (s.drawn).reach (cycTime l.n + r.1 + s.fresh % (r.2 - r.1 + 1))
      (((s.aerLog f 14).pcieFault 1 f).coreHostDone c (.error 0)).stepOn c
  | _ => s

/-- A TLP of function f: one whose PCIe buffer codeword is uncorrectable is discarded with an Uncorrectable Internal Error (Table 22.2, class 6). -/
def State.tlp (s : State) (f : Nat) (buf : Ecc) (k : State → State) : State :=
  let t := s.eccHit 6 0 0 buf false
  if buf = .uncorr then ({ t with badCw := t.badCw.filter (· != (6, 0, 0)) }).aerLog f 22 else k t

/-- BLOCK_ISSUE under the check of the capture buffer: a block with an uncorrectable error is dropped and counted (Table 22.2, class 7; R405). Log entry 64 (DEDUCED). -/
def State.issueEcc (s : State) (i : Nat) (ecc : Ecc) : State :=
  let t := s.eccHit 7 0 0 ecc false
  if ecc = .uncorr then
    let t := { t with badCw := t.badCw.filter (· != (7, 0, 0)) }
    if i < 256 then
      match (t.stream i).full with
      | b :: _ => ((t.loseBlock i b).addTo CAP_OWNDROP_COUNT 0 1).capFault 2 0
      | [] => t
    else if i = 256 then
      match t.cap.fwd with
      | b :: rest => ({ t with cap := { t.cap with fwd := rest } }).fwdDrop b.seat
      | [] => t
    else
      match t.tracer.full with
      | b :: rest => ({ t with tracer := { t.tracer with full := rest } }).traceLose (b.bytes.length / 16)
      | [] => t
  else t.issueBlock i

/-- A capture block arrives by a port; one with a CRC error is counted, and the neighbour sends it again (R441). -/
def State.fwdCrc (s : State) (p : Nat) (crc : Bool) (b : CapBlock) : State :=
  if crc then (s.addTo B_CRCERR_COUNT p 1).braidFault p 3 0 0 else s.fwdArrive p b

/-- The neighbour acknowledges a block of a port (R441). -/
def State.capAck (s : State) (p : Nat) : State := s.setSent p (s.cap.sent p - 1)

/-- A change of CAP_CTL.EN (R402). -/
def State.capEn (s : State) (on : Bool) : State := if on = s.on CAP_CTL_EN 0 then s else if on then s.capStart else s.capStop

/-- A write of NVM_STBUF (R491): by its owner, or a bus error that changes nothing. -/
def State.stbufWrite (s : State) (ini : Initiator) (j w : Nat) : State := if s.stOwner = some (initNum ini) then s.stWrite j w else s

end Sys2Proof.Machine
end

