-- ==== Sys2Proof/Machine/CmdPricking.lean ====
section
/-!
DEFINITION. The pricking store and its commands (spec/02): the meaning of each command. Commands act only while the device is powered (R451, R455), but for those
of the supply itself.
-/
namespace Sys2Proof.Machine
open F

/-- REGISTER_WRITE: A write to a register that has no row of its own acts on each field by its access type (R12). -/
def execRegisterWrite (ini : Initiator) (addr : BitVec 32) (w : BitVec 32) (s : State) : Host.Outcome State Fault Refusal :=
  .next (s.live fun s => (s.registerWrite ini addr.toNat w.toNat).steps)

/-- VERIFY: The VERIFY command of PRK_CMD runs validation steps 1–10 on a slot (R48). -/
def execVerify (slot : BitVec 2) (s : State) : Host.Outcome State Fault Refusal :=
  .next (s.live fun s => s.prkWrite 16 (256 * slot.toNat + 1))

/-- COMMIT: The COMMIT command of PRK_CMD validates a full pricking and, once step 12 succeeds, loads it (R51). -/
def execCommit (slot : BitVec 2) (s : State) : Host.Outcome State Fault Refusal :=
  .next (s.live fun s => s.prkWrite 16 (256 * slot.toNat + 2))

/-- PATCH: The PATCH command of PRK_CMD validates a patch and stages it (R56). -/
def execPatch (slot : BitVec 2) (s : State) : Host.Outcome State Fault Refusal :=
  .next (s.live fun s => s.prkWrite 16 (256 * slot.toNat + 4))

/-- ACTIVATE: The ACTIVATE command verifies a slot, marks it active and makes the previously active slot the fallback (R46). -/
def execActivate (slot : BitVec 2) (s : State) : Host.Outcome State Fault Refusal :=
  .next (s.live fun s => s.prkWrite 16 (256 * slot.toNat + 8))

/-- ERASE: The ERASE command starts the erase of a pricking slot that is not active (R44). -/
def execErase (slot : BitVec 2) (s : State) : Host.Outcome State Fault Refusal :=
  .next (s.live fun s => s.prkWrite 16 (256 * slot.toNat + 16))

/-- ERASE_DONE: The slot erase ends and the slot becomes erased (R487). -/
def execEraseDone (s : State) : Host.Outcome State Fault Refusal :=
  .next (s.live fun s => s.eraseDone)

/-- SVNUP: The SVNUP command raises SVNMIN to the SVN of the committed image (R66). -/
def execSvnup (slot : BitVec 2) (s : State) : Host.Outcome State Fault Refusal :=
  .next (s.live fun s => s.prkWrite 16 (256 * slot.toNat + 64))

/-- ABORT: The ABORT command ends a verification, placement or patch staging that is in progress, with code ABORTED (R63). -/
def execAbort (slot : BitVec 2) (s : State) : Host.Outcome State Fault Refusal :=
  .next (s.live fun s => s.prkWrite 16 (256 * slot.toNat + 32))

/-- STRUCTURE_LOAD: After step 12 succeeds and the running jobs have drained, the device locks the WL fields, resets functions, writes the structure and starts the jobs and cores (R52). -/
def execStructureLoad (err : Option Nat) (s : State) : Host.Outcome State Fault Refusal :=
  .next (s.live fun s => s.structureLoad err)

/-- BOOT_COMMIT: At boot the device verifies, places and commits the active slot, or else the fallback slot (R47). -/
def execBootCommit (s : State) : Host.Outcome State Fault Refusal :=
  .next (s.live fun s => s.bootCommit)

/-- PATCH_STAGING_END: Every staged item of a patch is written, and OP changes from 4 to 5 (R58). -/
def execPatchStagingEnd (s : State) : Host.Outcome State Fault Refusal :=
  .next (s.live fun s => s.stagingEnd)

/-- PATCH_APPLY_POINT: An affected engine, idle at or after the end of staging or at APPLY_TIME, swaps its parameter blocks and enables its new jobs (R59). -/
def execPatchApplyPoint (e : Fin 48) (s : State) : Host.Outcome State Fault Refusal :=
  .next (s.live fun s => s.applyPoint e.val)

end Sys2Proof.Machine
end

