-- ==== Sys2Proof/Machine/CmdModulators.lean ====
section
/-!
DEFINITION. Modulators, their supervision, swaps and calibration (spec/03): the meaning of each command. Commands act only while the device is powered (R451, R455), but for those
of the supply itself.
-/
namespace Sys2Proof.Machine
open F

/-- MOD_CODE: A modulator unit delivers one code per modulator period to the decimator, the raw lanes and capture (R537). -/
def execModCode (u : Fin 72) (code : BitVec 4) (s : State) : Host.Outcome State Fault Refusal :=
  .next (s.live fun s => s.modCode u.val code.toNat (fun a => (s.sram.rd (a % 2 ^ 25)).toNat))

/-- LOOP_FILTER_RESET_END: The 8-cycle loop-filter reset that follows an overload ends, and may end the overload episode (R70). -/
def execLoopFilterResetEnd (u : Fin 72) (s : State) : Host.Outcome State Fault Refusal :=
  .next (s.live fun s => s.loopFilterEnd u.val)

/-- SAMPLE_BOUNDARY: At a decimation boundary the device publishes the sample with its QUAL and SEQ, and raises sample-ready (R79). -/
def execSampleBoundary (n : Fin 64) (s : State) : Host.Outcome State Fault Refusal :=
  .next (s.live fun s => s.boundary n.val)

/-- UNIT_RESTART: A modulator unit restarts 64 MOD cycles after its function reset is released (R76). -/
def execUnitRestart (u : Fin 72) (s : State) : Host.Outcome State Fault Refusal :=
  .next (s.live fun s => s.unitRestart u.val)

/-- WINDOW_CROSSING: The input crosses a window-comparator threshold, so HIGH or LOW asserts or deasserts (R82). -/
def execWindowCrossing (n : Fin 64) (v : Int) (s : State) : Host.Outcome State Fault Refusal :=
  .next (s.live fun s => s.windowCross n.val v)

/-- MOD_WIN_WRITE: A write to MODn_WIN sets new thresholds, which take effect within 250 ns (R83). -/
def execModWinWrite (n : Fin 64) (w : BitVec 32) (s : State) : Host.Outcome State Fault Refusal :=
  .next (s.live fun s => s.winWrite n.val w.toNat)

/-- MOD_CTL_WRITE: A write to MODn_CTL starts or ends the open-wire detector and the common-mode monitor (R84). -/
def execModCtlWrite (n : Fin 64) (w : BitVec 32) (s : State) : Host.Outcome State Fault Refusal :=
  .next (s.live fun s => s.ctlWrite n.val w.toNat)

/-- OPEN_WIRE_PULSE: The end of an open-wire test pulse judges the pin as open or closed (R84). -/
def execOpenWirePulse (n : Fin 64) (neg : Bool) (mv : Nat) (s : State) : Host.Outcome State Fault Refusal :=
  .next (s.live fun s => s.owPulse n.val neg mv)

/-- CM_MEASUREMENT: A common-mode measurement every 10 µs is classified, and may declare or clear a condition (R86). -/
def execCmMeasurement (n : Fin 64) (cm : Int) (vp : Int) (vn : Int) (s : State) : Host.Outcome State Fault Refusal :=
  .next (s.live fun s => s.cmMeasure n.val cm vp vn)

/-- MOD_SWAP: The SWAP bit of MODn_SWAP queues a request for swap, calibration and return (R88). -/
def execModSwap (n : Fin 64) (s : State) : Host.Outcome State Fault Refusal :=
  .next (s.live fun s => s.swapRequest n.val false)

/-- MOD_REPLACE: The REPLACE bit of MODn_SWAP queues a request for a swap without return (R88). -/
def execModReplace (n : Fin 64) (s : State) : Host.Outcome State Fault Refusal :=
  .next (s.live fun s => s.swapRequest n.val true)

/-- MOD_CANCEL: The CANCEL bit of MODn_SWAP removes a queued modulator swap request (R89). -/
def execModCancel (n : Fin 64) (s : State) : Host.Outcome State Fault Refusal :=
  .next (s.live fun s => s.swapCancel n.val)

/-- SWAP_START: The tile serves a queued modulator request and connects the spare unit to the input (R90). -/
def execSwapStart (t : Fin 8) (s : State) : Host.Outcome State Fault Refusal :=
  .next (s.live fun s => s.swapStart t.val)

/-- SWAP_CONNECT_END: The 128-period connect phase ends, and the swap waits for the next boundary b0 (R90). -/
def execSwapConnectEnd (t : Fin 8) (s : State) : Host.Outcome State Fault Refusal :=
  .next (s.live fun s => s.swapConnected t.val)

/-- CAL_POINT_START: A calibration point starts on the named converter, which abandons the conversion in progress (R108). -/
def execCalPointStart (t : Fin 8) (s : State) : Host.Outcome State Fault Refusal :=
  .next (s.live fun s => s.calPoint t.val)

/-- CALIBRATION_DONE: Both calibration points end, and OFFSET and GAIN are computed or CAL_RANGE is raised (R92). Log entry 15 (DESIGN CHOICE). -/
def execCalibrationDone (t : Fin 8) (gain : Int) (offset : Int) (s : State) : Host.Outcome State Fault Refusal :=
  .next (s.live fun s => s.calDone t.val gain offset)

end Sys2Proof.Machine
end

