-- ==== Sys2Proof/Machine/CmdMetering.lean ====
section
/-!
DEFINITION. Metering converters and cross-checks (spec/04): the meaning of each command. Commands act only while the device is powered (R451, R455), but for those
of the supply itself.
-/
namespace Sys2Proof.Machine
open F

/-- MC_INTEGRATION_END: A converter's integration ends, and the settling of the next conversion begins (R98). -/
def execMcIntegrationEnd (k : Fin 16) (v : Int) (s : State) : Host.Outcome State Fault Refusal :=
  .next (s.live fun s => s.mcIntegrated k.val v)

/-- MC_RESULT_WRITE: 80 FAB cycles after an integration ends, the result enters the FIFO and LASTi and raises the result producer (R105). -/
def execMcResultWrite (k : Fin 16) (s : State) : Host.Outcome State Fault Refusal :=
  .next (s.live fun s => s.mcResult k.val)

/-- MC_RUN: Setting or clearing MCk_CTL.RUN starts continuous scanning, or stops it after the conversion in progress (R101). -/
def execMcRun (k : Fin 16) (run : Bool) (s : State) : Host.Outcome State Fault Refusal :=
  .next (s.live fun s => s.mcRun k.val run)

/-- MC_ONE: The ONE bit of MCk_CTL starts a single scan while RUN is 0 (R101). -/
def execMcOne (k : Fin 16) (s : State) : Host.Outcome State Fault Refusal :=
  .next (s.live fun s => s.mcOne k.val)

/-- MC_XCEN_WRITE: A change of XCEN re-deals the checked modulators over the cross-check set (R110). -/
def execMcXcenWrite (k : Fin 16) (on : Bool) (s : State) : Host.Outcome State Fault Refusal :=
  .next (s.live fun s => s.mcXcen k.val on)

/-- MC_RES_READ: A read of MCk_RES removes the oldest FIFO entry and latches its device time (R106). -/
def execMcResRead (k : Fin 16) (s : State) : Host.Outcome State Fault Refusal :=
  .next (s.live fun s => answer (s.mcResRead k.val))

/-- MAINS_ZERO_CROSSING: A zero-crossing event is accepted and sets MAINSPER, or is ignored with MAINS_GLITCH (R103). -/
def execMainsZeroCrossing (k : Fin 16) (s : State) : Host.Outcome State Fault Refusal :=
  .next (s.live fun s => s.mainsCross k.val)

/-- MAINS_TIMEOUT: 25 ms without an accepted zero crossing raises MAINS_LOST and sets NOSYNC (R104). -/
def execMainsTimeout (k : Fin 16) (s : State) : Host.Outcome State Fault Refusal :=
  .next (s.live fun s => s.mainsLost k.val)

/-- XC_CHECK: A cross-check conversion ends and compares the converter result with the modulator's mean sample (R111). -/
def execXcCheck (k : Fin 16) (v : Int) (s : State) : Host.Outcome State Fault Refusal :=
  .next (s.live fun s => s.xcCheck k.val v)

/-- XC_LATE_TIMEOUT: A checked modulator goes 100 ms without a check, and XC_LATE is raised (R113). -/
def execXcLateTimeout (n : Fin 64) (s : State) : Host.Outcome State Fault Refusal :=
  .next (s.live fun s => s.xcLateNow n.val)

end Sys2Proof.Machine
end

