-- ==== Sys2Proof/Machine/CmdEngines.lean ====
section
/-!
DEFINITION. Loop engines, raw lanes and mailboxes (spec/05), and the scrub of spec/22: the meaning of each command. Commands act only while the device is powered (R451, R455), but for those
of the supply itself.
-/
namespace Sys2Proof.Machine
open F

/-- JOB_TRIGGER: A trigger reaches a slot and sets its pending flag, or is dropped with LE_TRIG_LOST or LE_EARLY (R122). -/
def execJobTrigger (e : Fin 48) (slot : Fin 8) (s : State) : Host.Outcome State Fault Refusal :=
  .next (s.live fun s => s.tileTrigger e.val slot.val)

/-- HELD_TRIGGER_PRESENT: A class U trigger held in the hold-off window is presented to its slot in cycle t + 1 (R223). -/
def execHeldTriggerPresent (e : Fin 48) (slot : Fin 8) (s : State) : Host.Outcome State Fault Refusal :=
  .next (s.live fun s => s.heldTrigger e.val slot.val)

/-- JOB_DISPATCH: A free engine dispatches its lowest pending slot and clears the slot's pending flag (R121). -/
def execJobDispatch (e : Fin 48) (s : State) : Host.Outcome State Fault Refusal :=
  .next (s.live fun s => s.needTile (e.val / 6) fun s => s.dispatch e.val)

/-- BUDGET_EXPIRY: A run reaches BUDGET microsteps without END, which raises LE_OVERRUN (R126). -/
def execBudgetExpiry (e : Fin 48) (s : State) : Host.Outcome State Fault Refusal :=
  .next (s.live fun s => s.budgetExpiry e.val)

/-- FALLBACK_WORD: A horizontal microword issues, and applies its updates, post, store, signal, counter and branch (R173). -/
def execFallbackWord (e : Fin 56) (fetch : Ecc) (data : Ecc) (s : State) : Host.Outcome State Fault Refusal :=
  .next (s.live fun s => s.fallbackWord e.val fetch data)

/-- FBLIM_EXPIRY: LEn_FBLIM ENG cycles of fallback pass, so fallback ends and its held legs stop (R173). -/
def execFblimExpiry (e : Fin 56) (s : State) : Host.Outcome State Fault Refusal :=
  .next (s.live fun s => s.fblimExpiry e.val)

/-- FETCH_RESULT: A FETCH result arrives f cycles after issue and updates the last-fetch record and Q (R162). -/
def execFetchResult (e : Fin 56) (s : State) : Host.Outcome State Fault Refusal :=
  .next (s.live fun s => s.fetchResult e.val)

/-- POST_ACCEPT: A leg accepts an edge post, which takes effect as R182 states, and the engine records CP (R129). -/
def execPostAccept (k : Fin 48) (s : State) : Host.Outcome State Fault Refusal :=
  .next (s.live fun s => s.postArrive k.val)

/-- RAW_LANE_CODE: A raw lane accumulates a code of its source and compares ACC with its thresholds (R132). -/
def execRawLaneCode (e : Fin 48) (j : Fin 4) (s : State) : Host.Outcome State Fault Refusal :=
  .next (s.live fun s => s.rawLane e.val j.val)

/-- BLANK_END: The lane's blanking interval ends and both of its actions are rearmed (R133). -/
def execBlankEnd (e : Fin 48) (j : Fin 4) (s : State) : Host.Outcome State Fault Refusal :=
  .next (s.live fun s => s.blankEnd e.val j.val)

/-- FORCE_OFF: The leg accepts a force-off request and ends the on-time in progress (R184). -/
def execForceOff (k : Fin 48) (s : State) : Host.Outcome State Fault Refusal :=
  .next (s.live fun s => s.needTile (k.val / 6) fun s => s.laneAct k.val 1)

/-- FORCE_ON: The leg accepts a force-on request and starts an on-time if none is in progress (R184). -/
def execForceOn (k : Fin 48) (s : State) : Host.Outcome State Fault Refusal :=
  .next (s.live fun s => s.needTile (k.val / 6) fun s => s.laneAct k.val 2)

/-- RESTART_PERIOD: The leg accepts a restart request, ends the current period and begins a new one (R184). -/
def execRestartPeriod (k : Fin 48) (s : State) : Host.Outcome State Fault Refusal :=
  .next (s.live fun s => s.needTile (k.val / 6) fun s => s.laneAct k.val 3)

/-- MBOX_DATA_WRITE: A write to LEn_MBOX_DATA stores the value in the writing initiator's holding register (R136). -/
def execMboxDataWrite (ini : Initiator) (e : Fin 48) (w : BitVec 32) (s : State) : Host.Outcome State Fault Refusal :=
  .next (s.live fun s => s.mboxData e.val ini w.toNat)

/-- MBOX_PUSH: A push enters the parameter mailbox FIFO, or is refused with FULLERR and LE_MBOX_FULL (R136). -/
def execMboxPush (ini : Initiator) (e : Fin 48) (w : BitVec 32) (s : State) : Host.Outcome State Fault Refusal :=
  .next (s.live fun s => s.mboxPush e.val ini w.toNat)

/-- MBOX_ENTRY_VISIBLE: A mailbox entry becomes visible to the engine after its 3-stage crossing (R137). -/
def execMboxEntryVisible (e : Fin 48) (s : State) : Host.Outcome State Fault Refusal :=
  .next (s.live fun s => s.mboxVisible e.val)

/-- MBOX_GROUP_APPLY: In an ENG cycle with no job running, the engine applies a visible group to the parameter blocks (R137). -/
def execMboxGroupApply (e : Fin 48) (s : State) : Host.Outcome State Fault Refusal :=
  .next (s.live fun s => s.needTile (e.val / 6) fun s => s.mboxGroupApply e.val)

/-- ENGINE_DISABLE: The DISABLE bit of LEn_CMD requests a disable after the running job (R143). -/
def execEngineDisable (e : Fin 48) (s : State) : Host.Outcome State Fault Refusal :=
  .next (s.live fun s => s.engDisable e.val)

/-- DISABLE_DRAIN_END: The running job has finished, so the engine stops, sends its legs safe and becomes disabled (R143). -/
def execDisableDrainEnd (e : Fin 48) (s : State) : Host.Outcome State Fault Refusal :=
  .next (s.live fun s => s.engDrained e.val)

/-- HDISABLE: The HDISABLE bit of LEn_CMD hard-disables the engine with LE_HDISABLE and starts fallback (R143). -/
def execHdisable (e : Fin 48) (s : State) : Host.Outcome State Fault Refusal :=
  .next (s.live fun s => s.engHdisable e.val)

/-- ENGINE_ENABLE: The ENABLE bit of LEn_CMD returns a disabled engine to normal operation (R143). -/
def execEngineEnable (e : Fin 48) (s : State) : Host.Outcome State Fault Refusal :=
  .next (s.live fun s => s.engEnable e.val)

/-- ENGINE_RELOAD_DONE: After a function reset the engine's stores and slots are reloaded and its jobs become triggerable (R142). -/
def execEngineReloadDone (e : Fin 48) (s : State) : Host.Outcome State Fault Refusal :=
  .next (s.live fun s => s.reloadDone e.val)

/-- LE_SWAP: The SWAP bit of LEn_SWAP queues an engine request for swap, test and return (R145). -/
def execLeSwap (e : Fin 48) (s : State) : Host.Outcome State Fault Refusal :=
  .next (s.live fun s => s.leSwapRequest e.val 0)

/-- LE_REPLACE: The REPLACE bit of LEn_SWAP queues an engine request for a swap without return (R145). -/
def execLeReplace (e : Fin 48) (s : State) : Host.Outcome State Fault Refusal :=
  .next (s.live fun s => s.leSwapRequest e.val 1)

/-- LE_CANCEL: The CANCEL bit of LEn_SWAP removes a queued engine request (R145). -/
def execLeCancel (e : Fin 48) (s : State) : Host.Outcome State Fault Refusal :=
  .next (s.live fun s => s.leSwapCancel e.val)

/-- LE_SWAP_START: The tile serves a queued engine request and starts copying to the spare (R147). -/
def execLeSwapStart (t : Fin 8) (s : State) : Host.Outcome State Fault Refusal :=
  .next (s.live fun s => s.leSwapStart t.val)

/-- LE_SWITCH: In the first free ENG cycle after the copy, the spare takes the role with its pending state (R148). -/
def execLeSwitch (t : Fin 8) (s : State) : Host.Outcome State Fault Refusal :=
  .next (s.live fun s => s.leSwitchNow t.val)

/-- SELFTEST_DONE: The released engine's self-test ends, and then its return starts or LE_SELFTEST retires it (R149). -/
def execSelftestDone (t : Fin 8) (pass : Bool) (s : State) : Host.Outcome State Fault Refusal :=
  .next (s.live fun s => s.selftestDone t.val pass)

/-- ECC_SCRUB: A scrub in an idle port cycle reads a codeword, and corrects and counts any error it finds (R501). -/
def execEccScrub (cls : Fin 9) (inst : Nat) (addr : Nat) (ecc : Ecc) (s : State) : Host.Outcome State Fault Refusal :=
  .next (s.live fun s => s.eccScrub cls.val inst addr ecc)

end Sys2Proof.Machine
end

