-- ==== Sys2Proof/Machine/CmdMicrowords.lean ====
section
/-!
DEFINITION. Loop-engine microwords (spec/06); engines 48 to 55 are the role-less units of the tiles: the meaning of each command. Commands act only while the device is powered (R451, R455), but for those
of the supply itself.
-/
namespace Sys2Proof.Machine
open F

/-- U_NOP: Microword NOP does nothing for one microstep (R160). -/
def execUNop (e : Fin 56) (fetch : Ecc) (s : State) : Host.Outcome State Fault Refusal :=
  .next (s.live fun s => s.uword e.val fetch .nop .ok)

/-- U_END: Microword END ends the run (R167). -/
def execUEnd (e : Fin 56) (fetch : Ecc) (s : State) : Host.Outcome State Fault Refusal :=
  .next (s.live fun s => s.uword e.val fetch .fin .ok)

/-- U_JMP: Microword JMP continues at TARGET (R168). -/
def execUJmp (e : Fin 56) (fetch : Ecc) (tgt : BitVec 12) (s : State) : Host.Outcome State Fault Refusal :=
  .next (s.live fun s => s.uword e.val fetch (.jmp tgt.toNat) .ok)

/-- U_BR: Microword BR continues at TARGET if COND holds (R168). -/
def execUBr (e : Fin 56) (fetch : Ecc) (cond : BitVec 4) (tgt : BitVec 12) (s : State) : Host.Outcome State Fault Refusal :=
  .next (s.live fun s => s.uword e.val fetch (.br cond.toNat tgt.toNat) .ok)

/-- U_CALL: Microword CALL pushes the return address and branches, or raises LE_STACK_OVF (R169). -/
def execUCall (e : Fin 56) (fetch : Ecc) (tgt : BitVec 12) (s : State) : Host.Outcome State Fault Refusal :=
  .next (s.live fun s => s.uword e.val fetch (.call tgt.toNat) .ok)

/-- U_RET: Microword RET pops an address and continues there, or raises LE_STACK_UNF (R169). -/
def execURet (e : Fin 56) (fetch : Ecc) (s : State) : Host.Outcome State Fault Refusal :=
  .next (s.live fun s => s.uword e.val fetch .ret .ok)

/-- U_DBNZ: Microword DBNZ decrements D and branches if the result is not zero (R160). -/
def execUDbnz (e : Fin 56) (fetch : Ecc) (d : BitVec 4) (tgt : BitVec 12) (s : State) : Host.Outcome State Fault Refusal :=
  .next (s.live fun s => s.uword e.val fetch (.dbnz d.toNat tgt.toNat) .ok)

/-- U_FETCH: Microword FETCH requests the value of a crossbar slot (R162). -/
def execUFetch (e : Fin 56) (fetch : Ecc) (d : BitVec 4) (slot : BitVec 10) (s : State) : Host.Outcome State Fault Refusal :=
  .next (s.live fun s => s.uword e.val fetch (.fetch d.toNat slot.toNat) .ok)

/-- U_POST: Microword POST sends an edge post of PERIOD and edge values to a leg (R163). -/
def execUPost (e : Fin 56) (fetch : Ecc) (leg : BitVec 6) (vs : BitVec 4) (mask : BitVec 5) (s : State) : Host.Outcome State Fault Refusal :=
  .next (s.live fun s => s.uword e.val fetch (.post leg.toNat vs.toNat mask.toNat) .ok)

/-- U_SPOST: Microword SPOST sends a slope post of duty and slope to a leg (R183). -/
def execUSpost (e : Fin 56) (fetch : Ecc) (leg : BitVec 6) (vd : BitVec 4) (vsl : BitVec 4) (s : State) : Host.Outcome State Fault Refusal :=
  .next (s.live fun s => s.uword e.val fetch (.spost leg.toNat vd.toNat vsl.toNat) .ok)

/-- U_RAWCFG: Microword RAWCFG binds or unbinds a raw lane from a descriptor (R164). -/
def execURawcfg (e : Fin 56) (fetch : Ecc) (lane : BitVec 2) (n : BitVec 2) (off : BitVec 14) (ecc : Ecc) (s : State) : Host.Outcome State Fault Refusal :=
  .next (s.live fun s => s.uword e.val fetch (.rawcfg lane.toNat n.toNat off.toNat) ecc)

/-- U_RAWTH: Microword RAWTH sets a raw lane's thresholds (R135). -/
def execURawth (e : Fin 56) (fetch : Ecc) (lane : BitVec 2) (a : BitVec 4) (b : BitVec 4) (s : State) : Host.Outcome State Fault Refusal :=
  .next (s.live fun s => s.uword e.val fetch (.rawth lane.toNat a.toNat b.toNat) .ok)

/-- U_RAWRD: Microword RAWRD reads a raw lane's accumulator (R164). -/
def execURawrd (e : Fin 56) (fetch : Ecc) (d : BitVec 4) (lane : BitVec 2) (s : State) : Host.Outcome State Fault Refusal :=
  .next (s.live fun s => s.uword e.val fetch (.rawrd d.toNat lane.toNat) .ok)

/-- U_PRM: Microword PRM reads a parameter word of the running slot (R160). -/
def execUPrm (e : Fin 56) (fetch : Ecc) (d : BitVec 4) (idx : BitVec 6) (ecc : Ecc) (s : State) : Host.Outcome State Fault Refusal :=
  .next (s.live fun s => s.uword e.val fetch (.prm d.toNat idx.toNat) ecc)

/-- U_SIG: Microword SIG raises one of the engine's job-signal producers on Ground (R166). -/
def execUSig (e : Fin 56) (fetch : Ecc) (k : BitVec 2) (s : State) : Host.Outcome State Fault Refusal :=
  .next (s.live fun s => s.uword e.val fetch (.sig k.toNat) .ok)

/-- U_MOV: Microword MOV copies a value register (R160). -/
def execUMov (e : Fin 56) (fetch : Ecc) (d : BitVec 4) (a : BitVec 4) (s : State) : Host.Outcome State Fault Refusal :=
  .next (s.live fun s => s.uword e.val fetch (.mov d.toNat a.toNat) .ok)

/-- U_LDI: Microword LDI loads a sign-extended immediate (R160). -/
def execULdi (e : Fin 56) (fetch : Ecc) (d : BitVec 4) (imm : BitVec 22) (s : State) : Host.Outcome State Fault Refusal :=
  .next (s.live fun s => s.uword e.val fetch (.ldi d.toNat imm.toNat) .ok)

/-- U_LDIH: Microword LDIH sets bits [23:12] of D (R160). -/
def execULdih (e : Fin 56) (fetch : Ecc) (d : BitVec 4) (imm : BitVec 12) (s : State) : Host.Outcome State Fault Refusal :=
  .next (s.live fun s => s.uword e.val fetch (.ldih d.toNat imm.toNat) .ok)

/-- U_ADD: Microword ADD forms a saturating sum (R161). -/
def execUAdd (e : Fin 56) (fetch : Ecc) (d : BitVec 4) (a : BitVec 4) (b : BitVec 4) (s : State) : Host.Outcome State Fault Refusal :=
  .next (s.live fun s => s.uword e.val fetch (.add d.toNat a.toNat b.toNat) .ok)

/-- U_SUB: Microword SUB forms a saturating difference (R161). -/
def execUSub (e : Fin 56) (fetch : Ecc) (d : BitVec 4) (a : BitVec 4) (b : BitVec 4) (s : State) : Host.Outcome State Fault Refusal :=
  .next (s.live fun s => s.uword e.val fetch (.sub d.toNat a.toNat b.toNat) .ok)

/-- U_ADDI: Microword ADDI adds an immediate with saturation (R161). -/
def execUAddi (e : Fin 56) (fetch : Ecc) (d : BitVec 4) (a : BitVec 4) (imm : BitVec 14) (s : State) : Host.Outcome State Fault Refusal :=
  .next (s.live fun s => s.uword e.val fetch (.addi d.toNat a.toNat imm.toNat) .ok)

/-- U_ABS: Microword ABS takes a saturating absolute value (R161). -/
def execUAbs (e : Fin 56) (fetch : Ecc) (d : BitVec 4) (a : BitVec 4) (s : State) : Host.Outcome State Fault Refusal :=
  .next (s.live fun s => s.uword e.val fetch (.abs d.toNat a.toNat) .ok)

/-- U_MIN: Microword MIN takes the minimum of two values (R161). -/
def execUMin (e : Fin 56) (fetch : Ecc) (d : BitVec 4) (a : BitVec 4) (b : BitVec 4) (s : State) : Host.Outcome State Fault Refusal :=
  .next (s.live fun s => s.uword e.val fetch (.min d.toNat a.toNat b.toNat) .ok)

/-- U_MAX: Microword MAX takes the maximum of two values (R161). -/
def execUMax (e : Fin 56) (fetch : Ecc) (d : BitVec 4) (a : BitVec 4) (b : BitVec 4) (s : State) : Host.Outcome State Fault Refusal :=
  .next (s.live fun s => s.uword e.val fetch (.max d.toNat a.toNat b.toNat) .ok)

/-- U_CLAMP: Microword CLAMP clamps D between S1 and S2 (R161). -/
def execUClamp (e : Fin 56) (fetch : Ecc) (d : BitVec 4) (a : BitVec 4) (b : BitVec 4) (s : State) : Host.Outcome State Fault Refusal :=
  .next (s.live fun s => s.uword e.val fetch (.clamp d.toNat a.toNat b.toNat) .ok)

/-- U_AND: Microword AND forms a bitwise AND (R161). -/
def execUAnd (e : Fin 56) (fetch : Ecc) (d : BitVec 4) (a : BitVec 4) (b : BitVec 4) (s : State) : Host.Outcome State Fault Refusal :=
  .next (s.live fun s => s.uword e.val fetch (.and d.toNat a.toNat b.toNat) .ok)

/-- U_OR: Microword OR forms a bitwise OR (R161). -/
def execUOr (e : Fin 56) (fetch : Ecc) (d : BitVec 4) (a : BitVec 4) (b : BitVec 4) (s : State) : Host.Outcome State Fault Refusal :=
  .next (s.live fun s => s.uword e.val fetch (.or d.toNat a.toNat b.toNat) .ok)

/-- U_XOR: Microword XOR forms a bitwise XOR (R161). -/
def execUXor (e : Fin 56) (fetch : Ecc) (d : BitVec 4) (a : BitVec 4) (b : BitVec 4) (s : State) : Host.Outcome State Fault Refusal :=
  .next (s.live fun s => s.uword e.val fetch (.xor d.toNat a.toNat b.toNat) .ok)

/-- U_SHL: Microword SHL shifts left with saturation (R161). -/
def execUShl (e : Fin 56) (fetch : Ecc) (d : BitVec 4) (a : BitVec 4) (sh : BitVec 5) (s : State) : Host.Outcome State Fault Refusal :=
  .next (s.live fun s => s.uword e.val fetch (.shl d.toNat a.toNat sh.toNat) .ok)

/-- U_SHR: Microword SHR shifts right arithmetically (R161). -/
def execUShr (e : Fin 56) (fetch : Ecc) (d : BitVec 4) (a : BitVec 4) (sh : BitVec 5) (s : State) : Host.Outcome State Fault Refusal :=
  .next (s.live fun s => s.uword e.val fetch (.shr d.toNat a.toNat sh.toNat) .ok)

/-- U_CMP: Microword CMP sets Z and N from a comparison (R161). -/
def execUCmp (e : Fin 56) (fetch : Ecc) (a : BitVec 4) (b : BitVec 4) (s : State) : Host.Outcome State Fault Refusal :=
  .next (s.live fun s => s.uword e.val fetch (.cmp a.toNat b.toNat) .ok)

/-- U_MUL: Microword MUL loads an accumulator with a product (R158). -/
def execUMul (e : Fin 56) (fetch : Ecc) (k : BitVec 1) (a : BitVec 4) (b : BitVec 4) (s : State) : Host.Outcome State Fault Refusal :=
  .next (s.live fun s => s.uword e.val fetch (.mul k.toNat a.toNat b.toNat) .ok)

/-- U_MAC: Microword MAC adds a product to an accumulator with saturation (R158). -/
def execUMac (e : Fin 56) (fetch : Ecc) (k : BitVec 1) (a : BitVec 4) (b : BitVec 4) (s : State) : Host.Outcome State Fault Refusal :=
  .next (s.live fun s => s.uword e.val fetch (.mac k.toNat a.toNat b.toNat) .ok)

/-- U_MSU: Microword MSU subtracts a product from an accumulator with saturation (R158). -/
def execUMsu (e : Fin 56) (fetch : Ecc) (k : BitVec 1) (a : BitVec 4) (b : BitVec 4) (s : State) : Host.Outcome State Fault Refusal :=
  .next (s.live fun s => s.uword e.val fetch (.msu k.toNat a.toNat b.toNat) .ok)

/-- U_ACCLD: Microword ACCLD loads an accumulator with a shifted value (R158). -/
def execUAccld (e : Fin 56) (fetch : Ecc) (k : BitVec 1) (a : BitVec 4) (sh : BitVec 6) (s : State) : Host.Outcome State Fault Refusal :=
  .next (s.live fun s => s.uword e.val fetch (.accld k.toNat a.toNat sh.toNat) .ok)

/-- U_ACCADD: Microword ACCADD adds a shifted value to an accumulator (R158). -/
def execUAccadd (e : Fin 56) (fetch : Ecc) (k : BitVec 1) (a : BitVec 4) (sh : BitVec 6) (s : State) : Host.Outcome State Fault Refusal :=
  .next (s.live fun s => s.uword e.val fetch (.accadd k.toNat a.toNat sh.toNat) .ok)

/-- U_ACCSUM: Microword ACCSUM adds the other accumulator to A (R158). -/
def execUAccsum (e : Fin 56) (fetch : Ecc) (k : BitVec 1) (s : State) : Host.Outcome State Fault Refusal :=
  .next (s.live fun s => s.uword e.val fetch (.accsum k.toNat) .ok)

/-- U_ACCRD: Microword ACCRD reads a rounded, saturated, shifted accumulator value (R161). -/
def execUAccrd (e : Fin 56) (fetch : Ecc) (k : BitVec 1) (d : BitVec 4) (sh : BitVec 6) (s : State) : Host.Outcome State Fault Refusal :=
  .next (s.live fun s => s.uword e.val fetch (.accrd k.toNat d.toNat sh.toNat) .ok)

/-- U_ACCCLR: Microword ACCCLR clears an accumulator (R158). -/
def execUAccclr (e : Fin 56) (fetch : Ecc) (k : BitVec 1) (s : State) : Host.Outcome State Fault Refusal :=
  .next (s.live fun s => s.uword e.val fetch (.accclr k.toNat) .ok)

/-- U_ACCSV: Microword ACCSV stores an accumulator to two data words (R161). -/
def execUAccsv (e : Fin 56) (fetch : Ecc) (k : BitVec 1) (n : BitVec 2) (off : BitVec 14) (s : State) : Host.Outcome State Fault Refusal :=
  .next (s.live fun s => s.uword e.val fetch (.accsv k.toNat n.toNat off.toNat) .ok)

/-- U_ACCRS: Microword ACCRS restores an accumulator from two data words (R161). -/
def execUAccrs (e : Fin 56) (fetch : Ecc) (k : BitVec 1) (n : BitVec 2) (off : BitVec 14) (ecc : Ecc) (s : State) : Host.Outcome State Fault Refusal :=
  .next (s.live fun s => s.uword e.val fetch (.accrs k.toNat n.toNat off.toNat) ecc)

/-- U_LD: Microword LD loads a data-memory word (R153). -/
def execULd (e : Fin 56) (fetch : Ecc) (d : BitVec 4) (n : BitVec 2) (off : BitVec 14) (ecc : Ecc) (s : State) : Host.Outcome State Fault Refusal :=
  .next (s.live fun s => s.uword e.val fetch (.ld d.toNat n.toNat off.toNat) ecc)

/-- U_ST: Microword ST stores a sign-extended value to data memory, except in the parameter area (R153). -/
def execUSt (e : Fin 56) (fetch : Ecc) (a : BitVec 4) (n : BitVec 2) (off : BitVec 14) (s : State) : Host.Outcome State Fault Refusal :=
  .next (s.live fun s => s.uword e.val fetch (.st a.toNat n.toNat off.toNat) .ok)

/-- U_LDA: Microword LDA loads an address register (R160). -/
def execULda (e : Fin 56) (fetch : Ecc) (n : BitVec 2) (off : BitVec 14) (s : State) : Host.Outcome State Fault Refusal :=
  .next (s.live fun s => s.uword e.val fetch (.lda n.toNat off.toNat) .ok)

/-- U_ADDA: Microword ADDA adds an immediate to an address register (R160). -/
def execUAdda (e : Fin 56) (fetch : Ecc) (n : BitVec 2) (off : BitVec 14) (s : State) : Host.Outcome State Fault Refusal :=
  .next (s.live fun s => s.uword e.val fetch (.adda n.toNat off.toNat) .ok)

/-- U_TLU: Microword TLU interpolates its input through a table (R165). -/
def execUTlu (e : Fin 56) (fetch : Ecc) (d : BitVec 4) (a : BitVec 4) (n : BitVec 2) (off : BitVec 14) (ecc : Ecc) (s : State) : Host.Outcome State Fault Refusal :=
  .next (s.live fun s => s.uword e.val fetch (.tlu d.toNat a.toNat n.toNat off.toNat) ecc)

/-- U_MOVS: Microword MOVS reads a status word (R161). -/
def execUMovs (e : Fin 56) (fetch : Ecc) (d : BitVec 4) (sel : BitVec 2) (s : State) : Host.Outcome State Fault Refusal :=
  .next (s.live fun s => s.uword e.val fetch (.movs d.toNat sel.toNat) .ok)

end Sys2Proof.Machine
end

