-- ==== Sys2Proof/Machine/CmdLegs.lean ====
section
/-!
DEFINITION. Edge generators (spec/07) and the pad cut-off of spec/24: the meaning of each command. Commands act only while the device is powered (R451, R455), but for those
of the supply itself.
-/
namespace Sys2Proof.Machine
open F

/-- EDGE_EVENT: A leg's edge time arrives and the output turns off, with dead time before the other side turns on (R178). -/
def execEdgeEvent (k : Fin 48) (s : State) : Host.Outcome State Fault Refusal :=
  .next (s.live fun s => s.edgeEvent k.val)

/-- DEAD_TIME_END: The dead time after a turn-off expires and the other output turns on (R178). -/
def execDeadTimeEnd (k : Fin 48) (s : State) : Host.Outcome State Fault Refusal :=
  .next (s.live fun s => s.deadEnd k.val)

/-- PERIOD_END: A leg's period ends, the next begins, and the period-start producer is raised (R176). -/
def execPeriodEnd (k : Fin 48) (s : State) : Host.Outcome State Fault Refusal :=
  .next (s.live fun s => s.periodEnd k.val)

/-- MAXON_EXPIRY: An on-time reaches MAXON and ends (R180). -/
def execMaxonExpiry (k : Fin 48) (s : State) : Host.Outcome State Fault Refusal :=
  .next (s.live fun s => s.maxOn k.val)

/-- LEG_ENABLE: The ENABLE bit of Ln_CMD moves a leg from SAFE to ACTIVE, or is refused with a CMDERR reason (R189). -/
def execLegEnable (k : Fin 48) (s : State) : Host.Outcome State Fault Refusal :=
  .next (s.live fun s => s.legCommand k.val 1)

/-- LEG_STOP: The STOP bit of Ln_CMD stops the leg by its stop rule (R188). -/
def execLegStop (k : Fin 48) (s : State) : Host.Outcome State Fault Refusal :=
  .next (s.live fun s => s.legCommand k.val 2)

/-- STOPNOW: The STOPNOW bit of Ln_CMD stops the leg by rule 0 (R188). -/
def execStopnow (k : Fin 48) (s : State) : Host.Outcome State Fault Refusal :=
  .next (s.live fun s => s.legCommand k.val 4)

/-- CLRCLAMP: The CLRCLAMP bit of Ln_CMD releases clamped outputs (R197). -/
def execClrclamp (k : Fin 48) (s : State) : Host.Outcome State Fault Refusal :=
  .next (s.live fun s => s.legCommand k.val 8)

/-- STOP_RULE_MET: The condition of a stop rule is met, so the outputs go to their safe values and the leg enters SAFE (R187). -/
def execStopRuleMet (k : Fin 48) (s : State) : Host.Outcome State Fault Refusal :=
  .next (s.live fun s => s.stopMet k.val)

/-- EDGE_READBACK: The readback of an output transition is judged, and may raise EO_LATE or EO_MISSING (R191). -/
def execEdgeReadback (k : Fin 48) (dev : Option Int) (s : State) : Host.Outcome State Fault Refusal :=
  .next (s.live fun s => s.readback k.val dev)

/-- THERMAL_CUTOFF: A group's pad sensor passes 160 °C, so the tile's legs stop and its outputs go to high impedance (R193). -/
def execThermalCutoff (t : Fin 8) (s : State) : Host.Outcome State Fault Refusal :=
  .next (s.live fun s => s.cutoff t.val)

/-- CUTOFF_RELEASE: The group's pad sensor falls below 140 °C, and the cut-off releases (R530). -/
def execCutoffRelease (t : Fin 8) (s : State) : Host.Outcome State Fault Refusal :=
  .next (s.live fun s => s.cutRelease t.val)

/-- LISTEN_START: SETTLE FAB cycles after a falling transition, the output begins to listen (R194). -/
def execListenStart (k : Fin 48) (out : Fin 2) (s : State) : Host.Outcome State Fault Refusal :=
  .next (s.live fun s => s.listenStart k.val out.val)

/-- OTR_FAULT: A listening output reads low for LOWFILT cycles, which raises OTR_FAULT and its Springbok source (R199). -/
def execOtrFault (k : Fin 48) (out : Fin 2) (s : State) : Host.Outcome State Fault Refusal :=
  .next (s.live fun s => s.otrFault k.val out.val)

/-- OTR_CLAMP: A listening line rises above V_CL and the output is driven hard low (R197). -/
def execOtrClamp (k : Fin 48) (out : Fin 2) (s : State) : Host.Outcome State Fault Refusal :=
  .next (s.live fun s => s.otrClamp k.val out.val)

/-- OTR_BLOCK_CLASSIFIED: A 4 µs listening block completes and sets the output's class (R200). -/
def execOtrBlockClassified (k : Fin 48) (out : Fin 2) (runs : List (Bool × Nat)) (s : State) : Host.Outcome State Fault Refusal :=
  .next (s.live fun s => s.otrBlock k.val out.val runs)

end Sys2Proof.Machine
end

