-- ==== Sys2Proof/Machine/CmdGround.lean ====
section
/-!
DEFINITION. Pillow, Ground and Springbok (spec/09, spec/10, spec/11): the meaning of each command. Commands act only while the device is powered (R451, R455), but for those
of the supply itself.
-/
namespace Sys2Proof.Machine
open F

/-- PILLOW_RUN: Pillow runs a placement or re-placement for its occasion once any run in progress ends (R217). -/
def execPillowRun (s : State) : Host.Outcome State Fault Refusal :=
  .next (s.live fun s => s.pillowRun)

/-- BANKCLR: The BANKCLR bit of PLW_CTL clears the bank access and conflict counters (R241). -/
def execBankclr (s : State) : Host.Outcome State Fault Refusal :=
  .next (s.live fun s => s.wrs 0 [(PLW_BANKACC_COUNT, 0), (PLW_BANKCONF_COUNT, 0)])

/-- EVENT_DELIVER: An event leaves its last hop and reaches its consumer, subject to the storm counter (R246). -/
def execEventDeliver (ec : Fin 1024) (s : State) : Host.Outcome State Fault Refusal :=
  .next (s.live fun s => s.deliver ec.val)

/-- PICOT_FILTER_EXPIRY: The glitch-filter count of a registered picot completes, so QF changes and publishes (R250). -/
def execPicotFilterExpiry (p : Fin 256) (s : State) : Host.Outcome State Fault Refusal :=
  .next (s.live fun s => s.picotExpiry p.val)

/-- CORE_EVENT_ARRIVAL: An event arrives at a core event input after its crossing and adds to the pending count (R255). -/
def execCoreEventArrival (c : Fin 16) (i : Fin 8) (s : State) : Host.Outcome State Fault Refusal :=
  .next (s.live fun s => s.needCluster fun s => s.coreArrive c.val i.val)

/-- MUTE: The MUTE bit of ECn_CTL mutes the channel (R253). -/
def execMute (ec : Fin 1024) (s : State) : Host.Outcome State Fault Refusal :=
  .next (s.live fun s => s.ecCtl ec.val (4 * s.rd EC_CTL_LOG ec.val + 2))

/-- UNMUTE: The UNMUTE bit of ECn_CTL unmutes the channel and resets its window count (R253). -/
def execUnmute (ec : Fin 1024) (s : State) : Host.Outcome State Fault Refusal :=
  .next (s.live fun s => s.ecCtl ec.val (4 * s.rd EC_CTL_LOG ec.val + 1))

/-- TRIP_SOURCE_ASSERT: A mapped source asserts and trips its legs through the asynchronous latch and output gating (R267). -/
def execTripSourceAssert (n : Fin 224) (s : State) : Host.Outcome State Fault Refusal :=
  .next (s.live fun s => s.tripAssert n.val)

/-- LATCH_SEEN: The device first sees a latch set in FAB, records the cause and time, and raises SPR_TRIP (R271). -/
def execLatchSeen (k : Fin 48) (s : State) : Host.Outcome State Fault Refusal :=
  .next (s.live fun s => s.latchSeen k.val)

/-- LEG_RELEASE: The GO bit of SPR_REL from a core attempts to release a leg's latch (R274). -/
def execLegRelease (c : Fin 16) (k : Fin 48) (s : State) : Host.Outcome State Fault Refusal :=
  .next (s.live fun s => s.legRelease c.val k.val)

end Sys2Proof.Machine
end

