-- ==== Sys2Proof/Machine/CmdTimers.lean ====
section
/-!
DEFINITION. General timers and device time (spec/12): the meaning of each command. Commands act only while the device is powered (R451, R455), but for those
of the supply itself.
-/
namespace Sys2Proof.Machine
open F

/-- GT_ARM: The ARM bit of GTn_CMD arms a timer (R281). -/
def execGtArm (n : Fin 64) (s : State) : Host.Outcome State Fault Refusal :=
  .next (s.live fun s => s.gtArm n.val)

/-- TG_ARM: A TGg_ARM write arms the timers whose bits are set, on the same source edge (R282). -/
def execTgArm (g : Fin 4) (mask : BitVec 16) (s : State) : Host.Outcome State Fault Refusal :=
  .next (s.live fun s => s.tgArm g.val mask.toNat)

/-- ARM_TAKES_EFFECT: At the source edge that ends the third source cycle, the ARM clears COUNT and ACC and puts the timer in RUN (R282). -/
def execArmTakesEffect (n : Fin 64) (s : State) : Host.Outcome State Fault Refusal :=
  .next (s.live fun s => s.armEffect n.val)

/-- COMPARE_MATCH: A count edge brings COUNT to or above CMP, which sets MATCH and raises the producer (R286). -/
def execCompareMatch (n : Fin 64) (s : State) : Host.Outcome State Fault Refusal :=
  .next (s.live fun s => s.compareMatch n.val)

/-- END_OF_COUNT: A count edge brings COUNT to or above END, and the timer enters DONE (R281). -/
def execEndOfCount (n : Fin 64) (s : State) : Host.Outcome State Fault Refusal :=
  .next (s.live fun s => s.endOfCount n.val)

/-- CMP_LO_WRITE: A GTn_CMP_LO write stores the low half in the writer's buffer (R285). -/
def execCmpLoWrite (ini : Initiator) (n : Fin 64) (w : BitVec 32) (s : State) : Host.Outcome State Fault Refusal :=
  .next (s.live fun s => s.cmpLo (initNum ini) n.val w.toNat)

/-- CMP_HI_WRITE: A GTn_CMP_HI write commits CMP and arms the compare (R285). -/
def execCmpHiWrite (ini : Initiator) (n : Fin 64) (w : BitVec 32) (s : State) : Host.Outcome State Fault Refusal :=
  .next (s.live fun s => s.cmpHi (initNum ini) n.val w.toNat)

/-- END_LO_WRITE: A GTn_END_LO write stores the low half in the writer's buffer (R285). -/
def execEndLoWrite (ini : Initiator) (n : Fin 64) (w : BitVec 32) (s : State) : Host.Outcome State Fault Refusal :=
  .next (s.live fun s => s.endLo (initNum ini) n.val w.toNat)

/-- END_HI_WRITE: A GTn_END_HI write commits END (R285). -/
def execEndHiWrite (ini : Initiator) (n : Fin 64) (w : BitVec 32) (s : State) : Host.Outcome State Fault Refusal :=
  .next (s.live fun s => s.endHi (initNum ini) n.val w.toNat)

/-- TIMER_CAPTURE: A capture event writes COUNT into CAP and sets PEND, or sets OVR (R289). -/
def execTimerCapture (n : Fin 64) (s : State) : Host.Outcome State Fault Refusal :=
  .next (s.live fun s => s.timerCapture n.val)

/-- CAP_LO_READ: A GTn_CAP_LO read returns CAP[31:0], latches the upper half and clears PEND (R290). -/
def execCapLoRead (ini : Initiator) (n : Fin 64) (s : State) : Host.Outcome State Fault Refusal :=
  .next (s.live fun s => answer (s.capLoRead (initNum ini) n.val))

/-- COUNT_LO_READ: A GTn_COUNT_LO read latches the upper half into the reader's shadow (R292). -/
def execCountLoRead (ini : Initiator) (n : Fin 64) (s : State) : Host.Outcome State Fault Refusal :=
  .next (s.live fun s => answer (s.countLoRead (initNum ini) n.val))

/-- DTIME_LO_READ: A TG0_DTIME_LO read latches the upper half of device time into the reader's shadow (R292). -/
def execDtimeLoRead (ini : Initiator) (s : State) : Host.Outcome State Fault Refusal :=
  .next (s.live fun s => answer (s.dtimeLoRead (initNum ini)))

/-- SHADOW_HI_READ: A HI read within 16 bus cycles returns the shadow and releases it (R292). -/
def execShadowHiRead (ini : Initiator) (reg : Fin 129) (s : State) : Host.Outcome State Fault Refusal :=
  .next (s.live fun s => answer (s.hiRead (initNum ini) reg.val))

/-- SHADOW_EXPIRY: 16 bus cycles after a LO read, the reader's shadow is released (R292). -/
def execShadowExpiry (ini : Initiator) (s : State) : Host.Outcome State Fault Refusal :=
  .next (s.live fun s => s.shadowExpiry (initNum ini))

/-- TPIN_EDGE: A qualified rising edge on a timer pin is counted, or a short pulse raises TPIN_SHORT (R279). -/
def execTpinEdge (m : Fin 16) (short : Bool) (s : State) : Host.Outcome State Fault Refusal :=
  .next (s.live fun s => s.tpinEdge m.val short)

end Sys2Proof.Machine
end

