-- ==== Sys2Proof/Machine/CmdCores.lean ====
section
/-!
DEFINITION. Core instructions, waits and interrupts (spec/13, spec/14): the meaning of each command. Commands act only while the device is powered (R451, R455), but for those
of the supply itself.
-/
namespace Sys2Proof.Machine
open F

/-- NOP: Core instruction NOP does nothing (R318). -/
def execNop (c : Fin 16) (pre : List (Fin 16)) (s : State) : Host.Outcome State Fault Refusal :=
  .next (s.live fun s => s.iNop c.val pre)

/-- ADD: Core instruction ADD adds two registers (R318). -/
def execAdd (c : Fin 16) (pre : List (Fin 16)) (w : BitVec 16) (s : State) : Host.Outcome State Fault Refusal :=
  .next (s.live fun s => s.iAdd c.val pre w.toNat)

/-- SUB: Core instruction SUB subtracts two registers (R318). -/
def execSub (c : Fin 16) (pre : List (Fin 16)) (w : BitVec 16) (s : State) : Host.Outcome State Fault Refusal :=
  .next (s.live fun s => s.iSub c.val pre w.toNat)

/-- AND: Core instruction AND forms a bitwise AND (R318). -/
def execAnd (c : Fin 16) (pre : List (Fin 16)) (w : BitVec 16) (s : State) : Host.Outcome State Fault Refusal :=
  .next (s.live fun s => s.iAnd c.val pre w.toNat)

/-- OR: Core instruction OR forms a bitwise OR (R318). -/
def execOr (c : Fin 16) (pre : List (Fin 16)) (w : BitVec 16) (s : State) : Host.Outcome State Fault Refusal :=
  .next (s.live fun s => s.iOr c.val pre w.toNat)

/-- XOR: Core instruction XOR forms a bitwise XOR (R318). -/
def execXor (c : Fin 16) (pre : List (Fin 16)) (w : BitVec 16) (s : State) : Host.Outcome State Fault Refusal :=
  .next (s.live fun s => s.iXor c.val pre w.toNat)

/-- SLL: Core instruction SLL shifts left by a register (R318). -/
def execSll (c : Fin 16) (pre : List (Fin 16)) (w : BitVec 16) (s : State) : Host.Outcome State Fault Refusal :=
  .next (s.live fun s => s.iSll c.val pre w.toNat)

/-- SRL: Core instruction SRL shifts right logically by a register (R318). -/
def execSrl (c : Fin 16) (pre : List (Fin 16)) (w : BitVec 16) (s : State) : Host.Outcome State Fault Refusal :=
  .next (s.live fun s => s.iSrl c.val pre w.toNat)

/-- SRA: Core instruction SRA shifts right arithmetically by a register (R318). -/
def execSra (c : Fin 16) (pre : List (Fin 16)) (w : BitVec 16) (s : State) : Host.Outcome State Fault Refusal :=
  .next (s.live fun s => s.iSra c.val pre w.toNat)

/-- SLT: Core instruction SLT sets rd on a signed less-than (R318). -/
def execSlt (c : Fin 16) (pre : List (Fin 16)) (w : BitVec 16) (s : State) : Host.Outcome State Fault Refusal :=
  .next (s.live fun s => s.iSlt c.val pre w.toNat)

/-- SLTU: Core instruction SLTU sets rd on an unsigned less-than (R318). -/
def execSltu (c : Fin 16) (pre : List (Fin 16)) (w : BitVec 16) (s : State) : Host.Outcome State Fault Refusal :=
  .next (s.live fun s => s.iSltu c.val pre w.toNat)

/-- MIN: Core instruction MIN takes a signed minimum (R318). -/
def execMin (c : Fin 16) (pre : List (Fin 16)) (w : BitVec 16) (s : State) : Host.Outcome State Fault Refusal :=
  .next (s.live fun s => s.iMin c.val pre w.toNat)

/-- MAX: Core instruction MAX takes a signed maximum (R318). -/
def execMax (c : Fin 16) (pre : List (Fin 16)) (w : BitVec 16) (s : State) : Host.Outcome State Fault Refusal :=
  .next (s.live fun s => s.iMax c.val pre w.toNat)

/-- MINU: Core instruction MINU takes an unsigned minimum (R318). -/
def execMinu (c : Fin 16) (pre : List (Fin 16)) (w : BitVec 16) (s : State) : Host.Outcome State Fault Refusal :=
  .next (s.live fun s => s.iMinu c.val pre w.toNat)

/-- MAXU: Core instruction MAXU takes an unsigned maximum (R318). -/
def execMaxu (c : Fin 16) (pre : List (Fin 16)) (w : BitVec 16) (s : State) : Host.Outcome State Fault Refusal :=
  .next (s.live fun s => s.iMaxu c.val pre w.toNat)

/-- MUL: Core instruction MUL gives the low 32 bits of a product (R318). -/
def execMul (c : Fin 16) (pre : List (Fin 16)) (w : BitVec 16) (s : State) : Host.Outcome State Fault Refusal :=
  .next (s.live fun s => s.iMul c.val pre w.toNat)

/-- MULH: Core instruction MULH gives the high 32 bits of a signed product (R318). -/
def execMulh (c : Fin 16) (pre : List (Fin 16)) (w : BitVec 16) (s : State) : Host.Outcome State Fault Refusal :=
  .next (s.live fun s => s.iMulh c.val pre w.toNat)

/-- MULHU: Core instruction MULHU gives the high 32 bits of an unsigned product (R318). -/
def execMulhu (c : Fin 16) (pre : List (Fin 16)) (w : BitVec 16) (s : State) : Host.Outcome State Fault Refusal :=
  .next (s.live fun s => s.iMulhu c.val pre w.toNat)

/-- DIV: Core instruction DIV gives a signed quotient (R308). -/
def execDiv (c : Fin 16) (pre : List (Fin 16)) (w : BitVec 16) (s : State) : Host.Outcome State Fault Refusal :=
  .next (s.live fun s => s.iDiv c.val pre w.toNat)

/-- DIVU: Core instruction DIVU gives an unsigned quotient (R308). -/
def execDivu (c : Fin 16) (pre : List (Fin 16)) (w : BitVec 16) (s : State) : Host.Outcome State Fault Refusal :=
  .next (s.live fun s => s.iDivu c.val pre w.toNat)

/-- REM: Core instruction REM gives a signed remainder (R308). -/
def execRem (c : Fin 16) (pre : List (Fin 16)) (w : BitVec 16) (s : State) : Host.Outcome State Fault Refusal :=
  .next (s.live fun s => s.iRem c.val pre w.toNat)

/-- REMU: Core instruction REMU gives an unsigned remainder (R308). -/
def execRemu (c : Fin 16) (pre : List (Fin 16)) (w : BitVec 16) (s : State) : Host.Outcome State Fault Refusal :=
  .next (s.live fun s => s.iRemu c.val pre w.toNat)

/-- ADDI: Core instruction ADDI adds an immediate (R318). -/
def execAddi (c : Fin 16) (pre : List (Fin 16)) (w : BitVec 16) (imm : BitVec 32) (s : State) : Host.Outcome State Fault Refusal :=
  .next (s.live fun s => s.iAddi c.val pre w.toNat imm.toNat)

/-- ANDI: Core instruction ANDI ANDs a zero-extended immediate (R318). -/
def execAndi (c : Fin 16) (pre : List (Fin 16)) (w : BitVec 16) (imm : BitVec 32) (s : State) : Host.Outcome State Fault Refusal :=
  .next (s.live fun s => s.iAndi c.val pre w.toNat imm.toNat)

/-- ORI: Core instruction ORI ORs a zero-extended immediate (R318). -/
def execOri (c : Fin 16) (pre : List (Fin 16)) (w : BitVec 16) (imm : BitVec 32) (s : State) : Host.Outcome State Fault Refusal :=
  .next (s.live fun s => s.iOri c.val pre w.toNat imm.toNat)

/-- XORI: Core instruction XORI XORs a zero-extended immediate (R318). -/
def execXori (c : Fin 16) (pre : List (Fin 16)) (w : BitVec 16) (imm : BitVec 32) (s : State) : Host.Outcome State Fault Refusal :=
  .next (s.live fun s => s.iXori c.val pre w.toNat imm.toNat)

/-- SLLI: Core instruction SLLI shifts left by an immediate (R318). -/
def execSlli (c : Fin 16) (pre : List (Fin 16)) (w : BitVec 16) (imm : BitVec 32) (s : State) : Host.Outcome State Fault Refusal :=
  .next (s.live fun s => s.iSlli c.val pre w.toNat imm.toNat)

/-- SRLI: Core instruction SRLI shifts right logically by an immediate (R318). -/
def execSrli (c : Fin 16) (pre : List (Fin 16)) (w : BitVec 16) (imm : BitVec 32) (s : State) : Host.Outcome State Fault Refusal :=
  .next (s.live fun s => s.iSrli c.val pre w.toNat imm.toNat)

/-- SRAI: Core instruction SRAI shifts right arithmetically by an immediate (R318). -/
def execSrai (c : Fin 16) (pre : List (Fin 16)) (w : BitVec 16) (imm : BitVec 32) (s : State) : Host.Outcome State Fault Refusal :=
  .next (s.live fun s => s.iSrai c.val pre w.toNat imm.toNat)

/-- SLTI: Core instruction SLTI sets rd on a signed less-than against an immediate (R318). -/
def execSlti (c : Fin 16) (pre : List (Fin 16)) (w : BitVec 16) (imm : BitVec 32) (s : State) : Host.Outcome State Fault Refusal :=
  .next (s.live fun s => s.iSlti c.val pre w.toNat imm.toNat)

/-- SLTIU: Core instruction SLTIU sets rd on an unsigned less-than against an immediate (R318). -/
def execSltiu (c : Fin 16) (pre : List (Fin 16)) (w : BitVec 16) (imm : BitVec 32) (s : State) : Host.Outcome State Fault Refusal :=
  .next (s.live fun s => s.iSltiu c.val pre w.toNat imm.toNat)

/-- LB: Core instruction LB loads a sign-extended byte, written after its slot (R306). -/
def execLb (c : Fin 16) (pre : List (Fin 16)) (w : BitVec 16) (off : BitVec 32) (ecc : Ecc) (s : State) : Host.Outcome State Fault Refusal :=
  .next (s.live fun s => s.iLb c.val pre w.toNat off.toNat ecc)

/-- LBU: Core instruction LBU loads a zero-extended byte (R306). -/
def execLbu (c : Fin 16) (pre : List (Fin 16)) (w : BitVec 16) (off : BitVec 32) (ecc : Ecc) (s : State) : Host.Outcome State Fault Refusal :=
  .next (s.live fun s => s.iLbu c.val pre w.toNat off.toNat ecc)

/-- LH: Core instruction LH loads a sign-extended halfword (R306). -/
def execLh (c : Fin 16) (pre : List (Fin 16)) (w : BitVec 16) (off : BitVec 32) (ecc : Ecc) (s : State) : Host.Outcome State Fault Refusal :=
  .next (s.live fun s => s.iLh c.val pre w.toNat off.toNat ecc)

/-- LHU: Core instruction LHU loads a zero-extended halfword (R306). -/
def execLhu (c : Fin 16) (pre : List (Fin 16)) (w : BitVec 16) (off : BitVec 32) (ecc : Ecc) (s : State) : Host.Outcome State Fault Refusal :=
  .next (s.live fun s => s.iLhu c.val pre w.toNat off.toNat ecc)

/-- LW: Core instruction LW loads a word (R306). -/
def execLw (c : Fin 16) (pre : List (Fin 16)) (w : BitVec 16) (off : BitVec 32) (ecc : Ecc) (s : State) : Host.Outcome State Fault Refusal :=
  .next (s.live fun s => s.iLw c.val pre w.toNat off.toNat ecc)

/-- SB: Core instruction SB stores a byte (R307). -/
def execSb (c : Fin 16) (pre : List (Fin 16)) (w : BitVec 16) (off : BitVec 32) (s : State) : Host.Outcome State Fault Refusal :=
  .next (s.live fun s => (s.iSb c.val pre w.toNat off.toNat).steps)

/-- SH: Core instruction SH stores a halfword (R307). -/
def execSh (c : Fin 16) (pre : List (Fin 16)) (w : BitVec 16) (off : BitVec 32) (s : State) : Host.Outcome State Fault Refusal :=
  .next (s.live fun s => (s.iSh c.val pre w.toNat off.toNat).steps)

/-- SW: Core instruction SW stores a word (R307). -/
def execSw (c : Fin 16) (pre : List (Fin 16)) (w : BitVec 16) (off : BitVec 32) (s : State) : Host.Outcome State Fault Refusal :=
  .next (s.live fun s => (s.iSw c.val pre w.toNat off.toNat).steps)

/-- STI: Core instruction STI stores an immediate word (R318). -/
def execSti (c : Fin 16) (pre : List (Fin 16)) (w : BitVec 16) (off : BitVec 32) (data : BitVec 32) (s : State) : Host.Outcome State Fault Refusal :=
  .next (s.live fun s => (s.iSti c.val pre w.toNat off.toNat data.toNat).steps)

/-- BR: Core instruction BR branches if its condition holds (R310). -/
def execBr (c : Fin 16) (pre : List (Fin 16)) (w : BitVec 16) (off : BitVec 32) (s : State) : Host.Outcome State Fault Refusal :=
  .next (s.live fun s => s.iBr c.val pre w.toNat off.toNat)

/-- J: Core instruction J jumps to a relative target (R310). -/
def execJ (c : Fin 16) (pre : List (Fin 16)) (off : BitVec 24) (s : State) : Host.Outcome State Fault Refusal :=
  .next (s.live fun s => s.iJ c.val pre off.toNat)

/-- JAL: Core instruction JAL jumps and links in gr31 (R310). -/
def execJal (c : Fin 16) (pre : List (Fin 16)) (off : BitVec 24) (s : State) : Host.Outcome State Fault Refusal :=
  .next (s.live fun s => s.iJal c.val pre off.toNat)

/-- JR: Core instruction JR jumps to a register address (R328). -/
def execJr (c : Fin 16) (pre : List (Fin 16)) (w : BitVec 16) (s : State) : Host.Outcome State Fault Refusal :=
  .next (s.live fun s => s.iJr c.val pre w.toNat)

/-- JALR: Core instruction JALR jumps to a register address and links (R328). -/
def execJalr (c : Fin 16) (pre : List (Fin 16)) (w : BitVec 16) (s : State) : Host.Outcome State Fault Refusal :=
  .next (s.live fun s => s.iJalr c.val pre w.toNat)

/-- FADD: Core instruction FADD adds two FP32 values (R309). -/
def execFadd (c : Fin 16) (pre : List (Fin 16)) (w : BitVec 16) (s : State) : Host.Outcome State Fault Refusal :=
  .next (s.live fun s => s.iFadd c.val pre w.toNat)

/-- FSUB: Core instruction FSUB subtracts two FP32 values (R309). -/
def execFsub (c : Fin 16) (pre : List (Fin 16)) (w : BitVec 16) (s : State) : Host.Outcome State Fault Refusal :=
  .next (s.live fun s => s.iFsub c.val pre w.toNat)

/-- FMUL: Core instruction FMUL multiplies two FP32 values (R309). -/
def execFmul (c : Fin 16) (pre : List (Fin 16)) (w : BitVec 16) (s : State) : Host.Outcome State Fault Refusal :=
  .next (s.live fun s => s.iFmul c.val pre w.toNat)

/-- FDIV: Core instruction FDIV divides two FP32 values (R309). -/
def execFdiv (c : Fin 16) (pre : List (Fin 16)) (w : BitVec 16) (s : State) : Host.Outcome State Fault Refusal :=
  .next (s.live fun s => s.iFdiv c.val pre w.toNat)

/-- FSQRT: Core instruction FSQRT takes an FP32 square root (R309). -/
def execFsqrt (c : Fin 16) (pre : List (Fin 16)) (w : BitVec 16) (s : State) : Host.Outcome State Fault Refusal :=
  .next (s.live fun s => s.iFsqrt c.val pre w.toNat)

/-- FMADD: Core instruction FMADD performs a fused multiply-add (R309). -/
def execFmadd (c : Fin 16) (pre : List (Fin 16)) (w : BitVec 16) (s : State) : Host.Outcome State Fault Refusal :=
  .next (s.live fun s => s.iFmadd c.val pre w.toNat)

/-- FMIN: Core instruction FMIN takes an FP32 minimum (R309). -/
def execFmin (c : Fin 16) (pre : List (Fin 16)) (w : BitVec 16) (s : State) : Host.Outcome State Fault Refusal :=
  .next (s.live fun s => s.iFmin c.val pre w.toNat)

/-- FMAX: Core instruction FMAX takes an FP32 maximum (R309). -/
def execFmax (c : Fin 16) (pre : List (Fin 16)) (w : BitVec 16) (s : State) : Host.Outcome State Fault Refusal :=
  .next (s.live fun s => s.iFmax c.val pre w.toNat)

/-- FEQ: Core instruction FEQ compares two FP32 values for equality (R309). -/
def execFeq (c : Fin 16) (pre : List (Fin 16)) (w : BitVec 16) (s : State) : Host.Outcome State Fault Refusal :=
  .next (s.live fun s => s.iFeq c.val pre w.toNat)

/-- FLT: Core instruction FLT compares two FP32 values for less-than (R309). -/
def execFlt (c : Fin 16) (pre : List (Fin 16)) (w : BitVec 16) (s : State) : Host.Outcome State Fault Refusal :=
  .next (s.live fun s => s.iFlt c.val pre w.toNat)

/-- FLE: Core instruction FLE compares two FP32 values for less-than-or-equal (R309). -/
def execFle (c : Fin 16) (pre : List (Fin 16)) (w : BitVec 16) (s : State) : Host.Outcome State Fault Refusal :=
  .next (s.live fun s => s.iFle c.val pre w.toNat)

/-- FCVT_W_S: Core instruction FCVT.W.S converts a float to a signed integer (R309). -/
def execFcvtWS (c : Fin 16) (pre : List (Fin 16)) (w : BitVec 16) (s : State) : Host.Outcome State Fault Refusal :=
  .next (s.live fun s => s.iFcvtWS c.val pre w.toNat)

/-- FCVT_WU_S: Core instruction FCVT.WU.S converts a float to an unsigned integer (R309). -/
def execFcvtWuS (c : Fin 16) (pre : List (Fin 16)) (w : BitVec 16) (s : State) : Host.Outcome State Fault Refusal :=
  .next (s.live fun s => s.iFcvtWuS c.val pre w.toNat)

/-- FCVT_S_W: Core instruction FCVT.S.W converts a signed integer to a float (R309). -/
def execFcvtSW (c : Fin 16) (pre : List (Fin 16)) (w : BitVec 16) (s : State) : Host.Outcome State Fault Refusal :=
  .next (s.live fun s => s.iFcvtSW c.val pre w.toNat)

/-- FCVT_S_WU: Core instruction FCVT.S.WU converts an unsigned integer to a float (R309). -/
def execFcvtSWu (c : Fin 16) (pre : List (Fin 16)) (w : BitVec 16) (s : State) : Host.Outcome State Fault Refusal :=
  .next (s.live fun s => s.iFcvtSWu c.val pre w.toNat)

/-- MFSR: Core instruction MFSR reads a special register, latching the shadow for a LO counter (R319). -/
def execMfsr (c : Fin 16) (pre : List (Fin 16)) (w : BitVec 16) (s : State) : Host.Outcome State Fault Refusal :=
  .next (s.live fun s => s.iMfsr c.val pre w.toNat)

/-- MTSR: Core instruction MTSR writes a special register (R319). -/
def execMtsr (c : Fin 16) (pre : List (Fin 16)) (w : BitVec 16) (s : State) : Host.Outcome State Fault Refusal :=
  .next (s.live fun s => s.iMtsr c.val pre w.toNat)

/-- SEV: Core instruction SEV publishes on a channel after the warrant and producer checks (R312). -/
def execSev (c : Fin 16) (pre : List (Fin 16)) (w : BitVec 16) (s : State) : Host.Outcome State Fault Refusal :=
  .next (s.live fun s => s.iSev c.val pre w.toNat)

/-- SEVR: Core instruction SEVR publishes on the channel in rs1 (R312). -/
def execSevr (c : Fin 16) (pre : List (Fin 16)) (w : BitVec 16) (s : State) : Host.Outcome State Fault Refusal :=
  .next (s.live fun s => s.iSevr c.val pre w.toNat)

/-- WFE: Core instruction WFE consumes a pending event of its mask, or begins to wait (R313). -/
def execWfe (c : Fin 16) (pre : List (Fin 16)) (rdb : BitVec 8) (mask : BitVec 8) (s : State) : Host.Outcome State Fault Refusal :=
  .next (s.live fun s => s.iWfe c.val pre rdb.toNat mask.toNat)

/-- WFE_CONSUME: A waiting WFE consumes the first event that appears on an input of its mask (R313). -/
def execWfeConsume (c : Fin 16) (s : State) : Host.Outcome State Fault Refusal :=
  .next (s.live fun s => s.needCluster fun s => (s.wfeConsume c.val).stepOn c.val)

/-- EVTST: Core instruction EVTST consumes a pending event or returns 0xFFFF_FFFF (R313). -/
def execEvtst (c : Fin 16) (pre : List (Fin 16)) (rdb : BitVec 8) (mask : BitVec 8) (s : State) : Host.Outcome State Fault Refusal :=
  .next (s.live fun s => s.iEvtst c.val pre rdb.toNat mask.toNat)

/-- WAITT: Core instruction WAITT waits until device time reaches a deadline (R314). -/
def execWaitt (c : Fin 16) (pre : List (Fin 16)) (w : BitVec 16) (s : State) : Host.Outcome State Fault Refusal :=
  .next (s.live fun s => s.iWaitt c.val pre w.toNat)

/-- WAITT_DEADLINE: The synchronised device time reaches a waiting WAITT's deadline, and WAITT completes (R314). -/
def execWaittDeadline (c : Fin 16) (s : State) : Host.Outcome State Fault Refusal :=
  .next (s.live fun s => s.needCluster fun s => (s.waittDeadline c.val).stepOn c.val)

/-- LOOP: Core instruction LOOP sets up a hardware loop of rc iterations (R311). -/
def execLoop (c : Fin 16) (pre : List (Fin 16)) (w : BitVec 16) (end_ : BitVec 32) (s : State) : Host.Outcome State Fault Refusal :=
  .next (s.live fun s => s.iLoop c.val pre w.toNat end_.toNat)

/-- LOOPI: Core instruction LOOPI sets up a hardware loop of CNT iterations (R311). -/
def execLoopi (c : Fin 16) (pre : List (Fin 16)) (cnt : BitVec 32) (end_ : BitVec 32) (s : State) : Host.Outcome State Fault Refusal :=
  .next (s.live fun s => s.iLoopi c.val pre cnt.toNat end_.toNat)

/-- CKPT: Core instruction CKPT records a checkpoint and empties the journal and the log (R375). -/
def execCkpt (c : Fin 16) (pre : List (Fin 16)) (s : State) : Host.Outcome State Fault Refusal :=
  .next (s.live fun s => s.iCkpt c.val pre)

/-- HOLD: Core instruction HOLD opens or closes an interrupt-free window (R315). -/
def execHold (c : Fin 16) (pre : List (Fin 16)) (n : BitVec 16) (s : State) : Host.Outcome State Fault Refusal :=
  .next (s.live fun s => s.iHold c.val pre n.toNat)

/-- HOLD_WINDOW_END: HOLDLEFT reaches 0, so the window closes and pending interrupts may be taken (R341). -/
def execHoldWindowEnd (c : Fin 16) (s : State) : Host.Outcome State Fault Refusal :=
  .next (s.live fun s => s.holdEnd c.val)

/-- RFE: Core instruction RFE pops the newest frame and restores its state (R339). -/
def execRfe (c : Fin 16) (pre : List (Fin 16)) (s : State) : Host.Outcome State Fault Refusal :=
  .next (s.live fun s => s.iRfe c.val pre)

/-- SYNC: Core instruction SYNC completes earlier accesses and discards the fetch and loop buffers (R316). -/
def execSync (c : Fin 16) (pre : List (Fin 16)) (s : State) : Host.Outcome State Fault Refusal :=
  .next (s.live fun s => s.iSync c.val pre)

/-- IJT_BAR: Core instruction IJT.BAR sets STATUS.IJBAR (R316). -/
def execIjtBar (c : Fin 16) (pre : List (Fin 16)) (b : BitVec 8) (s : State) : Host.Outcome State Fault Refusal :=
  .next (s.live fun s => s.iIjtBar c.val pre b.toNat)

/-- IJT_FLUSH: Core instruction IJT.FLUSH empties the indirect-target table (R316). -/
def execIjtFlush (c : Fin 16) (pre : List (Fin 16)) (s : State) : Host.Outcome State Fault Refusal :=
  .next (s.live fun s => s.iIjtFlush c.val pre)

/-- TRAP: Core instruction TRAP raises TRAP (R316). -/
def execTrap (c : Fin 16) (pre : List (Fin 16)) (imm : BitVec 8) (s : State) : Host.Outcome State Fault Refusal :=
  .next (s.live fun s => s.iTrap c.val pre imm.toNat)

/-- BRK: Core instruction BRK raises BRK, or halts the core under BRKCLAIM (R316). -/
def execBrk (c : Fin 16) (pre : List (Fin 16)) (s : State) : Host.Outcome State Fault Refusal :=
  .next (s.live fun s => s.iBrk c.val pre)

/-- WLD: Core instruction WLD loads and validates a warrant handle (R367). -/
def execWld (c : Fin 16) (pre : List (Fin 16)) (w : BitVec 16) (off : BitVec 32) (ecc : Ecc) (s : State) : Host.Outcome State Fault Refusal :=
  .next (s.live fun s => s.iWld c.val pre w.toNat off.toNat ecc)

/-- WST: Core instruction WST stores a warrant handle (R367). -/
def execWst (c : Fin 16) (pre : List (Fin 16)) (w : BitVec 16) (off : BitVec 32) (s : State) : Host.Outcome State Fault Refusal :=
  .next (s.live fun s => s.iWst c.val pre w.toNat off.toNat)

/-- WDER: Core instruction WDER derives a new warrant from a descriptor (R360). -/
def execWder (c : Fin 16) (pre : List (Fin 16)) (w : BitVec 16) (ecc : Ecc) (s : State) : Host.Outcome State Fault Refusal :=
  .next (s.live fun s => s.iWder c.val pre w.toNat ecc)

/-- WREV: Core instruction WREV revokes a warrant's subtree everywhere (R362). -/
def execWrev (c : Fin 16) (pre : List (Fin 16)) (b : BitVec 8) (s : State) : Host.Outcome State Fault Refusal :=
  .next (s.live fun s => s.iWrev c.val pre b.toNat)

/-- WQ: Core instruction WQ reads a field of a warrant register (R367). -/
def execWq (c : Fin 16) (pre : List (Fin 16)) (w : BitVec 16) (s : State) : Host.Outcome State Fault Refusal :=
  .next (s.live fun s => s.iWq c.val pre w.toNat)

/-- WMOV: Core instruction WMOV copies a warrant register (R367). -/
def execWmov (c : Fin 16) (pre : List (Fin 16)) (w : BitVec 16) (s : State) : Host.Outcome State Fault Refusal :=
  .next (s.live fun s => s.iWmov c.val pre w.toNat)

/-- WCLR: Core instruction WCLR writes the null warrant (R367). -/
def execWclr (c : Fin 16) (pre : List (Fin 16)) (b : BitVec 8) (s : State) : Host.Outcome State Fault Refusal :=
  .next (s.live fun s => s.iWclr c.val pre b.toNat)

/-- INTERRUPT_ENTRY: A pending interrupt is taken at a permitted boundary, and the entry of R337 follows (R335). -/
def execInterruptEntry (c : Fin 16) (s : State) : Host.Outcome State Fault Refusal :=
  .next (s.live fun s => s.needCluster fun s => s.interrupt c.val)

end Sys2Proof.Machine
end

