-- ==== Sys2Proof/Machine/CmdWarrants.lean ====
section
/-!
DEFINITION. Bindings and core pairs (spec/15, spec/16): the meaning of each command. Commands act only while the device is powered (R451, R455), but for those
of the supply itself.
-/
namespace Sys2Proof.Machine
open F

/-- BIND_LO_WRITE: A WRT_BIND_LO write holds the low half of a handle for the writer (R366). -/
def execBindLoWrite (ini : Initiator) (w : BitVec 32) (s : State) : Host.Outcome State Fault Refusal :=
  .next (s.live fun s => s.wrtBindLo ini w.toNat)

/-- BIND_HI_WRITE: A WRT_BIND_HI write commits a valid handle to the selected bound-set slot, or sets ERR (R366). -/
def execBindHiWrite (ini : Initiator) (w : BitVec 32) (s : State) : Host.Outcome State Fault Refusal :=
  .next (s.live fun s => s.wrtBindHi ini w.toNat)

/-- COMPARE_MISMATCH: A lockstep comparison fails, and the pair resets, undoes its journal and replays from the checkpoint (R378). -/
def execCompareMismatch (p : Fin 8) (g : Fin 12) (s : State) : Host.Outcome State Fault Refusal :=
  .next (s.live fun s => if s.keptBad (2 * p.val) then s.keptStop (2 * p.val) else s.mismatch p.val g.val)

/-- CMPTEST: The CMPTEST bit of CPp_CMD repeats the comparator test on a pair with no committed task (R372). -/
def execCmptest (p : Fin 8) (s : State) : Host.Outcome State Fault Refusal :=
  .next (s.live fun s => s.cmpTest p.val)

end Sys2Proof.Machine
end

