-- ==== Sys2Proof/Machine/CmdDma.lean ====
section
/-!
DEFINITION. DMA engines (spec/17): the meaning of each command. Commands act only while the device is powered (R451, R455), but for those
of the supply itself.
-/
namespace Sys2Proof.Machine
open F

/-- DMA_START: START, or a start event, starts a channel that is IDLE, DONE or HALTED (R390). -/
def execDmaStart (h : Fin 32) (s : State) : Host.Outcome State Fault Refusal :=
  .next (s.live fun s => s.dmaStart h.val)

/-- DMA_STOP: The STOP bit of DMAe.c_CMD halts the channel after the burst in progress (R392). -/
def execDmaStop (h : Fin 32) (s : State) : Host.Outcome State Fault Refusal :=
  .next (s.live fun s => s.dmaStop h.val)

/-- DMA_RESUME: The RESUME bit of DMAe.c_CMD continues a halted channel after its checks (R392). -/
def execDmaResume (h : Fin 32) (s : State) : Host.Outcome State Fault Refusal :=
  .next (s.live fun s => s.dmaResume h.val)

/-- ADDLVL: The ADDLVL bit of DMAe.c_CMD adds INC to the software level (R391). -/
def execAddlvl (h : Fin 32) (inc : BitVec 16) (s : State) : Host.Outcome State Fault Refusal :=
  .next (s.live fun s => s.dmaCmd h.val (inc.toNat * 2 ^ 16 + 8))

/-- DMA_CTL_WRITE: A write to DMAe.c_CTL sets the channel controls, and FREE only from PF0 (R389). -/
def execDmaCtlWrite (ini : Initiator) (h : Fin 32) (w : BitVec 32) (s : State) : Host.Outcome State Fault Refusal :=
  .next (s.live fun s => s.dmaCtlWrite ini h.val w.toNat)

/-- DMA_PACE_READY: A paused channel's level reaches HIGH, and the channel becomes READY (R391). -/
def execDmaPaceReady (h : Fin 32) (s : State) : Host.Outcome State Fault Refusal :=
  .next (s.live fun s => s.dmaPaceReady h.val)

/-- DMA_RUN_START: A free engine gives its turn to its lowest-numbered READY channel (R390). -/
def execDmaRunStart (e : Fin 4) (s : State) : Host.Outcome State Fault Refusal :=
  .next (s.live fun s => s.dmaRunStart e.val)

/-- DMA_BURST: One unit is read and written as a burst after its warrant checks, and the channel completes after the last unit (R387). -/
def execDmaBurst (h : Fin 32) (ecc : Ecc) (data : Option (List (BitVec 8))) (s : State) : Host.Outcome State Fault Refusal :=
  .next (s.live fun s => (s.dmaBurst h.val ecc data).steps)

/-- DMA_RETRY: 64 FAB cycles after a bus error, the unit is retried or the channel halts (R392). -/
def execDmaRetry (h : Fin 32) (ecc : Ecc) (data : Option (List (BitVec 8))) (s : State) : Host.Outcome State Fault Refusal :=
  .next (s.live fun s => (s.dmaRetry h.val ecc data).steps)

end Sys2Proof.Machine
end

