-- ==== Sys2Proof/Machine/CmdCapture.lean ====
section
/-!
DEFINITION. The capture streamer (spec/17): the meaning of each command. Commands act only while the device is powered (R451, R455), but for those
of the supply itself.
-/
namespace Sys2Proof.Machine
open F

/-- BLOCK_ISSUE: A stream's full block is issued into the host ring at its block index (R398). -/
def execBlockIssue (i : Fin 258) (ecc : Ecc) (s : State) : Host.Outcome State Fault Refusal :=
  .next (s.live fun s => s.issueEcc i.val ecc)

/-- FLUSH_TIMEOUT: A block that has held items for FLUSH µs is issued as a partial block (R398). -/
def execFlushTimeout (i : Fin 258) (s : State) : Host.Outcome State Fault Refusal :=
  .next (s.live fun s => s.flushNow i.val)

/-- BLOCK_ACK: Every write of a block is acknowledged, so WRIDX advances (R400). -/
def execBlockAck (b : Nat) (s : State) : Host.Outcome State Fault Refusal :=
  .next (s.live fun s => s.blockAck b)

/-- RDIDX_WRITE: A write of CAP_RDIDX frees ring space, or is refused beyond WRIDX (R401). -/
def execRdidxWrite (w : BitVec 32) (s : State) : Host.Outcome State Fault Refusal :=
  .next (s.live fun s => s.rdidxWrite w.toNat)

/-- CAP_EN_WRITE: Setting or clearing CAP_CTL.EN starts capture issue from index 0, or stops it (R402). -/
def execCapEnWrite (on : Bool) (s : State) : Host.Outcome State Fault Refusal :=
  .next (s.live fun s => s.capEn on)

/-- THAW: The THAW bit of CAP_CTL clears FROZEN and TRIGGERED (R403). -/
def execThaw (s : State) : Host.Outcome State Fault Refusal :=
  .next (s.live fun s => s.thaw)

/-- SNAP_ARM: The ARM bit of CAP_SNAP arms the snapshot (R403). -/
def execSnapArm (w : BitVec 32) (s : State) : Host.Outcome State Fault Refusal :=
  .next (s.live fun s => s.snapWrite w.toNat)

/-- FORWARDED_BLOCK_ARRIVAL: A capture block from another seat arrives, and is forwarded, written with FWD, or dropped (R405). -/
def execForwardedBlockArrival (p : Fin 2) (kind : BitVec 4) (stream : BitVec 16) (seat : BitVec 8) (seq : BitVec 32) (bytes : List (BitVec 8)) (dtime : BitVec 64) (dropped : BitVec 16) (gap : Bool) (replayed : Bool) (snap : Bool) (crc : Bool) (s : State) : Host.Outcome State Fault Refusal :=
  .next (s.live fun s => s.fwdCrc p.val crc { kind := kind.toNat, stream := stream.toNat, seat := seat.toNat, seq := seq.toNat, bytes := bytes, dtime := dtime.toNat, dropped := dropped.toNat, gap := gap, replayed := replayed, snap := snap })

/-- RPON: The RPON bit of CAP_Si_CTL requests replay, pending until a boundary with enough fill (R408). -/
def execRpon (i : Fin 256) (s : State) : Host.Outcome State Fault Refusal :=
  .next (s.live fun s => s.replayRequest i.val true)

/-- RPOFF: The RPOFF bit of CAP_Si_CTL ends replay at the next boundary (R408). -/
def execRpoff (i : Fin 256) (s : State) : Host.Outcome State Fault Refusal :=
  .next (s.live fun s => s.replayRequest i.val false)

/-- RPWR_WRITE: A write of RPWR sets the replay buffer fill, or is refused with RPWERR (R407). -/
def execRpwrWrite (i : Fin 256) (w : BitVec 32) (s : State) : Host.Outcome State Fault Refusal :=
  .next (s.live fun s => s.rpwrWrite i.val w.toNat)

end Sys2Proof.Machine
end

