-- ==== Sys2Proof/Machine/CmdPcie.lean ====
section
/-!
DEFINITION. The PCI Express host interface (spec/18): the meaning of each command. Commands act only while the device is powered (R451, R455), but for those
of the supply itself.
-/
namespace Sys2Proof.Machine
open F

/-- CONFIG_REQUEST: A PCIe configuration request is answered with retry status before the boot commit ends, and with the identity after (R414). -/
def execConfigRequest (f : Fin 64) (off : BitVec 12) (w : Option (BitVec 32 × BitVec 4)) (s : State) : Host.Outcome State Fault Refusal :=
  .next (s.live fun s => s.cfgRequest f.val off.toNat (w.map fun p => (p.1.toNat, p.2.toNat)))

/-- INBOUND_READ: A host memory read reaches a BAR region, or is refused with all-0xFF data (R418). -/
def execInboundRead (f : Fin 64) (bar : Fin 6) (off : Nat) (n : Nat) (all : Bool) (ecc : Ecc) (buf : Ecc) (s : State) : Host.Outcome State Fault Refusal :=
  .next (s.live fun s => s.tlp f.val buf fun s => s.inboundRead f.val bar.val off n all ecc)

/-- INBOUND_WRITE: A host memory write is applied in arrival order, or is refused and discarded (R418). -/
def execInboundWrite (f : Fin 64) (bar : Fin 6) (off : Nat) (data : List (Option (BitVec 8))) (poison : Bool) (buf : Ecc) (s : State) : Host.Outcome State Fault Refusal :=
  .next (s.live fun s => (s.tlp f.val buf fun s => s.inboundWrite f.val bar.val off data poison).steps)

/-- PRICKING_WINDOW_WRITE: A PF0 write to the pricking window is merged into NVM lines of the target in NVM_PWSLOT (R489). -/
def execPrickingWindowWrite (off : BitVec 23) (data : List (BitVec 8)) (s : State) : Host.Outcome State Fault Refusal :=
  .next (s.live fun s => s.pwWrite off.toNat data)

/-- INTENT_DOORBELL: A VF's intent doorbell is checked and enters its queue, or is refused with a reason (R425). -/
def execIntentDoorbell (v : Fin 63) (whole : Bool) (w0 : BitVec 32) (w1 : BitVec 32) (w2 : BitVec 32) (w3 : BitVec 32) (s : State) : Host.Outcome State Fault Refusal :=
  .next (s.live fun s => s.doorbell v.val whole w0.toNat w1.toNat w2.toNat w3.toNat)

/-- DOORBELL_PUBLISH: A queued doorbell writes its crossbar slots and raises its intent producer (R426). -/
def execDoorbellPublish (v : Fin 63) (s : State) : Host.Outcome State Fault Refusal :=
  .next (s.live fun s => s.doorbellPublish v.val)

/-- OUTBOUND_COMPLETION: A completion for an outbound read arrives, and an error status or poisoned data ends the access in a bus error (R421). -/
def execOutboundCompletion (c : Fin 16) (data : Option (List (BitVec 8))) (s : State) : Host.Outcome State Fault Refusal :=
  .next (s.live fun s => s.outbound c.val data)

/-- COMPLETION_TIMEOUT: An outbound read times out, so it ends in a bus error and PCIE_CTO is raised (R421). -/
def execCompletionTimeout (c : Fin 16) (s : State) : Host.Outcome State Fault Refusal :=
  .next (s.live fun s => s.outboundLate c.val)

/-- SWIRQ_GO: The GO bit of PCIE_SWIRQ pulses a software MSI-X vector (R422). -/
def execSwirqGo (f : Fin 64) (vec : BitVec 5) (s : State) : Host.Outcome State Fault Refusal :=
  .next (s.live fun s => s.swIrq f.val vec.toNat)

/-- FLR: A function level reset applies the function reset of its function (R427). -/
def execFlr (f : Fin 64) (s : State) : Host.Outcome State Fault Refusal :=
  .next (s.live fun s => s.flr f.val)

/-- PERST: Assertion of PERST_N resets every PCIe function and starts retraining (R428). -/
def execPerst (s : State) : Host.Outcome State Fault Refusal :=
  .next (s.live fun s => s.perstOn)

/-- DL_DOWN: The data link goes down, so every function is reset and PCIE_LINKDOWN is raised (R428). -/
def execDlDown (s : State) : Host.Outcome State Fault Refusal :=
  .next (s.live fun s => s.dlDown)

/-- LINK_TRAINING_START: PCIe link training begins with the limits of the verified slot or the defaults (R414). -/
def execLinkTrainingStart (s : State) : Host.Outcome State Fault Refusal :=
  .next (s.live fun s => s.linkTraining)

/-- ASPM_ENTRY: An idle timer expires and the link enters L0s or L1 (R431). -/
def execAspmEntry (st : Fin 7) (s : State) : Host.Outcome State Fault Refusal :=
  .next (s.live fun s => s.aspmEntry st.val)

end Sys2Proof.Machine
end

