-- ==== Sys2Proof/Machine/CmdBraid.lean ====
section
/-!
DEFINITION. The Braid ports (spec/19): the meaning of each command. Commands act only while the device is powered (R451, R455), but for those
of the supply itself.
-/
namespace Sys2Proof.Machine
open F

/-- PORT_UP: A Braid port completes training with a matching neighbour and comes up (R437). -/
def execPortUp (b : Fin 2) (nseat : BitVec 4) (nring : BitVec 4) (map : BitVec 32) (pol : BitVec 32) (nlock : Bool) (nref : Bool) (s : State) : Host.Outcome State Fault Refusal :=
  .next (s.live fun s => s.portComesUp b.val nseat.toNat nring.toNat map.toNat pol.toNat nlock nref)

/-- BRAID_SEAT_MISMATCH: A neighbour reports another seat or ring size, and the port stays down with BRAID_SEAT (R437). -/
def execBraidSeatMismatch (b : Fin 2) (nseat : BitVec 4) (nring : BitVec 4) (s : State) : Host.Outcome State Fault Refusal :=
  .next (s.live fun s => s.seatMismatch b.val nseat.toNat nring.toNat)

/-- PORT_DOWN: A Braid port goes down, discards items in flight, and sends the link state round the ring (R446). -/
def execPortDown (b : Fin 2) (reason : Fin 8) (s : State) : Host.Outcome State Fault Refusal :=
  .next (s.live fun s => s.portGoesDown b.val reason.val 3)

/-- RETRAIN: The RETRAIN bit of Bb_CTL restarts training on the port (R437). -/
def execRetrain (b : Fin 2) (s : State) : Host.Outcome State Fault Refusal :=
  .next (s.live fun s => s.retrain b.val)

/-- PORT_DOWN_WRITE: Setting Bb_CTL.DOWN holds the port down (R446). -/
def execPortDownWrite (b : Fin 2) (down : Bool) (s : State) : Host.Outcome State Fault Refusal :=
  .next (s.live fun s => s.portDownWrite b.val down)

/-- LINK_STATE_MESSAGE: A link-state change from another seat arrives round the ring and starts a re-placement (R446). -/
def execLinkStateMessage (b : Fin 2) (host : Bool) (link : Fin 8) (up : Bool) (s : State) : Host.Outcome State Fault Refusal :=
  .next (s.live fun s => s.linkMessage b.val host link.val up)

/-- NOTRAIN_TIMEOUT: An enabled port is still not up 10 ms after it began training, which raises SYS_NOTRAIN (R474). -/
def execNotrainTimeout (b : Fin 2) (s : State) : Host.Outcome State Fault Refusal :=
  .next (s.live fun s => s.notrainTimeout b.val)

/-- TIME_STAMP_EXCHANGE: Device-time stamps are exchanged every 1 µs, and the follower corrects its offset (R440). -/
def execTimeStampExchange (b : Fin 2) (ofs : Int) (delay : Nat) (nlock : Bool) (nref : Bool) (s : State) : Host.Outcome State Fault Refusal :=
  .next (s.live fun s => s.timeStamps b.val ofs delay nlock nref)

/-- LATENCY_ITEM_ARRIVAL: A ring sample or global event item arrives on a port, and is forwarded, buffered or counted late (R441). -/
def execLatencyItemArrival (b : Fin 2) (dst : Fin 8) (src : Fin 8) (ec : Fin 1024) (ring : Bool) (crc : Bool) (value : BitVec 24) (qual : BitVec 2) (seq : BitVec 16) (per : BitVec 32) (time : BitVec 64) (s : State) : Host.Outcome State Fault Refusal :=
  .next (s.live fun s => s.itemArrive b.val dst.val src.val ec.val ring crc value.toNat qual.toNat seq.toNat per.toNat time.toNat)

/-- RING_SAMPLE_RELEASE: At b + 9·X the ring-sample slot is released with the item or with QUAL 3, and the arrival event is raised (R444). -/
def execRingSampleRelease (idx : Fin 256) (s : State) : Host.Outcome State Fault Refusal :=
  .next (s.live fun s => s.ringRelease idx.val)

/-- GLOBAL_EVENT_RELEASE: A global event is delivered on the consumer's seat at t + 2 + 9·X, or on a late arrival (R445). -/
def execGlobalEventRelease (ec : Fin 1024) (s : State) : Host.Outcome State Fault Refusal :=
  .next (s.live fun s => s.globalRelease ec.val)

end Sys2Proof.Machine
end

