-- ==== Sys2Proof/Machine/CmdPower.lean ====
section
/-!
DEFINITION. Supply and power states (spec/20): the meaning of each command. Commands act only while the device is powered (R451, R455), but for those
of the supply itself.
-/
namespace Sys2Proof.Machine
open F

/-- SUPPLY_START: VHOLD reaches the start threshold, the rails ramp, and power-on reset is released (R455). -/
def execSupplyStart (cold : Bool) (s : State) : Host.Outcome State Fault Refusal :=
  .next (s.supplyStart cold)

/-- BOOT_ROM_START: The boot ROM starts on CP0, samples the straps and loads the write-once state (R504). -/
def execBootRomStart (straps : BitVec 3) (cmp : List (BitVec 12)) (lost : Bool) (s : State) : Host.Outcome State Fault Refusal :=
  .next (s.live fun s => s.bootRom straps.toNat (cmp.map (·.toNat)) lost)

/-- STOP_SEQUENCE: VHOLD falls below the stop threshold, and every leg is forced safe (R451). -/
def execStopSequence (s : State) : Host.Outcome State Fault Refusal :=
  .next (s.stopSequence)

/-- STOP_AUX_OFF: 20 µs into the stop sequence, AUX12 and AUX5 switch off and power-on reset is asserted (R451). -/
def execStopAuxOff (s : State) : Host.Outcome State Fault Refusal :=
  .next (s.stopAuxOff)

/-- OVERVOLTAGE: VIN rises above the overvoltage threshold, the FET opens and PWR_OVIN is raised (R450). -/
def execOvervoltage (vin : Nat) (s : State) : Host.Outcome State Fault Refusal :=
  .next (s.live fun s => s.overvoltage vin)

/-- OVERVOLTAGE_CLEAR: VIN falls below 77 V and the FET closes (R450). -/
def execOvervoltageClear (s : State) : Host.Outcome State Fault Refusal :=
  .next (s.live fun s => s.overvoltageClear)

/-- REVERSE_INPUT: VIN falls below −1 V while running, so the FET stays open and PWR_REVIN is raised (R450). -/
def execReverseInput (vin : Int) (s : State) : Host.Outcome State Fault Refusal :=
  .next (s.live fun s => s.reverseInput vin)

/-- UVWARN: VHOLD crosses the low-supply warning level, which raises PWR_UVWARN (R471). -/
def execUvwarn (vhold : Nat) (below : Bool) (s : State) : Host.Outcome State Fault Refusal :=
  .next (s.live fun s => s.uvwarn vhold below)

/-- RAIL_FAULT: An internal rail is out of tolerance for 10 µs, so the stop sequence runs with PWR_RAIL (R456). -/
def execRailFault (rail : Nat) (s : State) : Host.Outcome State Fault Refusal :=
  .next (s.live fun s => s.railFault rail)

/-- THERMAL_SHUTDOWN: The power die exceeds 150 °C, so the stop sequence runs with PWR_TSD (R456). -/
def execThermalShutdown (temp : Nat) (s : State) : Host.Outcome State Fault Refusal :=
  .next (s.live fun s => s.thermalShutdown temp)

/-- PWR_HOT: The power die reaches 130 °C, which raises PWR_HOT (R456). -/
def execPwrHot (temp : Nat) (s : State) : Host.Outcome State Fault Refusal :=
  .next (s.live fun s => s.pwrHot temp)

/-- POWER_RESTART: 100 ms after PWR_RAIL, or once cooled after PWR_TSD, the device starts again (R456). -/
def execPowerRestart (s : State) : Host.Outcome State Fault Refusal :=
  .next (s.powerRestart)

/-- AUX_LIMIT: An auxiliary output held at its limit for 200 µs switches off, raising its fault and optionally stopping legs (R457). -/
def execAuxLimit (o : Fin 2) (ma : Nat) (s : State) : Host.Outcome State Fault Refusal :=
  .next (s.live fun s => s.auxLimit o.val ma)

/-- AUX_RETRY: 20 ms after a limit switch-off, the auxiliary output retries (R457). -/
def execAuxRetry (o : Fin 2) (s : State) : Host.Outcome State Fault Refusal :=
  .next (s.live fun s => s.auxRetry o.val)

/-- AUX_EPISODE_END: 100 ms without a limit event ends the episode (R457). -/
def execAuxEpisodeEnd (o : Fin 2) (s : State) : Host.Outcome State Fault Refusal :=
  .next (s.live fun s => s.auxEpisodeEnd o.val)

/-- AUXCTL_WRITE: A PWR_AUXCTL write switches the auxiliary outputs, or is refused while a leg is active (R458). -/
def execAuxctlWrite (w : BitVec 32) (s : State) : Host.Outcome State Fault Refusal :=
  .next (s.live fun s => s.auxCtl w.toNat)

/-- INPUT_SAMPLE: Every 1 µs the power die samples VIN and input current and updates power and energy (R459). -/
def execInputSample (vin : Int) (iin : Nat) (i12 : Nat) (i5 : Nat) (s : State) : Host.Outcome State Fault Refusal :=
  .next (s.live fun s => s.inputSample vin iin i12 i5)

/-- POWER_STATE_EVAL: Each FAB cycle a unit chooses Bed, Browse or Run from its slack, and schedules its exit (R464). -/
def execPowerStateEval (u : Fin 9) (s : State) : Host.Outcome State Fault Refusal :=
  .next (s.live fun s => s.powerEval u.val)

/-- SCHEDULED_EXIT: The scheduled exit time before a known event arrives, and the unit starts its exit (R464). -/
def execScheduledExit (u : Fin 9) (s : State) : Host.Outcome State Fault Refusal :=
  .next (s.live fun s => s.scheduledExit u.val)

/-- UNIT_WAKE: An unknown event needing a sleeping unit starts its exit and is held (R465). -/
def execUnitWake (u : Fin 9) (s : State) : Host.Outcome State Fault Refusal :=
  .next (s.live fun s => s.wakeUnit u.val)

/-- EXIT_COMPLETE: A unit's exit completes, it is in Run, and held events act (R465). -/
def execExitComplete (u : Fin 9) (s : State) : Host.Outcome State Fault Refusal :=
  .next (s.live fun s => ((s.exitDone u.val).hostHeld).steps)

/-- YARD_ENTRY: With every Yard condition met, the device enters Yard (R467). -/
def execYardEntry (s : State) : Host.Outcome State Fault Refusal :=
  .next (s.live fun s => s.yardEntry)

/-- YARD_WAKE: A wake source starts a Yard exit and is recorded in PWR_WAKE.LAST (R469). -/
def execYardWake (src : Fin 8) (s : State) : Host.Outcome State Fault Refusal :=
  .next (s.live fun s => s.yardWake src.val)

/-- YARD_EXIT: The rails, PLLs and NVM are restored and modulators restart after Yard (R468). -/
def execYardExit (cycles : Nat) (s : State) : Host.Outcome State Fault Refusal :=
  .next (s.live fun s => (((s.yardExit cycles).dapAfterYard).hostHeld).steps)

/-- QUIET_LO_WRITE: A PWR_QUIET_LO write holds the low half of the quiet-period end (R470). -/
def execQuietLoWrite (ini : Initiator) (w : BitVec 32) (s : State) : Host.Outcome State Fault Refusal :=
  .next (s.live fun s => s.quietLoWrite (initNum ini) w.toNat)

/-- QUIET_HI_WRITE: A PWR_QUIET_HI write commits the quiet-period end (R470). -/
def execQuietHiWrite (ini : Initiator) (w : BitVec 32) (s : State) : Host.Outcome State Fault Refusal :=
  .next (s.live fun s => s.quietHiWrite (initNum ini) w.toNat)

/-- QUIET_END: Device time reaches the quiet-period end, and the period ends (R470). -/
def execQuietEnd (s : State) : Host.Outcome State Fault Refusal :=
  .next (s.live fun s => s.quietEnd)

end Sys2Proof.Machine
end

