-- ==== Sys2Proof/Machine/CmdFaults.lean ====
section
/-!
DEFINITION. Environment faults and resets (spec/21): the meaning of each command. Commands act only while the device is powered (R451, R455), but for those
of the supply itself.
-/
namespace Sys2Proof.Machine
open F

/-- XTAL_LOST: 160 ns without a reference edge declares the reference lost, gates the legs and falls back to AON (R475). -/
def execXtalLost (s : State) : Host.Outcome State Fault Refusal :=
  .next (s.live fun s => s.xtalLost)

/-- PLL_LOCK: A PLL relocks on AON or on the reference, and the control family resumes (R475). -/
def execPllLock (p : Fin 2) (s : State) : Host.Outcome State Fault Refusal :=
  .next (s.live fun s => (s.pllLock p.val).steps)

/-- CPLL_UNLOCK: The control PLL loses lock, and the legs are gated (R476). -/
def execCpllUnlock (s : State) : Host.Outcome State Fault Refusal :=
  .next (s.live fun s => s.cpllUnlock)

/-- KPLL_UNLOCK: The core PLL loses lock, and the cores stop until it relocks (R476). -/
def execKpllUnlock (s : State) : Host.Outcome State Fault Refusal :=
  .next (s.live fun s => s.kpllUnlock)

/-- REFOK_SET: The reference has been present for 1 ms without a gap, so REFOK is set (R477). -/
def execRefokSet (s : State) : Host.Outcome State Fault Refusal :=
  .next (s.live fun s => s.refokSet)

/-- CLKRET: The CLKRET bit of FRST_CTL returns the PLLs to the reference and removes the gating, or is refused (R477). -/
def execClkret (s : State) : Host.Outcome State Fault Refusal :=
  .next (s.live fun s => s.clkretWrite)

/-- DEVICE_RESET: RESET_N low forces the legs safe, resets the device and restarts boot at the boot-ROM step (R478). -/
def execDeviceReset (s : State) : Host.Outcome State Fault Refusal :=
  .next (s.live fun s => s.deviceReset 3)

/-- DEVRST_WRITE: A write of 0x0000_9664 to FRST_DEVRST starts a device reset (R478). -/
def execDevrstWrite (ini : Initiator) (w : BitVec 32) (s : State) : Host.Outcome State Fault Refusal :=
  .next (s.live fun s => s.devrstWrite (initNum ini) w.toNat)

/-- FUNC_RESET: The RESET action of FRST_CMD drains, resets and releases a function (R479). -/
def execFuncReset (ini : Initiator) (f : Fin 512) (s : State) : Host.Outcome State Fault Refusal :=
  .next (s.live fun s => s.frstCmd (initNum ini) f.val 1)

/-- FUNC_HRESET: The HRESET action of FRST_CMD resets a function at once and releases it (R480). -/
def execFuncHreset (ini : Initiator) (f : Fin 512) (s : State) : Host.Outcome State Fault Refusal :=
  .next (s.live fun s => s.frstCmd (initNum ini) f.val 2)

/-- FUNC_HOLD: The HOLD action of FRST_CMD drains and resets a function and keeps it held (R479). -/
def execFuncHold (ini : Initiator) (f : Fin 512) (s : State) : Host.Outcome State Fault Refusal :=
  .next (s.live fun s => s.frstCmd (initNum ini) f.val 3)

/-- FUNC_HHOLD: The HHOLD action of FRST_CMD resets a function at once and keeps it held (R480). -/
def execFuncHhold (ini : Initiator) (f : Fin 512) (s : State) : Host.Outcome State Fault Refusal :=
  .next (s.live fun s => s.frstCmd (initNum ini) f.val 4)

/-- FUNC_RELEASE: The RELEASE action of FRST_CMD releases a held function (R479). -/
def execFuncRelease (ini : Initiator) (f : Fin 512) (s : State) : Host.Outcome State Fault Refusal :=
  .next (s.live fun s => s.frstCmd (initNum ini) f.val 5)

/-- FUNC_DRAIN_END: A function's bounded unit finishes, and its reset phase begins (R479). -/
def execFuncDrainEnd (f : Fin 512) (s : State) : Host.Outcome State Fault Refusal :=
  .next (s.live fun s => s.fnDrainEnd f.val)

/-- FUNC_RESET_END: A function's reset phase ends, and it is released or stays held (R481). -/
def execFuncResetEnd (f : Fin 512) (pass : BitVec 12) (s : State) : Host.Outcome State Fault Refusal :=
  .next (s.live fun s => s.fnResetEnd f.val pass.toNat)

end Sys2Proof.Machine
end

