-- ==== Sys2Proof/Machine/CmdNvm.lean ====
section
/-!
DEFINITION. The non-volatile store (spec/22): the meaning of each command. Commands act only while the device is powered (R451, R455), but for those
of the supply itself.
-/
namespace Sys2Proof.Machine
open F

/-- STORE: The STORE operation of NVM_CMD journals the changed settings lines and commits them (R495). -/
def execStore (ini : Initiator) (count : BitVec 6) (s : State) : Host.Outcome State Fault Refusal :=
  .next (s.live fun s => s.nvmCmd ini (2 ^ 31 + 1 * 2 ^ 28 + count.toNat * 2 ^ 16) (s.holdsWrite ini))

/-- PROG: The PROG operation of NVM_CMD programs staging-buffer lines into a slot or the code-image area (R490). -/
def execProg (ini : Initiator) (count : BitVec 6) (s : State) : Host.Outcome State Fault Refusal :=
  .next (s.live fun s => s.nvmCmd ini (2 ^ 31 + 2 * 2 ^ 28 + count.toNat * 2 ^ 16) (s.holdsWrite ini))

/-- KEYPROG: The KEYPROG operation of NVM_CMD programs a key-slot digest (R492). -/
def execKeyprog (ini : Initiator) (count : BitVec 6) (s : State) : Host.Outcome State Fault Refusal :=
  .next (s.live fun s => s.nvmCmd ini (2 ^ 31 + 3 * 2 ^ 28 + count.toNat * 2 ^ 16) (s.holdsWrite ini))

/-- KEYREV: The KEYREV operation of NVM_CMD revokes a key slot (R492). -/
def execKeyrev (ini : Initiator) (count : BitVec 6) (s : State) : Host.Outcome State Fault Refusal :=
  .next (s.live fun s => s.nvmCmd ini (2 ^ 31 + 4 * 2 ^ 28 + count.toNat * 2 ^ 16) (s.holdsWrite ini))

/-- OPTION: The OPTION operation of NVM_CMD rewrites the option row (R492). -/
def execOption (ini : Initiator) (count : BitVec 6) (s : State) : Host.Outcome State Fault Refusal :=
  .next (s.live fun s => s.nvmCmd ini (2 ^ 31 + 5 * 2 ^ 28 + count.toNat * 2 ^ 16) (s.holdsWrite ini))

/-- NVM_WRITE_DONE: An NVM write operation ends after read-back, with success or WRFAIL (R487). -/
def execNvmWriteDone (fail : Bool) (s : State) : Host.Outcome State Fault Refusal :=
  .next (s.live fun s => s.nvmWriteDone fail)

/-- CLAIM: The CLAIM bit of NVM_CLAIM makes the writer owner of the staging buffer if it has none (R491). -/
def execClaim (ini : Initiator) (s : State) : Host.Outcome State Fault Refusal :=
  .next (s.live fun s => s.nvmClaim (initNum ini))

/-- RELEASE: The RELEASE bit of NVM_CLAIM frees the staging buffer (R491). -/
def execRelease (ini : Initiator) (s : State) : Host.Outcome State Fault Refusal :=
  .next (s.live fun s => s.nvmRelease (initNum ini))

/-- STBUF_WRITE: A write to NVM_STBUF stores a word for the owner, or ends in a bus error (R491). -/
def execStbufWrite (ini : Initiator) (j : Fin 512) (w : BitVec 32) (s : State) : Host.Outcome State Fault Refusal :=
  .next (s.live fun s => s.stbufWrite ini j.val w.toNat)

end Sys2Proof.Machine
end

