-- ==== Sys2Proof/Machine/CmdDebug.lean ====
section
/-!
DEFINITION. Debug and test access (spec/23): the meaning of each command. Commands act only while the device is powered (R451, R455), but for those
of the supply itself.
-/
namespace Sys2Proof.Machine
open F

/-- EXTEST: TAP instruction EXTEST drives pins by boundary scan, or loads BYPASS under a committed structure (R508). -/
def execExtest (scan : Nat) (s : State) : Host.Outcome State Fault Refusal :=
  .next (s.live fun s => s.extest scan)

/-- SAMPLE_PRELOAD: TAP instruction SAMPLE/PRELOAD samples the boundary-scan chain (R507). -/
def execSamplePreload (scan : Nat) (s : State) : Host.Outcome State Fault Refusal :=
  .next (s.live fun s => s.samplePreload scan)

/-- IDCODE: TAP instruction IDCODE selects the 32-bit identity register (R507). -/
def execIdcode (s : State) : Host.Outcome State Fault Refusal :=
  .next (s.live fun s => s.idcode)

/-- CLAMP: TAP instruction CLAMP holds pins and selects bypass, when no structure is committed (R508). -/
def execClamp (s : State) : Host.Outcome State Fault Refusal :=
  .next (s.live fun s => s.tapPins 3)

/-- HIGHZ: TAP instruction HIGHZ puts pins in high impedance, when no structure is committed (R508). -/
def execHighz (s : State) : Host.Outcome State Fault Refusal :=
  .next (s.live fun s => s.tapPins 4)

/-- DAPACC: TAP instruction DAPACC performs a 32-bit access to the core map at Update-DR (R507). -/
def execDapacc (op : BitVec 2) (addr : BitVec 32) (w : BitVec 32) (data : Option (List (BitVec 8))) (s : State) : Host.Outcome State Fault Refusal :=
  .next (s.live fun s => (s.dapacc op.toNat addr.toNat w.toNat data).steps)

/-- BYPASS: TAP instruction BYPASS selects the bypass register (R507). -/
def execBypass (s : State) : Host.Outcome State Fault Refusal :=
  .next (s.live fun s => s.tapIr 0xFF)

/-- TAP_RESET: A TAP reset clears DAPEN (R507). -/
def execTapReset (s : State) : Host.Outcome State Fault Refusal :=
  .next (s.live fun s => s.tapReset)

/-- HALT: The HALT bit of DBG_Cc_CTL requests a core halt (R510). -/
def execHalt (c : Fin 16) (s : State) : Host.Outcome State Fault Refusal :=
  .next (s.live fun s => s.dbgHalt c.val)

/-- CORE_HALTED: The core reaches a permitted boundary and halts (R510). -/
def execCoreHalted (c : Fin 16) (s : State) : Host.Outcome State Fault Refusal :=
  .next (s.live fun s => s.coreHalted c.val)

/-- STEP: The STEP bit of DBG_Cc_CTL executes one instruction of a halted core (R511). -/
def execStep (c : Fin 16) (s : State) : Host.Outcome State Fault Refusal :=
  .next (s.live fun s => (s.dbgStep c.val).steps)

/-- RESUME: The RESUME bit of DBG_Cc_CTL continues a halted core (R511). -/
def execResume (c : Fin 16) (s : State) : Host.Outcome State Fault Refusal :=
  .next (s.live fun s => s.dbgResume c.val)

/-- BREAKPOINT_HIT: A core halts before an instruction matching an enabled breakpoint (R512). -/
def execBreakpointHit (c : Fin 16) (s : State) : Host.Outcome State Fault Refusal :=
  .next (s.live fun s => s.breakpoint c.val)

/-- RDATA_ACCESS: A DBG_Cc_RDATA access reads or writes the selected register of a halted core (R513). -/
def execRdataAccess (c : Fin 16) (w : Option (BitVec 32)) (s : State) : Host.Outcome State Fault Refusal :=
  .next (s.live fun s => s.rdata c.val (w.map (·.toNat)))

/-- DETACH: The DETACH bit of DBG_LCTL requests a swap that leaves the released engine detached (R515). -/
def execDetach (w : BitVec 27) (s : State) : Host.Outcome State Fault Refusal :=
  .next (s.live fun s => s.lctl (2 ^ 31 + w.toNat))

/-- ATTACH: The ATTACH bit of DBG_LCTL ends the detachment, with the test and return following (R517). -/
def execAttach (w : BitVec 27) (s : State) : Host.Outcome State Fault Refusal :=
  .next (s.live fun s => s.lctl (2 ^ 30 + w.toNat))

/-- DISPATCH: The DISPATCH bit of DBG_LCTL starts a run on the detached engine, stopped before its first microword (R516). -/
def execDispatch (w : BitVec 27) (s : State) : Host.Outcome State Fault Refusal :=
  .next (s.live fun s => s.lctl (2 ^ 29 + w.toNat))

/-- LSTEP: The STEP bit of DBG_LCTL issues one microword on the detached engine (R516). -/
def execLstep (w : BitVec 27) (s : State) : Host.Outcome State Fault Refusal :=
  .next (s.live fun s => s.lctl (2 ^ 28 + w.toNat))

/-- CONT: The CONT bit of DBG_LCTL runs the detached engine to END or the breakpoint (R516). -/
def execCont (w : BitVec 27) (s : State) : Host.Outcome State Fault Refusal :=
  .next (s.live fun s => s.lctl (2 ^ 27 + w.toNat))

end Sys2Proof.Machine
end

