-- ==== Sys2Proof/Machine/CmdLater.lean ====
section
/-!
DEFINITION. Commands at the end of the table, of spec/02, spec/09, spec/16 to spec/20, spec/23 and spec/24: the meaning of each command. Commands act only while the device is powered (R451, R455), but for those
of the supply itself.
-/
namespace Sys2Proof.Machine
open F

/-- GPIO_OUT_WRITE: A PIN_GPIO_OUT write sets the levels driven on GPIO pins (R526). -/
def execGpioOutWrite (w : BitVec 32) (s : State) : Host.Outcome State Fault Refusal :=
  .next (s.live fun s => s.gpioOut w.toNat)

/-- GPIO_OE_WRITE: A PIN_GPIO_OE write enables or disables GPIO drivers (R526). -/
def execGpioOeWrite (w : BitVec 32) (s : State) : Host.Outcome State Fault Refusal :=
  .next (s.live fun s => s.gpioOe w.toNat)

/-- VALIDATION_END: Validation steps 1–10 of a pricking command finish within their bounded time, which ends a VERIFY or leads on to placement, the slot-table write of ACTIVATE or patch staging (R49). -/
def execValidationEnd (s : State) : Host.Outcome State Fault Refusal :=
  .next (s.live fun s => s.validationEnd)

/-- PLACEMENT_END: A Pillow run finishes, so PLW_STAT.RUNS, LAST and PLW_TIME advance and, for a re-placement, the new record comes into force (R217). -/
def execPlacementEnd (s : State) : Host.Outcome State Fault Refusal :=
  .next (s.live fun s => s.placementEnd)

/-- PCIE_LINK_UP: PCIe training completes and the link comes up, or settles at a new negotiated width or speed, which starts a Pillow re-placement (R238). -/
def execPcieLinkUp (width : Fin 17) (speed : Fin 6) (rev : Bool) (pol : BitVec 16) (s : State) : Host.Outcome State Fault Refusal :=
  .next (s.live fun s => s.linkUpAt width.val speed.val rev pol.toNat)

/-- ASPM_EXIT: The link leaves L0s or L1 and returns to L0 (R431). -/
def execAspmExit (s : State) : Host.Outcome State Fault Refusal :=
  .next (s.live fun s => s.aspmExit)

/-- CAPTURE_BLOCK_ACK: The neighbour acknowledges a forwarded capture block, which frees one of the port's 512 unacknowledged places (R441). -/
def execCaptureBlockAck (p : Fin 2) (s : State) : Host.Outcome State Fault Refusal :=
  .next (s.live fun s => s.capAck p.val)

/-- CMPTEST_DONE: A repeated comparator test ends within 2.5 µs, writes CPp_CMPRES and clears or sets CMPFAIL (R372). -/
def execCmptestDone (p : Fin 8) (pass : BitVec 12) (s : State) : Host.Outcome State Fault Refusal :=
  .next (s.live fun s => s.cmpTestDone p.val pass.toNat)

/-- STATE_ENTRY_COMPLETE: A unit's entry into Browse, Bed or Yard finishes after its entry time, and any exit held behind the entry starts (R466). -/
def execStateEntryComplete (u : Fin 10) (s : State) : Host.Outcome State Fault Refusal :=
  .next (s.live fun s => s.entryDone u.val)

/-- VIO_BANK_CHANGE: A bank supply VIO_Et or VIO_G enters or leaves its range, so PIN_VIOSTAT changes and the bank's outputs are held low by their pull-downs or released (R527). -/
def execVioBankChange (bank : Fin 9) (level : BitVec 2) (s : State) : Host.Outcome State Fault Refusal :=
  .next (s.live fun s => s.vioBank bank.val level.toNat)

end Sys2Proof.Machine
end

