-- ==== Sys2Proof/Machine/Dispatch.lean ====
section
/-! DEFINITION. The dispatch of commands: one arm for each constructor, one direct call of its meaning. -/
namespace Sys2Proof.Machine

def exec (i : Instr) (s : State) : Host.Outcome State Fault Refusal :=
  match i with
  | .registerWrite ini addr w => Sys2Proof.Machine.execRegisterWrite ini addr w s
  | .verify slot => Sys2Proof.Machine.execVerify slot s
  | .commit slot => Sys2Proof.Machine.execCommit slot s
  | .patch slot => Sys2Proof.Machine.execPatch slot s
  | .activate slot => Sys2Proof.Machine.execActivate slot s
  | .erase slot => Sys2Proof.Machine.execErase slot s
  | .eraseDone => Sys2Proof.Machine.execEraseDone s
  | .svnup slot => Sys2Proof.Machine.execSvnup slot s
  | .abort slot => Sys2Proof.Machine.execAbort slot s
  | .structureLoad err => Sys2Proof.Machine.execStructureLoad err s
  | .bootCommit => Sys2Proof.Machine.execBootCommit s
  | .patchStagingEnd => Sys2Proof.Machine.execPatchStagingEnd s
  | .patchApplyPoint e => Sys2Proof.Machine.execPatchApplyPoint e s
  | .modCode u code => Sys2Proof.Machine.execModCode u code s
  | .loopFilterResetEnd u => Sys2Proof.Machine.execLoopFilterResetEnd u s
  | .sampleBoundary n => Sys2Proof.Machine.execSampleBoundary n s
  | .unitRestart u => Sys2Proof.Machine.execUnitRestart u s
  | .windowCrossing n v => Sys2Proof.Machine.execWindowCrossing n v s
  | .modWinWrite n w => Sys2Proof.Machine.execModWinWrite n w s
  | .modCtlWrite n w => Sys2Proof.Machine.execModCtlWrite n w s
  | .openWirePulse n neg mv => Sys2Proof.Machine.execOpenWirePulse n neg mv s
  | .cmMeasurement n cm vp vn => Sys2Proof.Machine.execCmMeasurement n cm vp vn s
  | .modSwap n => Sys2Proof.Machine.execModSwap n s
  | .modReplace n => Sys2Proof.Machine.execModReplace n s
  | .modCancel n => Sys2Proof.Machine.execModCancel n s
  | .swapStart t => Sys2Proof.Machine.execSwapStart t s
  | .swapConnectEnd t => Sys2Proof.Machine.execSwapConnectEnd t s
  | .calPointStart t => Sys2Proof.Machine.execCalPointStart t s
  | .calibrationDone t gain offset => Sys2Proof.Machine.execCalibrationDone t gain offset s
  | .mcIntegrationEnd k v => Sys2Proof.Machine.execMcIntegrationEnd k v s
  | .mcResultWrite k => Sys2Proof.Machine.execMcResultWrite k s
  | .mcRun k run => Sys2Proof.Machine.execMcRun k run s
  | .mcOne k => Sys2Proof.Machine.execMcOne k s
  | .mcXcenWrite k on => Sys2Proof.Machine.execMcXcenWrite k on s
  | .mcResRead k => Sys2Proof.Machine.execMcResRead k s
  | .mainsZeroCrossing k => Sys2Proof.Machine.execMainsZeroCrossing k s
  | .mainsTimeout k => Sys2Proof.Machine.execMainsTimeout k s
  | .xcCheck k v => Sys2Proof.Machine.execXcCheck k v s
  | .xcLateTimeout n => Sys2Proof.Machine.execXcLateTimeout n s
  | .jobTrigger e slot => Sys2Proof.Machine.execJobTrigger e slot s
  | .heldTriggerPresent e slot => Sys2Proof.Machine.execHeldTriggerPresent e slot s
  | .jobDispatch e => Sys2Proof.Machine.execJobDispatch e s
  | .budgetExpiry e => Sys2Proof.Machine.execBudgetExpiry e s
  | .fallbackWord e fetch data => Sys2Proof.Machine.execFallbackWord e fetch data s
  | .fblimExpiry e => Sys2Proof.Machine.execFblimExpiry e s
  | .fetchResult e => Sys2Proof.Machine.execFetchResult e s
  | .postAccept k => Sys2Proof.Machine.execPostAccept k s
  | .rawLaneCode e j => Sys2Proof.Machine.execRawLaneCode e j s
  | .blankEnd e j => Sys2Proof.Machine.execBlankEnd e j s
  | .forceOff k => Sys2Proof.Machine.execForceOff k s
  | .forceOn k => Sys2Proof.Machine.execForceOn k s
  | .restartPeriod k => Sys2Proof.Machine.execRestartPeriod k s
  | .mboxDataWrite ini e w => Sys2Proof.Machine.execMboxDataWrite ini e w s
  | .mboxPush ini e w => Sys2Proof.Machine.execMboxPush ini e w s
  | .mboxEntryVisible e => Sys2Proof.Machine.execMboxEntryVisible e s
  | .mboxGroupApply e => Sys2Proof.Machine.execMboxGroupApply e s
  | .engineDisable e => Sys2Proof.Machine.execEngineDisable e s
  | .disableDrainEnd e => Sys2Proof.Machine.execDisableDrainEnd e s
  | .hdisable e => Sys2Proof.Machine.execHdisable e s
  | .engineEnable e => Sys2Proof.Machine.execEngineEnable e s
  | .engineReloadDone e => Sys2Proof.Machine.execEngineReloadDone e s
  | .leSwap e => Sys2Proof.Machine.execLeSwap e s
  | .leReplace e => Sys2Proof.Machine.execLeReplace e s
  | .leCancel e => Sys2Proof.Machine.execLeCancel e s
  | .leSwapStart t => Sys2Proof.Machine.execLeSwapStart t s
  | .leSwitch t => Sys2Proof.Machine.execLeSwitch t s
  | .selftestDone t pass => Sys2Proof.Machine.execSelftestDone t pass s
  | .eccScrub cls inst addr ecc => Sys2Proof.Machine.execEccScrub cls inst addr ecc s
  | .uNop e fetch => Sys2Proof.Machine.execUNop e fetch s
  | .uEnd e fetch => Sys2Proof.Machine.execUEnd e fetch s
  | .uJmp e fetch tgt => Sys2Proof.Machine.execUJmp e fetch tgt s
  | .uBr e fetch cond tgt => Sys2Proof.Machine.execUBr e fetch cond tgt s
  | .uCall e fetch tgt => Sys2Proof.Machine.execUCall e fetch tgt s
  | .uRet e fetch => Sys2Proof.Machine.execURet e fetch s
  | .uDbnz e fetch d tgt => Sys2Proof.Machine.execUDbnz e fetch d tgt s
  | .uFetch e fetch d slot => Sys2Proof.Machine.execUFetch e fetch d slot s
  | .uPost e fetch leg vs mask => Sys2Proof.Machine.execUPost e fetch leg vs mask s
  | .uSpost e fetch leg vd vsl => Sys2Proof.Machine.execUSpost e fetch leg vd vsl s
  | .uRawcfg e fetch lane n off ecc => Sys2Proof.Machine.execURawcfg e fetch lane n off ecc s
  | .uRawth e fetch lane a b => Sys2Proof.Machine.execURawth e fetch lane a b s
  | .uRawrd e fetch d lane => Sys2Proof.Machine.execURawrd e fetch d lane s
  | .uPrm e fetch d idx ecc => Sys2Proof.Machine.execUPrm e fetch d idx ecc s
  | .uSig e fetch k => Sys2Proof.Machine.execUSig e fetch k s
  | .uMov e fetch d a => Sys2Proof.Machine.execUMov e fetch d a s
  | .uLdi e fetch d imm => Sys2Proof.Machine.execULdi e fetch d imm s
  | .uLdih e fetch d imm => Sys2Proof.Machine.execULdih e fetch d imm s
  | .uAdd e fetch d a b => Sys2Proof.Machine.execUAdd e fetch d a b s
  | .uSub e fetch d a b => Sys2Proof.Machine.execUSub e fetch d a b s
  | .uAddi e fetch d a imm => Sys2Proof.Machine.execUAddi e fetch d a imm s
  | .uAbs e fetch d a => Sys2Proof.Machine.execUAbs e fetch d a s
  | .uMin e fetch d a b => Sys2Proof.Machine.execUMin e fetch d a b s
  | .uMax e fetch d a b => Sys2Proof.Machine.execUMax e fetch d a b s
  | .uClamp e fetch d a b => Sys2Proof.Machine.execUClamp e fetch d a b s
  | .uAnd e fetch d a b => Sys2Proof.Machine.execUAnd e fetch d a b s
  | .uOr e fetch d a b => Sys2Proof.Machine.execUOr e fetch d a b s
  | .uXor e fetch d a b => Sys2Proof.Machine.execUXor e fetch d a b s
  | .uShl e fetch d a sh => Sys2Proof.Machine.execUShl e fetch d a sh s
  | .uShr e fetch d a sh => Sys2Proof.Machine.execUShr e fetch d a sh s
  | .uCmp e fetch a b => Sys2Proof.Machine.execUCmp e fetch a b s
  | .uMul e fetch k a b => Sys2Proof.Machine.execUMul e fetch k a b s
  | .uMac e fetch k a b => Sys2Proof.Machine.execUMac e fetch k a b s
  | .uMsu e fetch k a b => Sys2Proof.Machine.execUMsu e fetch k a b s
  | .uAccld e fetch k a sh => Sys2Proof.Machine.execUAccld e fetch k a sh s
  | .uAccadd e fetch k a sh => Sys2Proof.Machine.execUAccadd e fetch k a sh s
  | .uAccsum e fetch k => Sys2Proof.Machine.execUAccsum e fetch k s
  | .uAccrd e fetch k d sh => Sys2Proof.Machine.execUAccrd e fetch k d sh s
  | .uAccclr e fetch k => Sys2Proof.Machine.execUAccclr e fetch k s
  | .uAccsv e fetch k n off => Sys2Proof.Machine.execUAccsv e fetch k n off s
  | .uAccrs e fetch k n off ecc => Sys2Proof.Machine.execUAccrs e fetch k n off ecc s
  | .uLd e fetch d n off ecc => Sys2Proof.Machine.execULd e fetch d n off ecc s
  | .uSt e fetch a n off => Sys2Proof.Machine.execUSt e fetch a n off s
  | .uLda e fetch n off => Sys2Proof.Machine.execULda e fetch n off s
  | .uAdda e fetch n off => Sys2Proof.Machine.execUAdda e fetch n off s
  | .uTlu e fetch d a n off ecc => Sys2Proof.Machine.execUTlu e fetch d a n off ecc s
  | .uMovs e fetch d sel => Sys2Proof.Machine.execUMovs e fetch d sel s
  | .edgeEvent k => Sys2Proof.Machine.execEdgeEvent k s
  | .deadTimeEnd k => Sys2Proof.Machine.execDeadTimeEnd k s
  | .periodEnd k => Sys2Proof.Machine.execPeriodEnd k s
  | .maxonExpiry k => Sys2Proof.Machine.execMaxonExpiry k s
  | .legEnable k => Sys2Proof.Machine.execLegEnable k s
  | .legStop k => Sys2Proof.Machine.execLegStop k s
  | .stopnow k => Sys2Proof.Machine.execStopnow k s
  | .clrclamp k => Sys2Proof.Machine.execClrclamp k s
  | .stopRuleMet k => Sys2Proof.Machine.execStopRuleMet k s
  | .edgeReadback k dev => Sys2Proof.Machine.execEdgeReadback k dev s
  | .thermalCutoff t => Sys2Proof.Machine.execThermalCutoff t s
  | .cutoffRelease t => Sys2Proof.Machine.execCutoffRelease t s
  | .listenStart k out => Sys2Proof.Machine.execListenStart k out s
  | .otrFault k out => Sys2Proof.Machine.execOtrFault k out s
  | .otrClamp k out => Sys2Proof.Machine.execOtrClamp k out s
  | .otrBlockClassified k out runs => Sys2Proof.Machine.execOtrBlockClassified k out runs s
  | .pillowRun => Sys2Proof.Machine.execPillowRun s
  | .bankclr => Sys2Proof.Machine.execBankclr s
  | .eventDeliver ec => Sys2Proof.Machine.execEventDeliver ec s
  | .picotFilterExpiry p => Sys2Proof.Machine.execPicotFilterExpiry p s
  | .coreEventArrival c i1 => Sys2Proof.Machine.execCoreEventArrival c i1 s
  | .mute ec => Sys2Proof.Machine.execMute ec s
  | .unmute ec => Sys2Proof.Machine.execUnmute ec s
  | .tripSourceAssert n => Sys2Proof.Machine.execTripSourceAssert n s
  | .latchSeen k => Sys2Proof.Machine.execLatchSeen k s
  | .legRelease c k => Sys2Proof.Machine.execLegRelease c k s
  | .gtArm n => Sys2Proof.Machine.execGtArm n s
  | .tgArm g mask => Sys2Proof.Machine.execTgArm g mask s
  | .armTakesEffect n => Sys2Proof.Machine.execArmTakesEffect n s
  | .compareMatch n => Sys2Proof.Machine.execCompareMatch n s
  | .endOfCount n => Sys2Proof.Machine.execEndOfCount n s
  | .cmpLoWrite ini n w => Sys2Proof.Machine.execCmpLoWrite ini n w s
  | .cmpHiWrite ini n w => Sys2Proof.Machine.execCmpHiWrite ini n w s
  | .endLoWrite ini n w => Sys2Proof.Machine.execEndLoWrite ini n w s
  | .endHiWrite ini n w => Sys2Proof.Machine.execEndHiWrite ini n w s
  | .timerCapture n => Sys2Proof.Machine.execTimerCapture n s
  | .capLoRead ini n => Sys2Proof.Machine.execCapLoRead ini n s
  | .countLoRead ini n => Sys2Proof.Machine.execCountLoRead ini n s
  | .dtimeLoRead ini => Sys2Proof.Machine.execDtimeLoRead ini s
  | .shadowHiRead ini reg => Sys2Proof.Machine.execShadowHiRead ini reg s
  | .shadowExpiry ini => Sys2Proof.Machine.execShadowExpiry ini s
  | .tpinEdge m short => Sys2Proof.Machine.execTpinEdge m short s
  | .nop c pre => Sys2Proof.Machine.execNop c pre s
  | .add c pre w => Sys2Proof.Machine.execAdd c pre w s
  | .sub c pre w => Sys2Proof.Machine.execSub c pre w s
  | .and c pre w => Sys2Proof.Machine.execAnd c pre w s
  | .or c pre w => Sys2Proof.Machine.execOr c pre w s
  | .xor c pre w => Sys2Proof.Machine.execXor c pre w s
  | .sll c pre w => Sys2Proof.Machine.execSll c pre w s
  | .srl c pre w => Sys2Proof.Machine.execSrl c pre w s
  | .sra c pre w => Sys2Proof.Machine.execSra c pre w s
  | .slt c pre w => Sys2Proof.Machine.execSlt c pre w s
  | .sltu c pre w => Sys2Proof.Machine.execSltu c pre w s
  | .min c pre w => Sys2Proof.Machine.execMin c pre w s
  | .max c pre w => Sys2Proof.Machine.execMax c pre w s
  | .minu c pre w => Sys2Proof.Machine.execMinu c pre w s
  | .maxu c pre w => Sys2Proof.Machine.execMaxu c pre w s
  | .mul c pre w => Sys2Proof.Machine.execMul c pre w s
  | .mulh c pre w => Sys2Proof.Machine.execMulh c pre w s
  | .mulhu c pre w => Sys2Proof.Machine.execMulhu c pre w s
  | .div c pre w => Sys2Proof.Machine.execDiv c pre w s
  | .divu c pre w => Sys2Proof.Machine.execDivu c pre w s
  | .rem c pre w => Sys2Proof.Machine.execRem c pre w s
  | .remu c pre w => Sys2Proof.Machine.execRemu c pre w s
  | .addi c pre w imm => Sys2Proof.Machine.execAddi c pre w imm s
  | .andi c pre w imm => Sys2Proof.Machine.execAndi c pre w imm s
  | .ori c pre w imm => Sys2Proof.Machine.execOri c pre w imm s
  | .xori c pre w imm => Sys2Proof.Machine.execXori c pre w imm s
  | .slli c pre w imm => Sys2Proof.Machine.execSlli c pre w imm s
  | .srli c pre w imm => Sys2Proof.Machine.execSrli c pre w imm s
  | .srai c pre w imm => Sys2Proof.Machine.execSrai c pre w imm s
  | .slti c pre w imm => Sys2Proof.Machine.execSlti c pre w imm s
  | .sltiu c pre w imm => Sys2Proof.Machine.execSltiu c pre w imm s
  | .lb c pre w off ecc => Sys2Proof.Machine.execLb c pre w off ecc s
  | .lbu c pre w off ecc => Sys2Proof.Machine.execLbu c pre w off ecc s
  | .lh c pre w off ecc => Sys2Proof.Machine.execLh c pre w off ecc s
  | .lhu c pre w off ecc => Sys2Proof.Machine.execLhu c pre w off ecc s
  | .lw c pre w off ecc => Sys2Proof.Machine.execLw c pre w off ecc s
  | .sb c pre w off => Sys2Proof.Machine.execSb c pre w off s
  | .sh c pre w off => Sys2Proof.Machine.execSh c pre w off s
  | .sw c pre w off => Sys2Proof.Machine.execSw c pre w off s
  | .sti c pre w off data => Sys2Proof.Machine.execSti c pre w off data s
  | .br c pre w off => Sys2Proof.Machine.execBr c pre w off s
  | .j c pre off => Sys2Proof.Machine.execJ c pre off s
  | .jal c pre off => Sys2Proof.Machine.execJal c pre off s
  | .jr c pre w => Sys2Proof.Machine.execJr c pre w s
  | .jalr c pre w => Sys2Proof.Machine.execJalr c pre w s
  | .fadd c pre w => Sys2Proof.Machine.execFadd c pre w s
  | .fsub c pre w => Sys2Proof.Machine.execFsub c pre w s
  | .fmul c pre w => Sys2Proof.Machine.execFmul c pre w s
  | .fdiv c pre w => Sys2Proof.Machine.execFdiv c pre w s
  | .fsqrt c pre w => Sys2Proof.Machine.execFsqrt c pre w s
  | .fmadd c pre w => Sys2Proof.Machine.execFmadd c pre w s
  | .fmin c pre w => Sys2Proof.Machine.execFmin c pre w s
  | .fmax c pre w => Sys2Proof.Machine.execFmax c pre w s
  | .feq c pre w => Sys2Proof.Machine.execFeq c pre w s
  | .flt c pre w => Sys2Proof.Machine.execFlt c pre w s
  | .fle c pre w => Sys2Proof.Machine.execFle c pre w s
  | .fcvtWS c pre w => Sys2Proof.Machine.execFcvtWS c pre w s
  | .fcvtWuS c pre w => Sys2Proof.Machine.execFcvtWuS c pre w s
  | .fcvtSW c pre w => Sys2Proof.Machine.execFcvtSW c pre w s
  | .fcvtSWu c pre w => Sys2Proof.Machine.execFcvtSWu c pre w s
  | .mfsr c pre w => Sys2Proof.Machine.execMfsr c pre w s
  | .mtsr c pre w => Sys2Proof.Machine.execMtsr c pre w s
  | .sev c pre w => Sys2Proof.Machine.execSev c pre w s
  | .sevr c pre w => Sys2Proof.Machine.execSevr c pre w s
  | .wfe c pre rdb mask => Sys2Proof.Machine.execWfe c pre rdb mask s
  | .wfeConsume c => Sys2Proof.Machine.execWfeConsume c s
  | .evtst c pre rdb mask => Sys2Proof.Machine.execEvtst c pre rdb mask s
  | .waitt c pre w => Sys2Proof.Machine.execWaitt c pre w s
  | .waittDeadline c => Sys2Proof.Machine.execWaittDeadline c s
  | .loop c pre w end_ => Sys2Proof.Machine.execLoop c pre w end_ s
  | .loopi c pre cnt end_ => Sys2Proof.Machine.execLoopi c pre cnt end_ s
  | .ckpt c pre => Sys2Proof.Machine.execCkpt c pre s
  | .hold c pre n => Sys2Proof.Machine.execHold c pre n s
  | .holdWindowEnd c => Sys2Proof.Machine.execHoldWindowEnd c s
  | .rfe c pre => Sys2Proof.Machine.execRfe c pre s
  | .sync c pre => Sys2Proof.Machine.execSync c pre s
  | .ijtBar c pre b => Sys2Proof.Machine.execIjtBar c pre b s
  | .ijtFlush c pre => Sys2Proof.Machine.execIjtFlush c pre s
  | .trap c pre imm => Sys2Proof.Machine.execTrap c pre imm s
  | .brk c pre => Sys2Proof.Machine.execBrk c pre s
  | .wld c pre w off ecc => Sys2Proof.Machine.execWld c pre w off ecc s
  | .wst c pre w off => Sys2Proof.Machine.execWst c pre w off s
  | .wder c pre w ecc => Sys2Proof.Machine.execWder c pre w ecc s
  | .wrev c pre b => Sys2Proof.Machine.execWrev c pre b s
  | .wq c pre w => Sys2Proof.Machine.execWq c pre w s
  | .wmov c pre w => Sys2Proof.Machine.execWmov c pre w s
  | .wclr c pre b => Sys2Proof.Machine.execWclr c pre b s
  | .interruptEntry c => Sys2Proof.Machine.execInterruptEntry c s
  | .bindLoWrite ini w => Sys2Proof.Machine.execBindLoWrite ini w s
  | .bindHiWrite ini w => Sys2Proof.Machine.execBindHiWrite ini w s
  | .compareMismatch p g => Sys2Proof.Machine.execCompareMismatch p g s
  | .cmptest p => Sys2Proof.Machine.execCmptest p s
  | .dmaStart h => Sys2Proof.Machine.execDmaStart h s
  | .dmaStop h => Sys2Proof.Machine.execDmaStop h s
  | .dmaResume h => Sys2Proof.Machine.execDmaResume h s
  | .addlvl h inc => Sys2Proof.Machine.execAddlvl h inc s
  | .dmaCtlWrite ini h w => Sys2Proof.Machine.execDmaCtlWrite ini h w s
  | .dmaPaceReady h => Sys2Proof.Machine.execDmaPaceReady h s
  | .dmaRunStart e => Sys2Proof.Machine.execDmaRunStart e s
  | .dmaBurst h ecc data => Sys2Proof.Machine.execDmaBurst h ecc data s
  | .dmaRetry h ecc data => Sys2Proof.Machine.execDmaRetry h ecc data s
  | .blockIssue i1 ecc => Sys2Proof.Machine.execBlockIssue i1 ecc s
  | .flushTimeout i1 => Sys2Proof.Machine.execFlushTimeout i1 s
  | .blockAck b => Sys2Proof.Machine.execBlockAck b s
  | .rdidxWrite w => Sys2Proof.Machine.execRdidxWrite w s
  | .capEnWrite on => Sys2Proof.Machine.execCapEnWrite on s
  | .thaw => Sys2Proof.Machine.execThaw s
  | .snapArm w => Sys2Proof.Machine.execSnapArm w s
  | .forwardedBlockArrival p kind stream seat seq bytes dtime dropped gap replayed snap crc => Sys2Proof.Machine.execForwardedBlockArrival p kind stream seat seq bytes dtime dropped gap replayed snap crc s
  | .rpon i1 => Sys2Proof.Machine.execRpon i1 s
  | .rpoff i1 => Sys2Proof.Machine.execRpoff i1 s
  | .rpwrWrite i1 w => Sys2Proof.Machine.execRpwrWrite i1 w s
  | .configRequest f off w => Sys2Proof.Machine.execConfigRequest f off w s
  | .inboundRead f bar off n all ecc buf => Sys2Proof.Machine.execInboundRead f bar off n all ecc buf s
  | .inboundWrite f bar off data poison buf => Sys2Proof.Machine.execInboundWrite f bar off data poison buf s
  | .prickingWindowWrite off data => Sys2Proof.Machine.execPrickingWindowWrite off data s
  | .intentDoorbell v whole w0 w1 w2 w3 => Sys2Proof.Machine.execIntentDoorbell v whole w0 w1 w2 w3 s
  | .doorbellPublish v => Sys2Proof.Machine.execDoorbellPublish v s
  | .outboundCompletion c data => Sys2Proof.Machine.execOutboundCompletion c data s
  | .completionTimeout c => Sys2Proof.Machine.execCompletionTimeout c s
  | .swirqGo f vec => Sys2Proof.Machine.execSwirqGo f vec s
  | .flr f => Sys2Proof.Machine.execFlr f s
  | .perst => Sys2Proof.Machine.execPerst s
  | .dlDown => Sys2Proof.Machine.execDlDown s
  | .linkTrainingStart => Sys2Proof.Machine.execLinkTrainingStart s
  | .aspmEntry st => Sys2Proof.Machine.execAspmEntry st s
  | .portUp b nseat nring map pol nlock nref => Sys2Proof.Machine.execPortUp b nseat nring map pol nlock nref s
  | .braidSeatMismatch b nseat nring => Sys2Proof.Machine.execBraidSeatMismatch b nseat nring s
  | .portDown b reason => Sys2Proof.Machine.execPortDown b reason s
  | .retrain b => Sys2Proof.Machine.execRetrain b s
  | .portDownWrite b down => Sys2Proof.Machine.execPortDownWrite b down s
  | .linkStateMessage b host link up => Sys2Proof.Machine.execLinkStateMessage b host link up s
  | .notrainTimeout b => Sys2Proof.Machine.execNotrainTimeout b s
  | .timeStampExchange b ofs delay nlock nref => Sys2Proof.Machine.execTimeStampExchange b ofs delay nlock nref s
  | .latencyItemArrival b dst src ec ring crc value qual seq per time => Sys2Proof.Machine.execLatencyItemArrival b dst src ec ring crc value qual seq per time s
  | .ringSampleRelease idx => Sys2Proof.Machine.execRingSampleRelease idx s
  | .globalEventRelease ec => Sys2Proof.Machine.execGlobalEventRelease ec s
  | .supplyStart cold => Sys2Proof.Machine.execSupplyStart cold s
  | .bootRomStart straps cmp lost => Sys2Proof.Machine.execBootRomStart straps cmp lost s
  | .stopSequence => Sys2Proof.Machine.execStopSequence s
  | .stopAuxOff => Sys2Proof.Machine.execStopAuxOff s
  | .overvoltage vin => Sys2Proof.Machine.execOvervoltage vin s
  | .overvoltageClear => Sys2Proof.Machine.execOvervoltageClear s
  | .reverseInput vin => Sys2Proof.Machine.execReverseInput vin s
  | .uvwarn vhold below => Sys2Proof.Machine.execUvwarn vhold below s
  | .railFault rail => Sys2Proof.Machine.execRailFault rail s
  | .thermalShutdown temp => Sys2Proof.Machine.execThermalShutdown temp s
  | .pwrHot temp => Sys2Proof.Machine.execPwrHot temp s
  | .powerRestart => Sys2Proof.Machine.execPowerRestart s
  | .auxLimit o ma => Sys2Proof.Machine.execAuxLimit o ma s
  | .auxRetry o => Sys2Proof.Machine.execAuxRetry o s
  | .auxEpisodeEnd o => Sys2Proof.Machine.execAuxEpisodeEnd o s
  | .auxctlWrite w => Sys2Proof.Machine.execAuxctlWrite w s
  | .inputSample vin iin i12 i5 => Sys2Proof.Machine.execInputSample vin iin i12 i5 s
  | .powerStateEval u => Sys2Proof.Machine.execPowerStateEval u s
  | .scheduledExit u => Sys2Proof.Machine.execScheduledExit u s
  | .unitWake u => Sys2Proof.Machine.execUnitWake u s
  | .exitComplete u => Sys2Proof.Machine.execExitComplete u s
  | .yardEntry => Sys2Proof.Machine.execYardEntry s
  | .yardWake src => Sys2Proof.Machine.execYardWake src s
  | .yardExit cycles => Sys2Proof.Machine.execYardExit cycles s
  | .quietLoWrite ini w => Sys2Proof.Machine.execQuietLoWrite ini w s
  | .quietHiWrite ini w => Sys2Proof.Machine.execQuietHiWrite ini w s
  | .quietEnd => Sys2Proof.Machine.execQuietEnd s
  | .xtalLost => Sys2Proof.Machine.execXtalLost s
  | .pllLock p => Sys2Proof.Machine.execPllLock p s
  | .cpllUnlock => Sys2Proof.Machine.execCpllUnlock s
  | .kpllUnlock => Sys2Proof.Machine.execKpllUnlock s
  | .refokSet => Sys2Proof.Machine.execRefokSet s
  | .clkret => Sys2Proof.Machine.execClkret s
  | .deviceReset => Sys2Proof.Machine.execDeviceReset s
  | .devrstWrite ini w => Sys2Proof.Machine.execDevrstWrite ini w s
  | .funcReset ini f => Sys2Proof.Machine.execFuncReset ini f s
  | .funcHreset ini f => Sys2Proof.Machine.execFuncHreset ini f s
  | .funcHold ini f => Sys2Proof.Machine.execFuncHold ini f s
  | .funcHhold ini f => Sys2Proof.Machine.execFuncHhold ini f s
  | .funcRelease ini f => Sys2Proof.Machine.execFuncRelease ini f s
  | .funcDrainEnd f => Sys2Proof.Machine.execFuncDrainEnd f s
  | .funcResetEnd f pass => Sys2Proof.Machine.execFuncResetEnd f pass s
  | .store ini count => Sys2Proof.Machine.execStore ini count s
  | .prog ini count => Sys2Proof.Machine.execProg ini count s
  | .keyprog ini count => Sys2Proof.Machine.execKeyprog ini count s
  | .keyrev ini count => Sys2Proof.Machine.execKeyrev ini count s
  | .option ini count => Sys2Proof.Machine.execOption ini count s
  | .nvmWriteDone fail => Sys2Proof.Machine.execNvmWriteDone fail s
  | .claim ini => Sys2Proof.Machine.execClaim ini s
  | .release ini => Sys2Proof.Machine.execRelease ini s
  | .stbufWrite ini j w => Sys2Proof.Machine.execStbufWrite ini j w s
  | .extest scan => Sys2Proof.Machine.execExtest scan s
  | .samplePreload scan => Sys2Proof.Machine.execSamplePreload scan s
  | .idcode => Sys2Proof.Machine.execIdcode s
  | .clamp => Sys2Proof.Machine.execClamp s
  | .highz => Sys2Proof.Machine.execHighz s
  | .dapacc op addr w data => Sys2Proof.Machine.execDapacc op addr w data s
  | .bypass => Sys2Proof.Machine.execBypass s
  | .tapReset => Sys2Proof.Machine.execTapReset s
  | .halt c => Sys2Proof.Machine.execHalt c s
  | .coreHalted c => Sys2Proof.Machine.execCoreHalted c s
  | .step c => Sys2Proof.Machine.execStep c s
  | .resume c => Sys2Proof.Machine.execResume c s
  | .breakpointHit c => Sys2Proof.Machine.execBreakpointHit c s
  | .rdataAccess c w => Sys2Proof.Machine.execRdataAccess c w s
  | .detach w => Sys2Proof.Machine.execDetach w s
  | .attach w => Sys2Proof.Machine.execAttach w s
  | .dispatch w => Sys2Proof.Machine.execDispatch w s
  | .lstep w => Sys2Proof.Machine.execLstep w s
  | .cont w => Sys2Proof.Machine.execCont w s
  | .gpioOutWrite w => Sys2Proof.Machine.execGpioOutWrite w s
  | .gpioOeWrite w => Sys2Proof.Machine.execGpioOeWrite w s
  | .validationEnd => Sys2Proof.Machine.execValidationEnd s
  | .placementEnd => Sys2Proof.Machine.execPlacementEnd s
  | .pcieLinkUp width speed rev pol => Sys2Proof.Machine.execPcieLinkUp width speed rev pol s
  | .aspmExit => Sys2Proof.Machine.execAspmExit s
  | .captureBlockAck p => Sys2Proof.Machine.execCaptureBlockAck p s
  | .cmptestDone p pass => Sys2Proof.Machine.execCmptestDone p pass s
  | .stateEntryComplete u => Sys2Proof.Machine.execStateEntryComplete u s
  | .vioBankChange bank level => Sys2Proof.Machine.execVioBankChange bank level s

end Sys2Proof.Machine
end

