-- ==== Sys2Proof/Safety.lean ====
section
/-!
DEFINITION. The terms in which claims about the block are made: memories in canonical form, an unpowered device, a core that issues an
instruction, and what an effect leaves alone.
-/
namespace Sys2Proof.Machine
open F

/-- Every byte memory of the part is in the canonical form of Mem.wf: shared SRAM, the NVM, the TCMs and the engines' data memories. -/
def State.memOk (s : State) : Bool := s.sram.wf && s.nvm.wf && s.tcm.all (fun p => p.2.wf) && s.engs.all (fun p => p.2.dm.wf)

/-- The commands of the supply itself, which act on a device without power (R451, R455). -/
def ofSupply : Instr → Bool
  | .supplyStart .. | .stopSequence .. | .stopAuxOff .. | .powerRestart .. => true
  | _ => false

/-- A device without power whose waiting commands leave the supply alone. -/
def State.dark (s : State) : Prop := s.supply.up = false ∧ ∀ i ∈ s.pending, ofSupply i = false

/-- Some command of the queue acts on the supply. -/
def State.supplyWaits (s : State) : Bool := s.pending.any ofSupply

/-- What the prefixes of an instruction of an opcode say, where R302 allows them. -/
def preOf (op : Nat) (pre : List (Fin 16)) : Option Pre := match scanPre (baseOf op) 0 {} pre with | .ok p => some p | .error _ => none

/-- The length of an instruction of an opcode under prefixes (Table 13.2). -/
def lenOf (op : Nat) (pre : List (Fin 16)) : Nat :=
  min pre.length 4 + (if (8 : Fin 16) ∈ pre && (baseOf op).a8 then (baseOf op).wlen else (baseOf op).len)

/-- Core c of a powered device issues an instruction of opcode op under prefixes: it runs and waits for nothing, no halt or breakpoint stands
before the instruction, its fetch passes, and R302 allows its prefixes. -/
def State.coreReady (s : State) (c op : Nat) (pre : List (Fin 16)) : Bool :=
  s.supply.up && s.canIssue c && !s.haltNow c && !s.bpHit c && (s.fetchBad c (min 15 (lenOf op pre))).isNone
    && (preOf op pre).isSome

/-- The issue cycle of an instruction that reads, writes or needs the scoreboard's entries in a list (R331). -/
def State.issueCycle (s : State) (c : Nat) (uses : List Nat) : Nat :=
  (s.core c).readyAt (max (s.core c).free (cycAt s.et)) (uses.filter fun r => decide (r ≠ 0) && decide (r ≠ (s.core c).slotDest))

/-- A general register after the load in whose slot an instruction stands has landed over what the instruction wrote (R306). -/
def State.landed (s : State) (c r v : Nat) : Nat :=
  if r = 0 then 0 else match (s.core c).pload with | some p => (if p.d = r then p.val % 2 ^ 32 else v) | none => v

/-- No trace record is wanted of a core (R518). -/
def State.traceQuiet (s : State) (c : Nat) : Bool := !bit (s.rd DBG_TCTL_EN 0) c

/-- t differs from s in core c, in the time and in the count of fresh values alone. -/
def onlyCore (s t : State) (c : Nat) : Prop := t = { s with cores := t.cores, et := t.et, fv := t.fv } ∧ ∀ d, d ≠ c → t.core d = s.core d

/-- Two views of a core that differ at most in general registers, pc, loop count and HOLD window. -/
def CArch.onlyRegs (a b : CArch) : Prop := b = { a with gr := b.gr, pc := b.pc, lcount := b.lcount, hold := b.hold, holdNew := b.holdNew }

/-- Where a core goes on after an instruction of a length that is no control transfer (R303, R311). -/
def State.seqPc (s : State) (c len : Nat) : Nat :=
  let a := (s.core c).arch
  if a.pc = a.lend ∧ 1 < a.lcount then a.lstart else (a.pc + len) % 2 ^ 32

/-- The loop count after it (R311). -/
def State.seqCount (s : State) (c : Nat) : Nat :=
  let a := (s.core c).arch
  if a.pc = a.lend then a.lcount - 1 else a.lcount

/-- A sign-extended and a zero-extended immediate under prefixes (R304). -/
def immS (pre : List (Fin 16)) (imm : BitVec 32) : BitVec 32 := if (8 : Fin 16) ∈ pre then imm else (imm.setWidth 16).signExtend 32
def immZ (pre : List (Fin 16)) (imm : BitVec 32) : BitVec 32 := if (8 : Fin 16) ∈ pre then imm else (imm.setWidth 16).setWidth 32

/-- No core waits for a debugger's step to begin. -/
def State.noStep (s : State) : Bool := (List.range 16).all fun d => !((s.core d).stepping && (s.core d).st == 4)

/-- Core c may read, or write, n bytes of its TCM at an address through the warrant register that the prefixes name: the access is aligned and
inside the TCM, the warrant grants it (R307, R352), and no codeword of the span is damaged. -/
def State.tcmGrants (s : State) (c op : Nat) (pre : List (Fin 16)) (a n : Nat) (write : Bool) : Bool :=
  let x := (s.core c).arch.wreg (((preOf op pre).bind (·.wr)).getD 0)
  decide (a + n ≤ 2 ^ 18) && x.check 1 (if write then 2 else 1) [(a, a + n - 1)] == 0 && !s.badCw.any (fun q => q == (0, c, a / 16) || q == (0, c, (a + n - 1) / 16))

/-- A general register as a word. -/
def State.x (s : State) (c r : Nat) : BitVec 32 := BitVec.ofNat 32 (s.gr c r)

/-- t is s after core c completed an instruction of a length that is no control transfer and made a of the core's architectural state: every general
register with the load that landed, the pc, the loop count, the count of instructions, and nothing else of the core's architectural state or, with
its trace off, of the device. -/
def seqOf (s t : State) (c : Nat) (a : CArch) (len : Nat) : Prop :=
  (∀ r, t.gr c r = s.landed c r (a.reg r)) ∧ (t.core c).arch.pc = s.seqPc c len
    ∧ (t.core c).arch.lcount = s.seqCount c ∧ (t.core c).instret = (s.core c).instret + 1
    ∧ a.onlyRegs (t.core c).arch ∧ (s.traceQuiet c = true → onlyCore s t c)

/-- The same for a control transfer to an address, which leaves the loop count alone. -/
def jumpOf (s t : State) (c : Nat) (a : CArch) (target : Nat) : Prop :=
  (∀ r, t.gr c r = s.landed c r (a.reg r)) ∧ (t.core c).arch.pc = target
    ∧ (t.core c).arch.lcount = a.lcount ∧ (t.core c).instret = (s.core c).instret + 1
    ∧ a.onlyRegs (t.core c).arch ∧ (s.traceQuiet c = true → onlyCore s t c)

/-- The run of an engine can issue a microword within its budget, from a codeword that holds no error, with no RAWTH or RAWCFG operation before it due by
then (R126, R135, R157, R164). -/
def State.uReady (s : State) (e : Nat) (o : UOp) : Bool :=
  s.supply.up && match (s.eng e).run with
    | none => false
    | some r =>
      let b := s.rd LE_SLOT_BUDGET_BUDGET (8 * e + r.slot)
      decide (r.steps < b) && decide (r.issueAt o ≤ b) && (s.eng e).laneWr.all (fun p => decide (r.t0 + 32 * r.issueAt o < p.2)) && !s.badCw.any (fun q => q == (3, e, 4 * r.pc / 16))

/-- The ENG cycle of the run in which the microword issues (R157, R158). -/
def State.uCycle (s : State) (e : Nat) (o : UOp) : Nat := match (s.eng e).run with | none => 0 | some r => r.issueAt o

/-- The run as the microword finds it: the FETCH results that have arrived, its microsteps counted, its pc past the word, which is the one in execution. -/
def State.uRun (s : State) (e : Nat) (o : UOp) : ERun :=
  match (s.eng e).run with
  | none => { slot := 0, t0 := 0, pc := 0, at_ := 0 }
  | some r =>
    let last := r.issueAt o + o.cost - 1
    { r.arrive (r.issueAt o) with at_ := r.pc, steps := if o = .fin then last else min last (s.rd LE_SLOT_BUDGET_BUDGET (8 * e + r.slot)), pc := (r.pc + 1) % 4096 }

/-- t is s with another run on engine e, at a later time, and nothing else changed. -/
def State.uStep (s t : State) (e : Nat) (r : ERun) : Prop :=
  t = { s with engs := t.engs, et := t.et } ∧ t.eng e = { s.eng e with run := some r } ∧ ∀ j, j ≠ e → t.eng j = s.eng j

/-- The plan of a leg has nothing to do by an instant: no edge, MAXON, period end or turn-on after a dead time. -/
def State.planQuiet (s : State) (k t : Nat) : Bool :=
  let x := s.leg k
  [(s.nextEdge k).map (·.1), x.maxAt.map (·.1), x.pstart.map (· + x.plen), x.hiDue, x.loDue].all fun o => match o with
    | some d => decide (t < d)
    | none => true

/-- No codeword of an engine's data memory is damaged. -/
def State.engDataOk (s : State) (e : Nat) : Bool := !s.badCw.any (fun q => q.1 == 2 && q.2.1 == e)

/-- Every register field but those listed holds in t what it held in s. -/
def sameRegs (s t : State) (l : List (Field × Nat)) : Prop :=
  ∀ (f : Field) (i : Nat), regKey f i ∉ l.map (fun p => regKey p.1 p.2) → t.rd f i = s.rd f i

end Sys2Proof.Machine
end

