-- ==== Sys2Proof/WellFormed.lean ====
section
/-!
DEFINITION. Well-formed commands: what the types of the operands do not say. Who may send a command, prefix bytes and immediates of core instructions (R301 to R304), sizes
of TLPs (R412), units (R386) and blocks (R398), places a scrub can name (R499), function numbers (spec/21), and a listening block of 4 µs (R200).
-/
namespace Sys2Proof

/-- An initiator that exists: C0 to C15, VF1 to VF62, DMA engines 0 to 3. -/
def Initiator.wf : Initiator → Bool
  | .core c => decide (c < 16)
  | .pf0 | .pf1 | .dap => true
  | .vf v => decide (1 ≤ v) && decide (v ≤ 62)
  | .dma e => decide (e < 4)

/-- Prefix bytes that can stand in front of a base: the fourth ends the instruction (R302). -/
def preOk (pre : List (Fin 16)) : Bool := decide (pre.length ≤ 4)

/-- An immediate of 16 bits, or of 32 under 0xE8. -/
def immOk (pre : List (Fin 16)) (imm : BitVec 32) : Bool := pre.contains 8 || decide (imm.toNat < 2 ^ 16)

/-- Runs that fill a listening block of 3,200 FAB cycles, each at least one cycle. -/
def runsOk (runs : List (Bool × Nat)) : Bool := runs.all (fun r => decide (0 < r.2)) && (runs.map (·.2)).sum == 3200

/-- Instances and bytes of the memories of Table 22.2 by class: TCM, shared SRAM, engine data memory, engine control stores (16 KB vertical, then 32 bytes for each of 256 horizontal words),
NVM, frames and journals, PCIe and Braid buffers, DMA and capture buffers, and the warrant table by its entries. -/
def memSizes : List (Nat × Nat) :=
  [(16, 2 ^ 18), (1, 2 ^ 25), (56, 2 ^ 16), (56, 24576), (1, 2 ^ 25), (16, 2 ^ 16), (64, 2 ^ 16), (64, 2 ^ 22), (1, 65536)]

/-- A place that a scrub can name. -/
def scrubOk (cls inst addr : Nat) : Bool := let m := memSizes.getD cls (0, 0); decide (inst < m.1) && decide (addr < m.2)

/-- A BAR of a function with an offset inside it (Table 18.4). -/
def barOk (f bar off : Nat) : Bool :=
  let size := if f < 2 then (if bar = 0 then 2 ^ 24 else if bar = 2 then 2 ^ 26 else if bar = 4 then (if f = 0 then 2 ^ 24 else 2 ^ 16) else 0)
    else if bar = 0 then 2 ^ 23 else if bar = 2 then 2 ^ 16 else 0
  decide (off < size)

/-- Data that a host window answers, of at most n bytes. -/
def dataOk (n : Nat) (d : Option (List (BitVec 8))) : Bool := match d with | some l => decide (l.length ≤ n) | none => true

/-- A function number of spec/21. -/
def fnNumOk (f : Nat) : Bool :=
  decide (f < 0x48) || (decide (0x50 ≤ f) && decide (f < 0x98)) || (decide (0xA0 ≤ f) && decide (f < 0xD4)) || (decide (0xE0 ≤ f) && decide (f < 0x145))
    || (decide (0x150 ≤ f) && decide (f < 0x160))

/-- A well-formed command. Log entry 1 (DESIGN CHOICE). -/
def Instr.wf : Instr → Bool
  | .registerWrite ini _ _ => ini.wf
  | .verify _ => true
  | .commit _ => true
  | .patch _ => true
  | .activate _ => true
  | .erase _ => true
  | .eraseDone => true
  | .svnup _ => true
  | .abort _ => true
  | .structureLoad _ => true
  | .bootCommit => true
  | .patchStagingEnd => true
  | .patchApplyPoint _ => true
  | .modCode _ _ => true
  | .loopFilterResetEnd _ => true
  | .sampleBoundary _ => true
  | .unitRestart _ => true
  | .windowCrossing _ _ => true
  | .modWinWrite _ _ => true
  | .modCtlWrite _ _ => true
  | .openWirePulse _ _ _ => true
  | .cmMeasurement _ _ _ _ => true
  | .modSwap _ => true
  | .modReplace _ => true
  | .modCancel _ => true
  | .swapStart _ => true
  | .swapConnectEnd _ => true
  | .calPointStart _ => true
  | .calibrationDone _ _ _ => true
  | .mcIntegrationEnd _ _ => true
  | .mcResultWrite _ => true
  | .mcRun _ _ => true
  | .mcOne _ => true
  | .mcXcenWrite _ _ => true
  | .mcResRead _ => true
  | .mainsZeroCrossing _ => true
  | .mainsTimeout _ => true
  | .xcCheck _ _ => true
  | .xcLateTimeout _ => true
  | .jobTrigger _ _ => true
  | .heldTriggerPresent _ _ => true
  | .jobDispatch _ => true
  | .budgetExpiry _ => true
  | .fallbackWord _ _ _ => true
  | .fblimExpiry _ => true
  | .fetchResult _ => true
  | .postAccept _ => true
  | .rawLaneCode _ _ => true
  | .blankEnd _ _ => true
  | .forceOff _ => true
  | .forceOn _ => true
  | .restartPeriod _ => true
  | .mboxDataWrite ini _ _ => ini.wf
  | .mboxPush ini _ _ => ini.wf
  | .mboxEntryVisible _ => true
  | .mboxGroupApply _ => true
  | .engineDisable _ => true
  | .disableDrainEnd _ => true
  | .hdisable _ => true
  | .engineEnable _ => true
  | .engineReloadDone _ => true
  | .leSwap _ => true
  | .leReplace _ => true
  | .leCancel _ => true
  | .leSwapStart _ => true
  | .leSwitch _ => true
  | .selftestDone _ _ => true
  | .eccScrub cls inst addr _ => scrubOk cls.val inst addr
  | .uNop _ _ => true
  | .uEnd _ _ => true
  | .uJmp _ _ _ => true
  | .uBr _ _ _ _ => true
  | .uCall _ _ _ => true
  | .uRet _ _ => true
  | .uDbnz _ _ _ _ => true
  | .uFetch _ _ _ _ => true
  | .uPost _ _ _ _ _ => true
  | .uSpost _ _ _ _ _ => true
  | .uRawcfg _ _ _ _ _ _ => true
  | .uRawth _ _ _ _ _ => true
  | .uRawrd _ _ _ _ => true
  | .uPrm _ _ _ _ _ => true
  | .uSig _ _ _ => true
  | .uMov _ _ _ _ => true
  | .uLdi _ _ _ _ => true
  | .uLdih _ _ _ _ => true
  | .uAdd _ _ _ _ _ => true
  | .uSub _ _ _ _ _ => true
  | .uAddi _ _ _ _ _ => true
  | .uAbs _ _ _ _ => true
  | .uMin _ _ _ _ _ => true
  | .uMax _ _ _ _ _ => true
  | .uClamp _ _ _ _ _ => true
  | .uAnd _ _ _ _ _ => true
  | .uOr _ _ _ _ _ => true
  | .uXor _ _ _ _ _ => true
  | .uShl _ _ _ _ _ => true
  | .uShr _ _ _ _ _ => true
  | .uCmp _ _ _ _ => true
  | .uMul _ _ _ _ _ => true
  | .uMac _ _ _ _ _ => true
  | .uMsu _ _ _ _ _ => true
  | .uAccld _ _ _ _ _ => true
  | .uAccadd _ _ _ _ _ => true
  | .uAccsum _ _ _ => true
  | .uAccrd _ _ _ _ _ => true
  | .uAccclr _ _ _ => true
  | .uAccsv _ _ _ _ _ => true
  | .uAccrs _ _ _ _ _ _ => true
  | .uLd _ _ _ _ _ _ => true
  | .uSt _ _ _ _ _ => true
  | .uLda _ _ _ _ => true
  | .uAdda _ _ _ _ => true
  | .uTlu _ _ _ _ _ _ _ => true
  | .uMovs _ _ _ _ => true
  | .edgeEvent _ => true
  | .deadTimeEnd _ => true
  | .periodEnd _ => true
  | .maxonExpiry _ => true
  | .legEnable _ => true
  | .legStop _ => true
  | .stopnow _ => true
  | .clrclamp _ => true
  | .stopRuleMet _ => true
  | .edgeReadback _ _ => true
  | .thermalCutoff _ => true
  | .cutoffRelease _ => true
  | .listenStart _ _ => true
  | .otrFault _ _ => true
  | .otrClamp _ _ => true
  | .otrBlockClassified _ _ runs => runsOk runs
  | .pillowRun => true
  | .bankclr => true
  | .eventDeliver _ => true
  | .picotFilterExpiry _ => true
  | .coreEventArrival _ _ => true
  | .mute _ => true
  | .unmute _ => true
  | .tripSourceAssert _ => true
  | .latchSeen _ => true
  | .legRelease _ _ => true
  | .gtArm _ => true
  | .tgArm _ _ => true
  | .armTakesEffect _ => true
  | .compareMatch _ => true
  | .endOfCount _ => true
  | .cmpLoWrite ini _ _ => ini.wf
  | .cmpHiWrite ini _ _ => ini.wf
  | .endLoWrite ini _ _ => ini.wf
  | .endHiWrite ini _ _ => ini.wf
  | .timerCapture _ => true
  | .capLoRead ini _ => ini.wf
  | .countLoRead ini _ => ini.wf
  | .dtimeLoRead ini => ini.wf
  | .shadowHiRead ini _ => ini.wf
  | .shadowExpiry ini => ini.wf
  | .tpinEdge _ _ => true
  | .nop _ pre => preOk pre
  | .add _ pre _ => preOk pre
  | .sub _ pre _ => preOk pre
  | .and _ pre _ => preOk pre
  | .or _ pre _ => preOk pre
  | .xor _ pre _ => preOk pre
  | .sll _ pre _ => preOk pre
  | .srl _ pre _ => preOk pre
  | .sra _ pre _ => preOk pre
  | .slt _ pre _ => preOk pre
  | .sltu _ pre _ => preOk pre
  | .min _ pre _ => preOk pre
  | .max _ pre _ => preOk pre
  | .minu _ pre _ => preOk pre
  | .maxu _ pre _ => preOk pre
  | .mul _ pre _ => preOk pre
  | .mulh _ pre _ => preOk pre
  | .mulhu _ pre _ => preOk pre
  | .div _ pre _ => preOk pre
  | .divu _ pre _ => preOk pre
  | .rem _ pre _ => preOk pre
  | .remu _ pre _ => preOk pre
  | .addi _ pre _ imm => preOk pre && immOk pre imm
  | .andi _ pre _ imm => preOk pre && immOk pre imm
  | .ori _ pre _ imm => preOk pre && immOk pre imm
  | .xori _ pre _ imm => preOk pre && immOk pre imm
  | .slli _ pre _ imm => preOk pre && immOk pre imm
  | .srli _ pre _ imm => preOk pre && immOk pre imm
  | .srai _ pre _ imm => preOk pre && immOk pre imm
  | .slti _ pre _ imm => preOk pre && immOk pre imm
  | .sltiu _ pre _ imm => preOk pre && immOk pre imm
  | .lb _ pre _ off _ => preOk pre && immOk pre off
  | .lbu _ pre _ off _ => preOk pre && immOk pre off
  | .lh _ pre _ off _ => preOk pre && immOk pre off
  | .lhu _ pre _ off _ => preOk pre && immOk pre off
  | .lw _ pre _ off _ => preOk pre && immOk pre off
  | .sb _ pre _ off => preOk pre && immOk pre off
  | .sh _ pre _ off => preOk pre && immOk pre off
  | .sw _ pre _ off => preOk pre && immOk pre off
  | .sti _ pre _ off data => preOk pre && immOk pre off && immOk pre data
  | .br _ pre _ off => preOk pre && immOk pre off
  | .j _ pre _ => preOk pre
  | .jal _ pre _ => preOk pre
  | .jr _ pre _ => preOk pre
  | .jalr _ pre _ => preOk pre
  | .fadd _ pre _ => preOk pre
  | .fsub _ pre _ => preOk pre
  | .fmul _ pre _ => preOk pre
  | .fdiv _ pre _ => preOk pre
  | .fsqrt _ pre _ => preOk pre
  | .fmadd _ pre _ => preOk pre
  | .fmin _ pre _ => preOk pre
  | .fmax _ pre _ => preOk pre
  | .feq _ pre _ => preOk pre
  | .flt _ pre _ => preOk pre
  | .fle _ pre _ => preOk pre
  | .fcvtWS _ pre _ => preOk pre
  | .fcvtWuS _ pre _ => preOk pre
  | .fcvtSW _ pre _ => preOk pre
  | .fcvtSWu _ pre _ => preOk pre
  | .mfsr _ pre _ => preOk pre
  | .mtsr _ pre _ => preOk pre
  | .sev _ pre _ => preOk pre
  | .sevr _ pre _ => preOk pre
  | .wfe _ pre _ _ => preOk pre
  | .wfeConsume _ => true
  | .evtst _ pre _ _ => preOk pre
  | .waitt _ pre _ => preOk pre
  | .waittDeadline _ => true
  | .loop _ pre _ end_ => preOk pre && immOk pre end_
  | .loopi _ pre cnt end_ => preOk pre && immOk pre end_ && immOk pre cnt
  | .ckpt _ pre => preOk pre
  | .hold _ pre _ => preOk pre
  | .holdWindowEnd _ => true
  | .rfe _ pre => preOk pre
  | .sync _ pre => preOk pre
  | .ijtBar _ pre _ => preOk pre
  | .ijtFlush _ pre => preOk pre
  | .trap _ pre _ => preOk pre
  | .brk _ pre => preOk pre
  | .wld _ pre _ off _ => preOk pre && immOk pre off
  | .wst _ pre _ off => preOk pre && immOk pre off
  | .wder _ pre _ _ => preOk pre
  | .wrev _ pre _ => preOk pre
  | .wq _ pre _ => preOk pre
  | .wmov _ pre _ => preOk pre
  | .wclr _ pre _ => preOk pre
  | .interruptEntry _ => true
  | .bindLoWrite ini _ => ini.wf
  | .bindHiWrite ini _ => ini.wf
  | .compareMismatch _ _ => true
  | .cmptest _ => true
  | .dmaStart _ => true
  | .dmaStop _ => true
  | .dmaResume _ => true
  | .addlvl _ _ => true
  | .dmaCtlWrite ini _ _ => ini.wf
  | .dmaPaceReady _ => true
  | .dmaRunStart _ => true
  | .dmaBurst _ _ data => dataOk 64 data
  | .dmaRetry _ _ data => dataOk 64 data
  | .blockIssue _ _ => true
  | .flushTimeout _ => true
  | .blockAck _ => true
  | .rdidxWrite _ => true
  | .capEnWrite _ => true
  | .thaw => true
  | .snapArm _ => true
  | .forwardedBlockArrival _ _ _ _ _ bytes _ _ _ _ _ _ => decide (0 < bytes.length) && decide (bytes.length ≤ 4064)
  | .rpon _ => true
  | .rpoff _ => true
  | .rpwrWrite _ _ => true
  | .configRequest _ off _ => off.toNat % 4 == 0
  | .inboundRead f bar off n _ _ _ => decide (0 < n) && decide (n ≤ 4096) && barOk f.val bar.val off
  | .inboundWrite f bar off data _ _ => decide (0 < data.length) && decide (data.length ≤ 512) && barOk f.val bar.val off
  | .prickingWindowWrite _ data => decide (0 < data.length) && decide (data.length ≤ 512)
  | .intentDoorbell v _ _ _ _ _ => v.val != 0
  | .doorbellPublish v => v.val != 0
  | .outboundCompletion _ data => dataOk 12 data
  | .completionTimeout _ => true
  | .swirqGo _ _ => true
  | .flr _ => true
  | .perst => true
  | .dlDown => true
  | .linkTrainingStart => true
  | .aspmEntry st => decide (3 ≤ st.val)
  | .portUp _ _ _ _ _ _ _ => true
  | .braidSeatMismatch _ _ _ => true
  | .portDown _ reason => decide (1 ≤ reason.val) && decide (reason.val ≤ 3)
  | .retrain _ => true
  | .portDownWrite _ _ => true
  | .linkStateMessage _ _ _ _ => true
  | .notrainTimeout _ => true
  | .timeStampExchange _ _ _ _ _ => true
  | .latencyItemArrival _ _ _ _ _ _ _ _ _ _ _ => true
  | .ringSampleRelease _ => true
  | .globalEventRelease _ => true
  | .supplyStart _ => true
  | .bootRomStart _ cmp _ => cmp.length == 8
  | .stopSequence => true
  | .stopAuxOff => true
  | .overvoltage _ => true
  | .overvoltageClear => true
  | .reverseInput _ => true
  | .uvwarn _ _ => true
  | .railFault _ => true
  | .thermalShutdown _ => true
  | .pwrHot _ => true
  | .powerRestart => true
  | .auxLimit _ _ => true
  | .auxRetry _ => true
  | .auxEpisodeEnd _ => true
  | .auxctlWrite _ => true
  | .inputSample _ _ _ _ => true
  | .powerStateEval _ => true
  | .scheduledExit _ => true
  | .unitWake _ => true
  | .exitComplete _ => true
  | .yardEntry => true
  | .yardWake src => src.val != 0
  | .yardExit _ => true
  | .quietLoWrite ini _ => ini.wf
  | .quietHiWrite ini _ => ini.wf
  | .quietEnd => true
  | .xtalLost => true
  | .pllLock _ => true
  | .cpllUnlock => true
  | .kpllUnlock => true
  | .refokSet => true
  | .clkret => true
  | .deviceReset => true
  | .devrstWrite ini _ => ini.wf
  | .funcReset ini _ => ini.wf
  | .funcHreset ini _ => ini.wf
  | .funcHold ini _ => ini.wf
  | .funcHhold ini _ => ini.wf
  | .funcRelease ini _ => ini.wf
  | .funcDrainEnd f => fnNumOk f.val
  | .funcResetEnd f _ => fnNumOk f.val
  | .store ini _ => ini.wf
  | .prog ini _ => ini.wf
  | .keyprog ini _ => ini.wf
  | .keyrev ini _ => ini.wf
  | .option ini _ => ini.wf
  | .nvmWriteDone _ => true
  | .claim ini => ini.wf
  | .release ini => ini.wf
  | .stbufWrite ini _ _ => ini.wf
  | .extest _ => true
  | .samplePreload _ => true
  | .idcode => true
  | .clamp => true
  | .highz => true
  | .dapacc _ _ _ data => dataOk 4 data
  | .bypass => true
  | .tapReset => true
  | .halt _ => true
  | .coreHalted _ => true
  | .step _ => true
  | .resume _ => true
  | .breakpointHit _ => true
  | .rdataAccess _ _ => true
  | .detach _ => true
  | .attach _ => true
  | .dispatch _ => true
  | .lstep _ => true
  | .cont _ => true
  | .gpioOutWrite _ => true
  | .gpioOeWrite _ => true
  | .validationEnd => true
  | .placementEnd => true
  | .pcieLinkUp width speed _ _ => width.val != 0 && speed.val != 0
  | .aspmExit => true
  | .captureBlockAck _ => true
  | .cmptestDone _ _ => true
  | .stateEntryComplete _ => true
  | .vioBankChange _ _ => true

end Sys2Proof
end

