-- ==== Sys2Proof/Certificates/Slice0/Obligations.lean ====
section
/-!
DEFINITION. The statements about the block for the provers, family by family of the opcode table. A statement about a command says, for every state
and operands that meet its hypotheses, that the command answers a next state and what that state holds.
-/
section
open Sys2Proof Sys2Proof.Machine Sys2Proof.Machine.F

/-! ## Core instructions (spec/13) -/

/-- R304, R308, R318: the integer instructions of formats R and I, and the shifts by an immediate, write rd, with immediates extended as R304 says, and
change nothing else but the pc, the loop count, the landing load and the time. -/
def Obligations.IntegerResults : Prop :=
  (∀ p ∈ ([(0x01, Instr.add, fun a b => a + b), (0x02, .sub, fun a b => a - b), (0x03, .and, fun a b => a &&& b), (0x04, .or, fun a b => a ||| b),
      (0x05, .xor, fun a b => a ^^^ b), (0x06, .sll, fun a b => a <<< (b.toNat % 32)), (0x07, .srl, fun a b => a >>> (b.toNat % 32)),
      (0x08, .sra, fun a b => a.sshiftRight (b.toNat % 32)), (0x09, .slt, fun a b => if a.slt b then 1 else 0),
      (0x0A, .sltu, fun a b => if a.ult b then 1 else 0), (0x0B, .min, fun a b => if a.slt b then a else b),
      (0x0C, .max, fun a b => if a.slt b then b else a), (0x0D, .minu, fun a b => if a.ult b then a else b),
      (0x0E, .maxu, fun a b => if a.ult b then b else a), (0x10, .mul, fun a b => a * b),
      (0x11, .mulh, fun a b => ((a.signExtend 64 * b.signExtend 64) >>> 32).setWidth 32),
      (0x12, .mulhu, fun a b => ((a.setWidth 64 * b.setWidth 64) >>> 32).setWidth 32),
      (0x13, .div, fun a b => if b = 0 then BitVec.allOnes 32 else a.sdiv b), (0x14, .divu, fun a b => if b = 0 then BitVec.allOnes 32 else a / b),
      (0x15, .rem, fun a b => if b = 0 then a else a.srem b), (0x16, .remu, fun a b => if b = 0 then a else a % b)]
      : List (Nat × (Fin 16 → List (Fin 16) → BitVec 16 → Instr) × (BitVec 32 → BitVec 32 → BitVec 32))),
    ∀ (c : Fin 16) (pre : List (Fin 16)) (w : BitVec 16) (s : State), s.coreReady c p.1 pre = true → w.toNat < 2 ^ 15 →
      ∃ t, exec (p.2.1 c pre w) s = .next t ∧
        seqOf s t c ((s.core c).arch.setReg (rdOf w.toNat) (p.2.2 (s.x c (rs1Of w.toNat)) (s.x c (rs2Of w.toNat))).toNat) (lenOf p.1 pre)) ∧
  ((∀ p ∈ ([(0x20, false, Instr.addi, fun a b => a + b), (0x21, true, .andi, fun a b => a &&& b), (0x22, true, .ori, fun a b => a ||| b),
      (0x23, true, .xori, fun a b => a ^^^ b), (0x27, false, .slti, fun a b => if a.slt b then 1 else 0),
      (0x28, false, .sltiu, fun a b => if a.ult b then 1 else 0)]
      : List (Nat × Bool × (Fin 16 → List (Fin 16) → BitVec 16 → BitVec 32 → Instr) × (BitVec 32 → BitVec 32 → BitVec 32))),
    ∀ (c : Fin 16) (pre : List (Fin 16)) (w : BitVec 16) (imm : BitVec 32) (s : State),
      s.coreReady c p.1 pre = true → w.toNat < 2 ^ 10 →
      ∃ t, exec (p.2.2.1 c pre w imm) s = .next t ∧
        seqOf s t c ((s.core c).arch.setReg (rdOf w.toNat) (p.2.2.2 (s.x c (rs1Of w.toNat))
          (if p.2.1 then immZ pre imm else immS pre imm)).toNat) (lenOf p.1 pre)) ∧
  ∀ p ∈ ([(0x24, Instr.slli, fun a n => a <<< n), (0x25, .srli, fun a n => a >>> n), (0x26, .srai, fun a n => a.sshiftRight n)]
      : List (Nat × (Fin 16 → List (Fin 16) → BitVec 16 → BitVec 32 → Instr) × (BitVec 32 → Nat → BitVec 32))),
    ∀ (c : Fin 16) (pre : List (Fin 16)) (w : BitVec 16) (imm : BitVec 32) (s : State),
      s.coreReady c p.1 pre = true → w.toNat < 2 ^ 10 → imm.toNat < 32 →
      ∃ t, exec (p.2.1 c pre w imm) s = .next t ∧
        seqOf s t c ((s.core c).arch.setReg (rdOf w.toNat) (p.2.2 (s.x c (rs1Of w.toNat)) imm.toNat).toNat) (lenOf p.1 pre))

/-- R309, R318: the floating-point instructions write rd and OR their flags into FCSR. The arithmetic is that of Machine/Float32.lean (IEEE 754 binary32
under FCSR.RM). -/
def Obligations.FloatingPointResults : Prop :=
  ∀ p ∈ ([(0x50, 15, Instr.fadd, fun rm a b _ => fpAdd rm a b), (0x51, 15, .fsub, fun rm a b _ => fpSub rm a b),
      (0x52, 15, .fmul, fun rm a b _ => fpMul rm a b), (0x53, 15, .fdiv, fun rm a b _ => fpDiv rm a b),
      (0x54, 10, .fsqrt, fun rm a _ _ => fpSqrt rm a), (0x55, 15, .fmadd, fun rm a b d => fpMadd rm d a b),
      (0x56, 15, .fmin, fun _ a b _ => fpMinMax false a b), (0x57, 15, .fmax, fun _ a b _ => fpMinMax true a b),
      (0x58, 15, .feq, fun _ a b _ => fpEq a b), (0x59, 15, .flt, fun _ a b _ => fpLt a b), (0x5A, 15, .fle, fun _ a b _ => fpLe a b),
      (0x5B, 10, .fcvtWS, fun rm a _ _ => fpToS rm a), (0x5C, 10, .fcvtWuS, fun rm a _ _ => fpToU rm a),
      (0x5D, 10, .fcvtSW, fun rm a _ _ => fpOfS rm a), (0x5E, 10, .fcvtSWu, fun rm a _ _ => fpOfU rm a)]
      : List (Nat × Nat × (Fin 16 → List (Fin 16) → BitVec 16 → Instr) × (Nat → Nat → Nat → Nat → Nat × Nat))),
    ∀ (c : Fin 16) (pre : List (Fin 16)) (w : BitVec 16) (s : State), s.coreReady c p.1 pre = true → w.toNat < 2 ^ p.2.1 →
      let q := p.2.2.2 (s.rm c) (s.gr c (rs1Of w.toNat)) (s.gr c (rs2Of w.toNat)) (s.gr c (rdOf w.toNat))
      ∃ t, exec (p.2.2.1 c pre w) s = .next t ∧
        seqOf s t c (({ (s.core c).arch with fcsr := (s.core c).arch.fcsr ||| q.2 } : CArch).setReg (rdOf w.toNat) q.1) (lenOf p.1 pre)

/-- R306, R307: a load that its warrant grants arms its value for the end of the slot instruction; until then the registers hold what they held. -/
def Obligations.LoadsArmTheirValue : Prop :=
  ∀ p ∈ ([(0x30, 1, Instr.lb, fun m a => ((m.rd a).signExtend 32).toNat), (0x31, 1, .lbu, fun m a => (m.rd a).toNat),
      (0x32, 2, .lh, fun m a => ((BitVec.ofNat 16 (m.rdN a 2)).signExtend 32).toNat), (0x33, 2, .lhu, fun m a => m.rdN a 2), (0x34, 4, .lw, fun m a => m.rdN a 4)]
      : List (Nat × Nat × (Fin 16 → List (Fin 16) → BitVec 16 → BitVec 32 → Ecc → Instr) × (Mem → Nat → Nat))),
    ∀ (c : Fin 16) (pre : List (Fin 16)) (w : BitVec 16) (off : BitVec 32) (s : State),
      let a := (s.x c (rs1Of w.toNat) + immS pre off).toNat
      s.coreReady c p.1 pre = true → w.toNat < 2 ^ 10 → a % p.2.1 = 0 → s.tcmGrants c p.1 pre a p.2.1 false = true →
      ∃ t, exec (p.2.2.1 c pre w off .ok) s = .next t ∧ seqOf s t c (s.core c).arch (lenOf p.1 pre) ∧
        (t.core c).pload = some ⟨rdOf w.toNat, p.2.2.2 (s.tcmOf c) a, s.landed c (rdOf w.toNat) (s.gr c (rdOf w.toNat))⟩

/-- R305, R307, R309, R352: a store the warrant grants writes its bytes to the TCM, little-endian, and no other byte; STI writes its immediate. An access through a
null warrant register takes the exception WARRANT with what ECAUSE and EINFO record of it, and neither reads nor writes memory. -/
def Obligations.StoresWriteOrAreRefused : Prop :=
  ((∀ p ∈ ([(0x38, 1, Instr.sb), (0x39, 2, .sh), (0x3A, 4, .sw)] : List (Nat × Nat × (Fin 16 → List (Fin 16) → BitVec 16 → BitVec 32 → Instr))),
    ∀ (c : Fin 16) (pre : List (Fin 16)) (w : BitVec 16) (off : BitVec 32) (s : State),
      let a := (s.x c (rs1Of w.toNat) + immS pre off).toNat
      s.coreReady c p.1 pre = true → w.toNat < 2 ^ 10 → a % p.2.1 = 0 → s.tcmGrants c p.1 pre a p.2.1 true = true → s.noStep = true →
      (s.lockstep c = true → (s.core c).jrnl.length < 512) →
      ∃ t, exec (p.2.2 c pre w off) s = .next t ∧ seqOf s { t with tcm := s.tcm } c (s.core c).arch (lenOf p.1 pre) ∧
        (∀ x, (t.tcmOf c).rd x = if a ≤ x ∧ x < a + p.2.1 then BitVec.ofNat 8 (s.gr c (rdOf w.toNat) / 256 ^ (x - a)) else (s.tcmOf c).rd x) ∧
        (∀ d, d ≠ c.val → t.tcmOf d = s.tcmOf d) ∧ ((s.tcmOf c).wf = true → (t.tcmOf c).wf = true)) ∧
  ∀ (c : Fin 16) (pre : List (Fin 16)) (w : BitVec 16) (off data : BitVec 32) (s : State),
    let a := (s.x c (rs1Of w.toNat) + immS pre off).toNat
    s.coreReady c 0x3B pre = true → w.toNat &&& 0xFC1F = 0 → a % 4 = 0 → s.tcmGrants c 0x3B pre a 4 true = true → s.noStep = true →
    (s.lockstep c = true → (s.core c).jrnl.length < 512) →
    ∃ t, exec (.sti c pre w off data) s = .next t ∧ seqOf s { t with tcm := s.tcm } c (s.core c).arch (lenOf 0x3B pre) ∧
      (∀ x, (t.tcmOf c).rd x = if a ≤ x ∧ x < a + 4 then BitVec.ofNat 8 ((immS pre data).toNat / 256 ^ (x - a)) else (s.tcmOf c).rd x) ∧
      (∀ d, d ≠ c.val → t.tcmOf d = s.tcmOf d) ∧ ((s.tcmOf c).wf = true → (t.tcmOf c).wf = true)) ∧
  (∀ p ∈ ([(0x34, false, fun c pre w off => Instr.lw c pre w off .ok), (0x3A, true, fun c pre w off => .sw c pre w off)]
      : List (Nat × Bool × (Fin 16 → List (Fin 16) → BitVec 16 → BitVec 32 → Instr))),
    ∀ (c : Fin 16) (pre : List (Fin 16)) (w : BitVec 16) (off : BitVec 32) (s : State),
      let a := (s.x c (rs1Of w.toNat) + immS pre off).toNat
      let wr := ((preOf p.1 pre).bind (·.wr)).getD 0
      s.coreReady c p.1 pre = true → w.toNat < 2 ^ 10 → a % 4 = 0 → ((s.core c).arch.wreg wr).handle = 0 → (s.core c).arch.frames.length < 4 →
      s.noStep = true → s.traceQuiet c = true → (s.core c).arch.lcount = 0 →
      ∃ t, exec (p.2.2 c pre w off) s = .next t ∧ onlyCore s t c ∧ (t.core c).epc = (s.core c).arch.pc ∧ (t.core c).einfo = a ∧
        (t.core c).ecause = 4 + 256 * wr + (if (s.core c).pload.isSome then 2 ^ 12 else 0) + (if p.2.1 then 2 ^ 14 else 0) + 2 ^ 16 ∧
        (t.core c).arch.pc = s.rd CP_EVEC_EVEC c ∧ (t.core c).arch.inh = true)

/-- R310, R311, R325, R328: BR transfers on its condition, J and JAL always, at an offset from the next instruction; JAL links in gr31. JR and JALR go to the address
in rs1, which is read before JALR writes its link; with the indirect-target table barred they change nothing else, and otherwise only the table and its
counters. LOOP and LOOPI set LSTART to the next instruction, LEND and LCOUNT; with a count of 0 execution goes on after the instruction at LEND, as the
core's fetch has it, and either way no body is captured any more. -/
def Obligations.ControlTransfers : Prop :=
  (((∀ (c : Fin 16) (pre : List (Fin 16)) (w : BitVec 16) (off : BitVec 32) (s : State),
    let a := s.x c (rdOf w.toNat)
    let b := s.x c (rs1Of w.toNat)
    let taken : Bool := match bits w.toNat 13 10 with
      | 0 => a == b | 1 => a != b | 2 => a.slt b | 3 => b.sle a | 4 => a.ult b | _ => b.ule a
    let nxt := BitVec.ofNat 32 ((s.core c).arch.pc + lenOf 0x40 pre)
    s.coreReady c 0x40 pre = true → w.toNat < 2 ^ 14 → bits w.toNat 13 10 ≤ 5 →
    ∃ t, exec (.br c pre w off) s = .next t ∧ jumpOf s t c (s.core c).arch (if taken then nxt + immS pre off else nxt).toNat) ∧
  (∀ (c : Fin 16) (pre : List (Fin 16)) (off : BitVec 24) (s : State), s.coreReady c 0x44 pre = true →
    ∃ t, exec (.j c pre off) s = .next t ∧
      jumpOf s t c (s.core c).arch (BitVec.ofNat 32 ((s.core c).arch.pc + lenOf 0x44 pre) + off.signExtend 32).toNat) ∧
  ∀ (c : Fin 16) (pre : List (Fin 16)) (off : BitVec 24) (s : State), s.coreReady c 0x45 pre = true →
    let nxt := BitVec.ofNat 32 ((s.core c).arch.pc + lenOf 0x45 pre)
    ∃ t, exec (.jal c pre off) s = .next t ∧ jumpOf s t c ((s.core c).arch.setReg 31 nxt.toNat) (nxt + off.signExtend 32).toNat) ∧
  (∀ p ∈ ([(0x46, 0xFC1F, Instr.jr, false), (0x47, 0xFC00, .jalr, true)] : List (Nat × Nat × (Fin 16 → List (Fin 16) → BitVec 16 → Instr) × Bool)),
    ∀ (c : Fin 16) (pre : List (Fin 16)) (w : BitVec 16) (s : State), s.coreReady c p.1 pre = true → w.toNat &&& p.2.1 = 0 →
      let a := if p.2.2.2 then (s.core c).arch.setReg (rdOf w.toNat) (((s.core c).arch.pc + lenOf p.1 pre) % 2 ^ 32) else (s.core c).arch
      ∃ t, exec (p.2.2.1 c pre w) s = .next t ∧ jumpOf s { t with regs := s.regs } c a (s.gr c (rs1Of w.toNat)) ∧
        sameRegs s t [(CP_IJHIT_COUNT, c), (CP_SQUASH_COUNT, c)] ∧
        ((s.core c).arch.ijbar = true ∨ (s.core c).arch.det = true → t.regs = s.regs ∧ (t.core c).itt = (s.core c).itt ∧ (t.core c).hist = (s.core c).hist))) ∧
  (∀ (c : Fin 16) (pre : List (Fin 16)) (w : BitVec 16) (cnt e : BitVec 32) (s : State),
    ∀ p ∈ ([(0x70, Instr.loop c pre w e, s.x c (rdOf w.toNat)), (0x71, .loopi c pre cnt e, immZ pre cnt)] : List (Nat × Instr × BitVec 32)),
      let start := BitVec.ofNat 32 ((s.core c).arch.pc + lenOf p.1 pre)
      let le := start + immZ pre e
      s.coreReady c p.1 pre = true → w.toNat < 2 ^ 5 → le.toNat ≠ (s.core c).arch.pc →
      ∃ t, exec p.2.1 s = .next t ∧ (t.core c).arch.lstart = start.toNat ∧ (t.core c).arch.lend = le.toNat ∧ (t.core c).arch.lcount = p.2.2.toNat ∧
        (∀ r, t.gr c r = s.landed c r (s.gr c r)) ∧ (s.traceQuiet c = true → onlyCore s t c) ∧ (∀ a, (t.core c).looped a = none) ∧
        (t.core c).arch.pc = (if p.2.2 = 0 then (le.toNat + instrLen ((s.core c).code (s.tcmOf c) le.toNat 15)) % 2 ^ 32 else start.toNat))
/-- R316, R337, R512: TRAP takes its exception: the frame with the pc of the next instruction, ECAUSE and EINFO, INH set, LCOUNT 0, the HOLD window closed, wr7
with the entry warrant, and the core at EVEC. BRK does the same with the pc of the BRK while no debugger claims it; under BRKCLAIM it halts the core with CAUSE 2
and its pc stays at the BRK. -/
def Obligations.TrapAndBreakEnter : Prop :=
  (∀ (c : Fin 16) (pre : List (Fin 16)) (imm : BitVec 8) (s : State),
    ∀ p ∈ ([(0x7C, Instr.trap c pre imm, 5, imm.toNat, ((s.core c).arch.pc + lenOf 0x7C pre) % 2 ^ 32, false), (0x7D, .brk c pre, 6, 0, (s.core c).arch.pc, true)]
      : List (Nat × Instr × Nat × Nat × Nat × Bool)),
      let k := s.core c
      let cause := p.2.2.1 + (if k.pload.isSome then 2 ^ 12 else 0)
      s.coreReady c p.1 pre = true → k.arch.frames.length < 4 → (p.2.2.2.2.2 = true → s.on DBG_C_CTL_BRKCLAIM c = false) →
      ∃ t, exec p.2.1 s = .next t ∧ (t.core c).ecause = cause ∧ (t.core c).einfo = p.2.2.2.1 ∧ (t.core c).epc = p.2.2.2.2.1 ∧
        (t.core c).estatus = k.arch.status ∧ (t.core c).arch.pc = s.rd CP_EVEC_EVEC c ∧ (t.core c).arch.inh = true ∧ (t.core c).arch.lcount = 0 ∧
        (t.core c).arch.hold = 0 ∧ (t.core c).arch.wreg 7 = s.wregFor k.entryw ∧ (∀ i, i ≠ 7 → (t.core c).arch.wreg i = k.arch.wreg i) ∧
        (∀ r, t.gr c r = s.gr c r) ∧ (t.core c).pload = none ∧
        (t.core c).arch.frames = { pc := p.2.2.2.2.1, status := k.arch.status, ecause := cause, einfo := p.2.2.2.1, lstart := k.arch.lstart,
                                   lend := k.arch.lend, lcount := k.arch.lcount, pend := k.pload, wr := k.arch.wr } :: k.arch.frames ∧
        (s.traceQuiet c = true → onlyCore s t c)) ∧
  (∀ (c : Fin 16) (pre : List (Fin 16)) (s : State), s.coreReady c 0x7D pre = true → s.on DBG_C_CTL_BRKCLAIM c = true →
    ∃ t, exec (.brk c pre) s = .next t ∧ (t.core c).st = 4 ∧ (t.core c).arch = (s.core c).arch ∧ t.rd DBG_C_STAT_CAUSE c = 2 ∧
      sameRegs s t [(DBG_C_STAT_CAUSE, c)] ∧ onlyCore s { t with regs := s.regs } c)

/-- R325, R326, R339, R364: RFE pops the newest frame: the pc, the loop registers and STATUS from it; each warrant register null, or the frame's copy while its handle
is still valid, with a bit of WSTALE for each that is not; and the pending load's destination back at its prior value with the load armed again; both fetch
buffers are empty. -/
def Obligations.ReturnRestoresTheFrame : Prop :=
  ∀ (c : Fin 16) (pre : List (Fin 16)) (f : Frame) (rest : List Frame) (s : State),
    s.coreReady c 0x76 pre = true → (s.core c).arch.frames = f :: rest → s.keptBad c = false →
    ∃ t, exec (.rfe c pre) s = .next t ∧ (t.core c).arch.pc = f.pc % 2 ^ 32 ∧ (t.core c).arch.frames = rest ∧
      (t.core c).arch.lstart = f.lstart ∧ (t.core c).arch.lend = f.lend ∧ (t.core c).arch.lcount = f.lcount ∧
      (t.core c).arch.inh = bit f.status 5 ∧ (t.core c).arch.pf = bit f.status 4 ∧ (t.core c).arch.ijbar = bit f.status 2 ∧
      (t.core c).arch.detf = bit f.status 1 ∧ (t.core c).pload = f.pend ∧
      (∀ r, t.gr c r = match f.pend with | some p => (if r ≠ 0 ∧ r = p.d then p.old % 2 ^ 32 else s.landed c r (s.gr c r)) | none => s.landed c r (s.gr c r)) ∧
      (∀ q ∈ (t.core c).arch.wr, q ∈ f.wr ∧ (q.2.handle = 0 ∨ (q.2.stale = false ∧ s.handleBad q.2.handle = 0))) ∧
      (∀ q ∈ f.wr, q.2.handle ≠ 0 → (q.2.stale = true ∨ s.handleBad q.2.handle ≠ 0) → bit (t.core c).arch.wstale q.1 = true) ∧
      (∀ a, (t.core c).looped a = none) ∧ (t.core c).stale = [] ∧ (s.traceQuiet c = true → onlyCore s t c)

/-- R315, R316, R326, R329, R340, R341, R375: NOP and SYNC only complete, and after SYNC the core issues what TCM holds; IJT.BAR sets IJBAR and IJT.FLUSH empties the indirect-target table; CKPT in lockstep records
the core, empties the journal and the log and clears their marks; HOLD opens a window of at most HOLDCAP or closes it; at its end, which
comes once an instruction after HOLD has issued, the window is closed and nothing else of the core changes. -/
def Obligations.MachineControlEffects : Prop :=
  ((∀ (c : Fin 16) (pre : List (Fin 16)) (s : State), ∀ p ∈ ([(0x00, Instr.nop c pre), (0x77, .sync c pre)] : List (Nat × Instr)),
    s.coreReady c p.1 pre = true → ∃ t, exec p.2 s = .next t ∧ seqOf s t c (s.core c).arch (lenOf p.1 pre) ∧
      (p.1 = 0x77 → ∀ a n, t.codeAt c a n = (s.tcmOf c).rdL a n)) ∧
  (∀ (c : Fin 16) (pre : List (Fin 16)) (b : BitVec 8) (s : State), s.coreReady c 0x78 pre = true → b.toNat < 2 →
    ∃ t, exec (.ijtBar c pre b) s = .next t ∧ seqOf s t c { (s.core c).arch with ijbar := decide (b = 1) } (lenOf 0x78 pre)) ∧
  (∀ (c : Fin 16) (pre : List (Fin 16)) (s : State), s.coreReady c 0x79 pre = true →
    ∃ t, exec (.ijtFlush c pre) s = .next t ∧ seqOf s t c (s.core c).arch (lenOf 0x79 pre) ∧ (t.core c).itt = [] ∧ (t.core c).hist = [0, 0, 0, 0]) ∧
  (∀ (c : Fin 16) (pre : List (Fin 16)) (s : State), s.coreReady c 0x74 pre = true →
    ∃ t, exec (.ckpt c pre) s = .next t ∧ seqOf s { t with regs := s.regs } c (s.core c).arch (lenOf 0x74 pre) ∧
      sameRegs s t [(CP_STAT_JVOID, c), (CP_STAT_LOGOVF, c), (CP_MMINFO_SINCE, c)] ∧
      (if s.lockstep c then (t.core c).ckpt = some (t.core c).arch ∧ (t.core c).jrnl = [] ∧ (t.core c).slog = [] ∧ t.rd CP_STAT_JVOID c = 0 ∧
          t.rd CP_STAT_LOGOVF c = 0 ∧ t.rd CP_MMINFO_SINCE c = 0
        else t.regs = s.regs ∧ (t.core c).ckpt = (s.core c).ckpt ∧ (t.core c).jrnl = (s.core c).jrnl ∧ (t.core c).slog = (s.core c).slog)) ∧
  ∀ (c : Fin 16) (pre : List (Fin 16)) (n : BitVec 16) (s : State), s.coreReady c 0x75 pre = true → (n ≠ 0 → (s.core c).arch.hold = 0) →
    ∃ t, exec (.hold c pre n) s = .next t ∧ seqOf s t c (s.core c).arch (lenOf 0x75 pre) ∧
      (t.core c).arch.hold = min n.toNat (match (s.core c).task with | some (_, m, _, _) => m | none => 0)) ∧
  (∀ (c : Fin 16) (s : State), s.supply.up = true → (s.core c).arch.hold ≠ 0 →
    ((s.core c).arch.holdNew = true → (s.core c).wait ≠ .none) →
    ∃ t, exec (.holdWindowEnd c) s = .next t ∧ t.core c = { s.core c with arch := { (s.core c).arch with hold := 0, holdNew := false } } ∧ onlyCore s t c)

/-- R318, R319: MFSR reads a special register into rd, and MTSR writes one. STATUS gives IJBAR and DETF and clears PF where 1 is written. -/
def Obligations.SpecialRegisterMoves : Prop :=
  (∀ (c : Fin 16) (pre : List (Fin 16)) (w : BitVec 16) (s : State),
    let k := s.core c
    ∀ p ∈ ([(0x00, k.arch.status), (0x01, s.rd CP_EVEC_EVEC c), (0x02, k.ecause), (0x03, k.epc), (0x04, k.estatus), (0x05, k.einfo), (0x06, k.arch.wstale),
        (0x08, k.arch.lstart), (0x09, k.arch.lend), (0x0A, k.arch.lcount), (0x0C, match k.task with | some (_, m, _, _) => m | none => 0), (0x10, k.arch.fcsr),
        (0x13, k.instret % 2 ^ 32), (0x18, if s.lockstep c then 16 + c.val / 2 * 2 else c.val)] : List (Nat × Nat)),
      s.coreReady c 0x60 pre = true → w.toNat < 2 ^ 13 → srOf w.toNat = p.1 →
      ∃ t, exec (.mfsr c pre w) s = .next t ∧ seqOf s t c (k.arch.setReg (rdOf w.toNat) p.2) (lenOf 0x60 pre)) ∧
  (∀ (c : Fin 16) (pre : List (Fin 16)) (w : BitVec 16) (s : State),
    let a := (s.core c).arch
    let v := s.gr c (rdOf w.toNat)
    ∀ p ∈ ([(0x00, ({ a with pf := a.pf && !bit v 4, ijbar := bit v 2, detf := bit v 1 } : CArch).detNow),
        (0x06, { a with wstale := (List.range 8).foldl (fun m i => if bit v i then setBit m i false else m) a.wstale }),
        (0x10, { a with fcsr := (List.range 5).foldl (fun m i => if bit v (4 + i) then setBit m (4 + i) false else m) (a.fcsr / 4 * 4) + v % 4 })]
        : List (Nat × CArch)),
      s.coreReady c 0x61 pre = true → w.toNat < 2 ^ 13 → srOf w.toNat = p.1 →
      ∃ t, exec (.mtsr c pre w) s = .next t ∧ seqOf s t c p.2 (lenOf 0x61 pre)) ∧
  ∀ (c : Fin 16) (pre : List (Fin 16)) (w : BitVec 16) (s : State),
    let a := (s.core c).arch
    let v := s.gr c (rdOf w.toNat) % 2 ^ 32
    ∀ p ∈ ([(0x08, { a with lstart := v }), (0x09, { a with lend := v }), (0x0A, { a with lcount := v })] : List (Nat × CArch)),
      s.coreReady c 0x61 pre = true → w.toNat < 2 ^ 13 → srOf w.toNat = p.1 → a.pc ≠ a.lend → a.pc ≠ p.2.lend →
      ∃ t, exec (.mtsr c pre w) s = .next t ∧ p.2.onlyRegs (t.core c).arch ∧ (t.core c).arch.lcount = p.2.lcount ∧
        (t.core c).arch.pc = (a.pc + lenOf 0x61 pre) % 2 ^ 32 ∧ (∀ r, t.gr c r = s.landed c r (s.gr c r)) ∧ onlyCore s t c

/-- R312, R335, R337, R354: SEV and SEVR put an event of a channel that belongs to the core and that their warrant grants in flight, and no other; an interrupt
that a boundary permits is taken: the frame holds the pc of the next instruction, and ECAUSE the lowest enabled request. -/
def Obligations.EventsPublishAndInterruptsEnter : Prop :=
  (∀ (c : Fin 16) (pre : List (Fin 16)) (w : BitVec 16) (s : State),
    ∀ p ∈ ([(0x68, 0xFC00, Instr.sev c pre w, w.toNat % 1024, []), (0x69, 0xFC1F, .sevr c pre w, s.gr c (rs1Of w.toNat) % 1024, [rs1Of w.toNat])]
        : List (Nat × Nat × Instr × Nat × List Nat)),
      let ec := p.2.2.2.1
      let d := s.tickAt (cycTime (s.issueCycle c p.2.2.2.2 + 1 + (if s.lockstep c then 2 else 0)) + 63) + 5
      s.coreReady c p.1 pre = true → w.toNat &&& p.2.1 = 0 → ((s.core c).arch.wreg (((preOf p.1 pre).bind (·.wr)).getD 0)).check 2 1 [(ec, ec)] = 0 →
      ec ∈ s.ecUsed → s.rd EC_CFG_PROD ec = 0x700 + c.val → (s.lockstep c = true → (s.core c).slog.length < 64) →
      ∃ t, exec p.2.2.1 s = .next t ∧ seqOf s { t with flight := s.flight } c (s.core c).arch (lenOf p.1 pre) ∧
        (ec, d) ∈ t.flight ∧ ∀ q, q ∈ t.flight → q = (ec, d) ∨ q ∈ s.flight) ∧
  (∀ (c : Fin 16) (code : Nat) (s : State), s.supply.up = true → s.away 8 = false → s.irq c = some code → s.irqOk c = true → (s.core c).haltReq = false →
    (s.core c).stepping = false → (s.core c).arch.frames.length < 4 →
    ∃ t, exec (.interruptEntry c) s = .next t ∧ (t.core c).ecause = code ∧ (t.core c).epc = (s.core c).arch.pc ∧ (t.core c).wait = .none ∧
      (t.core c).arch.pc = s.rd CP_EVEC_EVEC c ∧ (t.core c).arch.inh = true ∧ (t.core c).arch.lcount = 0 ∧
      (t.core c).arch.frames.tail = (s.core c).arch.frames ∧ (∀ r, t.gr c r = s.gr c r) ∧ (s.traceQuiet c = true → onlyCore s t c))

/-- R255, R313, R314: an event that arrives at a running core adds to its count; WFE and EVTST consume one of the lowest pending input of their mask and write its
number; without one EVTST writes 0xFFFF_FFFF, and WFE waits until the first that appears. WAITT with a deadline that the synchronised device time has passed
completes; with one beyond device time it waits, and the deadline ends the wait no earlier than device time reaches it. -/
def Obligations.CoresWaitForEventsAndTime : Prop :=
  ((∀ (c : Fin 16) (i : Fin 8) (q : Nat × Nat) (s : State), s.supply.up = true → s.away 8 = false →
    (s.core c).evIn.find? (fun p => p.1 == i.val) = some q → (s.core c).st ≠ 0 → mget (s.core c).ev 0 i < 15 →
    ∃ t, exec (.coreEventArrival c i) s = .next t ∧ onlyCore s t c ∧
      t.core c = { s.core c with evIn := (s.core c).evIn.erase q, ev := mset (s.core c).ev 0 i (mget (s.core c).ev 0 i + 1) }) ∧
  (∀ (c : Fin 16) (pre : List (Fin 16)) (rdb mask : BitVec 8) (j : Nat) (s : State),
    ∀ p ∈ ([(0x6A, Instr.wfe c pre rdb mask), (0x6B, .evtst c pre rdb mask)] : List (Nat × Instr)),
      s.coreReady c p.1 pre = true → rdb.toNat < 32 → s.evPick c mask.toNat = some j → (s.lockstep c = true → (s.core c).slog.length < 64) →
      ∃ t, exec p.2 s = .next t ∧ seqOf s t c ((s.core c).arch.setReg rdb.toNat j) (lenOf p.1 pre) ∧
        ∀ i, mget (t.core c).ev 0 i = if i = j then mget (s.core c).ev 0 j - 1 else mget (s.core c).ev 0 i) ∧
  (∀ (c : Fin 16) (pre : List (Fin 16)) (rdb mask : BitVec 8) (s : State), rdb.toNat < 32 → mask ≠ 0 → s.evPick c mask.toNat = none →
    (s.coreReady c 0x6B pre = true → ∃ t, exec (.evtst c pre rdb mask) s = .next t ∧
      seqOf s t c ((s.core c).arch.setReg rdb.toNat (2 ^ 32 - 1)) (lenOf 0x6B pre) ∧ (t.core c).ev = (s.core c).ev) ∧
    (s.coreReady c 0x6A pre = true → ∃ t n, exec (.wfe c pre rdb mask) s = .next t ∧
      t.core c = { s.core c with ilen := lenOf 0x6A pre, wait := .wfe mask.toNat rdb.toNat (lenOf 0x6A pre) n } ∧ onlyCore s t c)) ∧
  ∀ (c : Fin 16) (mask rd len n j : Nat) (s : State), s.supply.up = true → s.away 8 = false → (s.core c).wait = .wfe mask rd len n →
    s.evPick c mask = some j → (s.lockstep c = true → (s.core c).slog.length < 64) → (s.core c).stepping = false →
    ∃ t, exec (.wfeConsume c) s = .next t ∧ (t.core c).wait = .none ∧ seqOf s t c ((s.core c).arch.setReg rd j) len ∧
      ∀ i, mget (t.core c).ev 0 i = if i = j then mget (s.core c).ev 0 j - 1 else mget (s.core c).ev 0 i) ∧
  ((∀ (c : Fin 16) (pre : List (Fin 16)) (w : BitVec 16) (s : State),
    let d := s.gr c (rs1Of w.toNat) + 2 ^ 32 * s.gr c (rs2Of w.toNat)
    s.coreReady c 0x6C pre = true → w.toNat &&& 0x801F = 0 →
    (d ≤ mget s.dtSeen 0 0 → ∃ t, exec (.waitt c pre w) s = .next t ∧ seqOf s { t with dtSeen := s.dtSeen } c (s.core c).arch (lenOf 0x6C pre)) ∧
    ((s.reach (cycTime (s.issueCycle c [rs1Of w.toNat, rs2Of w.toNat]))).tick < d → mget s.dtSeen 0 0 < d →
      ∃ t n, exec (.waitt c pre w) s = .next t ∧ t.core c = { s.core c with ilen := lenOf 0x6C pre, wait := .waitt d (lenOf 0x6C pre) n } ∧
        onlyCore s { t with dtSeen := s.dtSeen } c)) ∧
  ∀ (c : Fin 16) (d len n : Nat) (s : State), s.supply.up = true → s.away 8 = false → (s.core c).wait = .waitt d len n → (s.core c).stepping = false →
    ∃ t, exec (.waittDeadline c) s = .next t ∧ (t.core c).wait = .none ∧ s.etOf d ≤ t.et ∧
      seqOf s { t with dtSeen := s.dtSeen } c (s.core c).arch len)

/-! ## Warrants (spec/15) -/

/-- R317, R367: WMOV copies a warrant register, WCLR empties one, WQ reads a field of one; WLD takes a valid handle from memory with the copy of its entry,
and WST stores the handle that a register holds. -/
def Obligations.WarrantMoves : Prop :=
  (∀ (c : Fin 16) (pre : List (Fin 16)) (w : BitVec 16) (s : State), s.coreReady c 0x85 pre = true → w.toNat < 2 ^ 6 →
    ∃ t, exec (.wmov c pre w) s = .next t ∧
      seqOf s t c ((s.core c).arch.setWreg (w.toNat % 8) ((s.core c).arch.wreg (w.toNat / 8))) (lenOf 0x85 pre)) ∧
  (∀ (c : Fin 16) (pre : List (Fin 16)) (b : BitVec 8) (s : State), s.coreReady c 0x86 pre = true → b.toNat < 8 →
    ∃ t, exec (.wclr c pre b) s = .next t ∧ seqOf s t c ((s.core c).arch.setWreg b.toNat {}) (lenOf 0x86 pre)) ∧
  (∀ (c : Fin 16) (pre : List (Fin 16)) (w : BitVec 16) (s : State), s.coreReady c 0x84 pre = true → w.toNat < 2 ^ 11 →
    ∃ t, exec (.wq c pre w) s = .next t ∧
      seqOf s t c ((s.core c).arch.setReg (rdOf w.toNat) (((s.core c).arch.wreg (bits w.toNat 7 5)).sel (bits w.toNat 10 8))) (lenOf 0x84 pre)) ∧
  (∀ (c : Fin 16) (pre : List (Fin 16)) (w : BitVec 16) (off : BitVec 32) (s : State),
    let a := (s.x c (rs1Of w.toNat) + immS pre off).toNat
    let h := (s.tcmOf c).rdN a 8
    s.coreReady c 0x80 pre = true → w.toNat &&& 0xFC18 = 0 → a % 8 = 0 → s.tcmGrants c 0x80 pre a 8 false = true → s.handleBad h = 0 →
    ∃ t, exec (.wld c pre w off .ok) s = .next t ∧ seqOf s t c ((s.core c).arch.setWreg (w.toNat % 8) (s.wregOf h)) (lenOf 0x80 pre)) ∧
  ∀ (c : Fin 16) (pre : List (Fin 16)) (w : BitVec 16) (off : BitVec 32) (s : State),
    let a := (s.x c (rs1Of w.toNat) + immS pre off).toNat
    s.coreReady c 0x81 pre = true → w.toNat &&& 0xFC18 = 0 → a % 8 = 0 → s.tcmGrants c 0x81 pre a 8 true = true →
    (s.lockstep c = true → (s.core c).jrnl.length < 512) →
    ∃ t, exec (.wst c pre w off) s = .next t ∧ seqOf s { t with tcm := s.tcm } c (s.core c).arch (lenOf 0x81 pre) ∧
      (t.tcmOf c).rdN a 8 = ((s.core c).arch.wreg (w.toNat % 8)).handle % 2 ^ 64 ∧ (∀ x, x < a ∨ a + 8 ≤ x → (t.tcmOf c).rd x = (s.tcmOf c).rd x) ∧
      (∀ d, d ≠ c.val → t.tcmOf d = s.tcmOf d)

/-- R360: WDER derives a warrant whose kind is its parent's and whose rights and range lie inside the parent's, in the lowest free entry, as the parent's
child; no other entry changes. -/
def Obligations.DerivationNeverWidens : Prop :=
  ∀ (c : Fin 16) (pre : List (Fin 16)) (w : BitVec 16) (e : Nat) (s : State),
    let a := s.gr c (bits w.toNat 10 6)
    let p := (s.core c).arch.wreg (bits w.toNat 5 3)
    let d := (s.tcmOf c).rdN a 12
    s.coreReady c 0x82 pre = true → w.toNat < 2 ^ 11 → (s.core c).arch.det = false → a % 4 = 0 → s.tcmGrants c 0x82 pre a 12 false = true →
    p.handle ≠ 0 → p.stale = false → wderOk p d = true → s.wfree = some e → (s.lockstep c = true → (s.core c).slog.length < 64) →
    ∃ t, exec (.wder c pre w .ok) s = .next t ∧ (∀ i, i ≠ e → t.went i = s.went i) ∧ (t.went e).alloc = true ∧
      (t.went e).parent = p.handle % 2 ^ 12 ∧ (t.went e).kind = p.kind ∧ (t.went e).rights &&& p.rights = (t.went e).rights ∧
      p.base ≤ (t.went e).base ∧ (t.went e).base ≤ (t.went e).limit ∧ (t.went e).limit ≤ p.limit ∧
      (t.core c).arch.wreg (w.toNat % 8) = t.wregOf (t.handleOf e) ∧ (∀ i, i ≠ w.toNat % 8 → (t.core c).arch.wreg i = (s.core c).arch.wreg i) ∧
      (∀ r, t.gr c r = s.landed c r (s.gr c r)) ∧ (∀ i, t.tcmOf i = s.tcmOf i) ∧ (∀ i, i ≠ c.val → t.core i = s.core i)

/-- R362, R366: WREV frees every entry of the subtree with its generation advanced, leaves every other entry, and marks stale every warrant register of every
core that held a valid handle of one of them; a handle is bound by two writes of one writer, and an invalid one sets the writer's ERR and binds nothing. -/
def Obligations.RevocationAndBinding : Prop :=
  (∀ (c : Fin 16) (pre : List (Fin 16)) (b : BitVec 8) (s : State),
    let p := (s.core c).arch.wreg b.toNat
    let sub := s.subtree (p.handle % 2 ^ 12)
    s.coreReady c 0x83 pre = true → b.toNat < 8 → (s.core c).arch.det = false → p.handle ≠ 0 → p.stale = false → bit p.rights 7 = true →
    (∀ j ∈ sub, (s.went j).entryw = false) → (s.lockstep c = true → (s.core c).slog.length < 64) →
    ∃ t, exec (.wrev c pre b) s = .next t ∧
      (∀ i, t.went i = if i ∈ sub then { gen := (s.went i).gen + 1 } else s.went i) ∧
      (∀ d i, (t.core d).arch.wreg i = let x := (s.core d).arch.wreg i
        if x.handle % 2 ^ 12 ∈ sub ∧ s.handleBad x.handle = 0 then { x with stale := true } else x) ∧
      (∀ r, t.gr c r = s.landed c r (s.gr c r)) ∧ (∀ i, t.tcmOf i = s.tcmOf i) ∧ t.sram = s.sram) ∧
  (∀ (ini : Initiator) (lo hi : BitVec 32) (s : State), s.supply.up = true →
    let k := initNum ini
    let h := hi.toNat * 2 ^ 32 + lo.toNat
    let f := s.rd WRT_BINDSEL_FN k
    ∃ t u, exec (.bindLoWrite ini lo) s = .next t ∧ t = { s with bindLo := t.bindLo } ∧ mget t.bindLo none k = some lo.toNat ∧
      (∀ j, j ≠ k → mget t.bindLo none j = mget s.bindLo none j) ∧ exec (.bindHiWrite ini hi) t = .next u ∧ mget u.bindLo none k = none ∧
      (s.handleBad h = 0 → u = { s with bindLo := u.bindLo, fns := u.fns } ∧ mget (u.fn f).bound 0 (s.rd WRT_BINDSEL_SLOT k) = h ∧
        (∀ i, i ≠ s.rd WRT_BINDSEL_SLOT k → mget (u.fn f).bound 0 i = mget (s.fn f).bound 0 i) ∧ ∀ g, g ≠ f → u.fn g = s.fn g) ∧
      (s.handleBad h ≠ 0 → u = { s with bindLo := u.bindLo, regs := u.regs, raised := u.raised } ∧ u.rd WRT_BINDSTAT_ERR k = 1 ∧ sameRegs s u [(WRT_BINDSTAT_ERR, k)]))
/-! ## Loop-engine microwords (spec/06) -/

/-- R160, R161: the microwords that write D from a computed value write it, saturated where R161 says so, with Z and N from what was written and S sticky;
every other part of the run and of the device stays. -/
def Obligations.MicrowordResultsAndFlags : Prop :=
  ∀ (e : Fin 56) (d a b : BitVec 4) (imm : BitVec 14) (sh : BitVec 5) (k : BitVec 1) (sa : BitVec 6) (s : State),
    ∀ p ∈ ([(.mov d.toNat a.toNat, .uMov e .ok d a, false, fun r => r.rv a.toNat),
        (.add d.toNat a.toNat b.toNat, .uAdd e .ok d a b, true, fun r => r.rv a.toNat + r.rv b.toNat),
        (.sub d.toNat a.toNat b.toNat, .uSub e .ok d a b, true, fun r => r.rv a.toNat - r.rv b.toNat),
        (.addi d.toNat a.toNat imm.toNat, .uAddi e .ok d a imm, true, fun r => r.rv a.toNat + imm.toInt),
        (.abs d.toNat a.toNat, .uAbs e .ok d a, true, fun r => |r.rv a.toNat|),
        (.min d.toNat a.toNat b.toNat, .uMin e .ok d a b, false, fun r => min (r.rv a.toNat) (r.rv b.toNat)),
        (.max d.toNat a.toNat b.toNat, .uMax e .ok d a b, false, fun r => max (r.rv a.toNat) (r.rv b.toNat)),
        (.clamp d.toNat a.toNat b.toNat, .uClamp e .ok d a b, false, fun r => min (max (r.rv d.toNat) (r.rv a.toNat)) (r.rv b.toNat)),
        (.and d.toNat a.toNat b.toNat, .uAnd e .ok d a b, false, fun r => (BitVec.ofInt 24 (r.rv a.toNat) &&& BitVec.ofInt 24 (r.rv b.toNat)).toInt),
        (.or d.toNat a.toNat b.toNat, .uOr e .ok d a b, false, fun r => (BitVec.ofInt 24 (r.rv a.toNat) ||| BitVec.ofInt 24 (r.rv b.toNat)).toInt),
        (.xor d.toNat a.toNat b.toNat, .uXor e .ok d a b, false, fun r => (BitVec.ofInt 24 (r.rv a.toNat) ^^^ BitVec.ofInt 24 (r.rv b.toNat)).toInt),
        (.shl d.toNat a.toNat sh.toNat, .uShl e .ok d a sh, true, fun r => r.rv a.toNat * 2 ^ sh.toNat),
        (.shr d.toNat a.toNat sh.toNat, .uShr e .ok d a sh, false, fun r => Int.fdiv (r.rv a.toNat) (2 ^ sh.toNat)),
        (.accrd k.toNat d.toNat sa.toNat, .uAccrd e .ok k d sa, true, fun r => Int.fdiv (2 * r.racc k.toNat + 2 ^ sa.toNat) (2 ^ (sa.toNat + 1)))]
        : List (UOp × Instr × Bool × (ERun → Int))),
      s.uReady e p.1 = true →
      let r := s.uRun e p.1
      let x := p.2.2.2 r
      let y := if p.2.2.1 then max (-(2 ^ 23)) (min (2 ^ 23 - 1) x) else x
      ∃ t r', exec p.2.1 s = .next t ∧ s.uStep t e r' ∧ (∀ i, r'.rv i = if i = d.toNat then y else r.rv i) ∧ r'.z = decide (y = 0) ∧
        r'.n = decide (y < 0) ∧ r'.sat = (r.sat || decide (y ≠ x)) ∧
        r' = { r with v := r'.v, z := r'.z, n := r'.n, sat := r'.sat, ready := r'.ready }

/-- R153, R160, R161, R164, R165: the microwords that write D and no flag: constants, MOVS, parameters, data memory and a raw lane's accumulator. ST and ACCSV write
data memory, but not the parameter area; every other byte keeps its value. TLU writes its interpolated value as R161 says. -/
def Obligations.MicrowordLoadsAndStores : Prop :=
  (∀ (e : Fin 56) (d : BitVec 4) (lane n : BitVec 2) (imm : BitVec 22) (hi : BitVec 12) (off : BitVec 14) (idx : BitVec 6) (s : State),
    ∀ p ∈ ([(.ldi d.toNat imm.toNat, .uLdi e .ok d imm, fun _ => imm.toInt),
        (.ldih d.toNat hi.toNat, .uLdih e .ok d hi, fun r => (hi ++ (BitVec.ofInt 24 (r.rv d.toNat)).setWidth 12).toInt),
        (.movs d.toNat 0, .uMovs e .ok d 0, fun r => ((r.qual * 2 ^ 16 + r.seq % 2 ^ 16 : Nat) : Int)),
        (.movs d.toNat 1, .uMovs e .ok d 1, fun r => (((if r.sat then 8 else 0) + (if r.q then 4 else 0) + (if r.n then 2 else 0) + (if r.z then 1 else 0) : Nat) : Int)),
        (.movs d.toNat 2, .uMovs e .ok d 2, fun r => (BitVec.ofNat 24 (s.reach (r.t0 + 32 * s.uCycle e (.movs d.toNat 2))).tick).toInt),
        (.movs d.toNat 3, .uMovs e .ok d 3, fun r => (BitVec.ofNat 24 (2 ^ 12 * s.rd LE_SLOT_JOB_JOB (8 * e + r.slot) + r.slot)).toInt),
        (.prm d.toNat idx.toNat, .uPrm e .ok d idx .ok, fun r => (BitVec.ofNat 24 ((s.eng e).dm.rdN (0xF800 + 0x100 * r.slot + 4 * idx.toNat) 4)).toInt),
        (.ld d.toNat n.toNat off.toNat, .uLd e .ok d n off .ok, fun r => (BitVec.ofNat 24 ((s.eng e).dm.rdN (4 * ((r.ra n.toNat + off.toNat) % 16384)) 4)).toInt),
        (.rawrd d.toNat lane.toNat, .uRawrd e .ok d lane,
          fun _ => if 4 * e.val + lane.toNat ∈ s.lanesOn then (BitVec.ofNat 16 (s.rd LE_RAW_ACC_ACC (4 * e + lane.toNat))).toInt else 0)]
        : List (UOp × Instr × (ERun → Int))),
      s.uReady e p.1 = true → s.engDataOk e = true → (s.uRun e p.1).slot < 8 →
      let r := s.uRun e p.1
      ∃ t r', exec p.2.1 s = .next t ∧ s.uStep t e r' ∧ (∀ i, r'.rv i = if i = d.toNat then p.2.2 r else r.rv i) ∧ r' = { r with v := r'.v, ready := r'.ready }) ∧
  ((∀ (e : Fin 56) (a : BitVec 4) (n : BitVec 2) (off : BitVec 14) (s : State), s.uReady e (.st a.toNat n.toNat off.toNat) = true →
    let r := s.uRun e (.st a.toNat n.toNat off.toNat)
    let w := (r.ra n.toNat + off.toNat) % 16384
    ∃ t, exec (.uSt e .ok a n off) s = .next t ∧ t = { s with engs := t.engs, et := t.et } ∧
      t.eng e = { s.eng e with run := some r, dm := (t.eng e).dm } ∧ (∀ j, j ≠ e.val → t.eng j = s.eng j) ∧
      (∀ x, (t.eng e).dm.rd x = if w < 0x3E00 ∧ 4 * w ≤ x ∧ x < 4 * w + 4 then BitVec.ofNat 8 (((r.rv a.toNat) % 2 ^ 32).toNat / 256 ^ (x - 4 * w))
        else (s.eng e).dm.rd x)) ∧
  (∀ (e : Fin 56) (k : BitVec 1) (n : BitVec 2) (off : BitVec 14) (s : State), s.uReady e (.accsv k.toNat n.toNat off.toNat) = true →
    let r := s.uRun e (.accsv k.toNat n.toNat off.toNat)
    let w := (r.ra n.toNat + off.toNat) % 16384
    let v := BitVec.ofInt 48 (r.racc k.toNat)
    w + 1 < 0x3E00 →
    ∃ t, exec (.uAccsv e .ok k n off) s = .next t ∧ t = { s with engs := t.engs, et := t.et } ∧
      t.eng e = { s.eng e with run := some r, dm := (t.eng e).dm } ∧ (∀ j, j ≠ e.val → t.eng j = s.eng j) ∧
      (t.eng e).dm.rdN (4 * w) 4 = (v.setWidth 24).toNat ∧ (t.eng e).dm.rdN (4 * w + 4) 4 = ((v.extractLsb' 24 24).signExtend 32).toNat ∧
      ∀ x, x < 4 * w ∨ 4 * w + 8 ≤ x → (t.eng e).dm.rd x = (s.eng e).dm.rd x) ∧
  ∀ (e : Fin 56) (d a : BitVec 4) (n : BitVec 2) (off : BitVec 14) (s : State), s.uReady e (.tlu d.toNat a.toNat n.toNat off.toNat) = true →
    s.engDataOk e = true →
    let r := s.uRun e (.tlu d.toNat a.toNat n.toNat off.toNat)
    let word (i : Nat) : Nat := (s.eng e).dm.rdN (4 * ((r.ra n.toNat + i) % 16384)) 4
    let x := s.interp e (word off.toNat) (word (off.toNat + 1)) (r.rv a.toNat)
    let y := max (-(2 ^ 23)) (min (2 ^ 23 - 1) x)
    ∃ t r', exec (.uTlu e .ok d a n off .ok) s = .next t ∧ s.uStep t e r' ∧ (∀ i, r'.rv i = if i = d.toNat then y else r.rv i) ∧ r'.z = decide (y = 0) ∧
      r'.n = decide (y < 0) ∧ r'.sat = (r.sat || decide (y ≠ x)))

/-- R161: the accumulator microwords: exact products and sums, saturated to 48 bits with S sticky; ACCRS takes its 48 bits from two data words. -/
def Obligations.AccumulatorMicrowords : Prop :=
  ∀ (e : Fin 56) (k : BitVec 1) (a b : BitVec 4) (sh : BitVec 6) (n : BitVec 2) (off : BitVec 14) (s : State),
    let word (r : ERun) (i : Nat) : Nat := (s.eng e).dm.rdN (4 * ((r.ra n.toNat + i) % 16384)) 4 % 2 ^ 24
    ∀ p ∈ ([(.mul k.toNat a.toNat b.toNat, .uMul e .ok k a b, false, fun r => r.rv a.toNat * r.rv b.toNat),
        (.mac k.toNat a.toNat b.toNat, .uMac e .ok k a b, true, fun r => r.racc k.toNat + r.rv a.toNat * r.rv b.toNat),
        (.msu k.toNat a.toNat b.toNat, .uMsu e .ok k a b, true, fun r => r.racc k.toNat - r.rv a.toNat * r.rv b.toNat),
        (.accld k.toNat a.toNat sh.toNat, .uAccld e .ok k a sh, true, fun r => r.rv a.toNat * 2 ^ sh.toNat),
        (.accadd k.toNat a.toNat sh.toNat, .uAccadd e .ok k a sh, true, fun r => r.racc k.toNat + r.rv a.toNat * 2 ^ sh.toNat),
        (.accsum k.toNat, .uAccsum e .ok k, true, fun r => r.racc k.toNat + r.racc (1 - k.toNat)),
        (.accclr k.toNat, .uAccclr e .ok k, false, fun _ => 0),
        (.accrs k.toNat n.toNat off.toNat, .uAccrs e .ok k n off .ok, false,
          fun r => (BitVec.ofNat 48 (word r off.toNat + 2 ^ 24 * word r (off.toNat + 1))).toInt)]
        : List (UOp × Instr × Bool × (ERun → Int))),
      s.uReady e p.1 = true → s.engDataOk e = true →
      let r := s.uRun e p.1
      let x := p.2.2.2 r
      let y := if p.2.2.1 then max (-(2 ^ 47)) (min (2 ^ 47 - 1) x) else x
      ∃ t r', exec p.2.1 s = .next t ∧ s.uStep t e r' ∧ (∀ i, r'.racc i = if i = k.toNat then y else r.racc i) ∧ r'.sat = (r.sat || decide (y ≠ x)) ∧
        r' = { r with acc := r'.acc, sat := r'.sat, ready := r'.ready }

/-- R160, R167 to R169: the microwords of control and addressing: where the run goes on, the return stack, the address registers, and what CMP sets. -/
def Obligations.MicrowordControl : Prop :=
  (∀ (e : Fin 56) (tgt : BitVec 12) (cond d a b : BitVec 4) (n : BitVec 2) (off : BitVec 14) (s : State),
    ∀ p ∈ ([(.nop, .uNop e .ok, fun r => r), (.jmp tgt.toNat, .uJmp e .ok tgt, fun r => { r with pc := tgt.toNat }),
        (.br cond.toNat tgt.toNat, .uBr e .ok cond tgt, fun r => if r.cond cond.toNat then { r with pc := tgt.toNat } else r),
        (.dbnz d.toNat tgt.toNat, .uDbnz e .ok d tgt, fun r =>
          let x := (BitVec.ofInt 24 (r.rv d.toNat - 1)).toInt
          { r with v := mset r.v 0 d.toNat x, pc := if x = 0 then r.pc else tgt.toNat }),
        (.call tgt.toNat, .uCall e .ok tgt, fun r => if r.stack.length < 8 then { r with stack := r.pc :: r.stack, pc := tgt.toNat } else r),
        (.ret, .uRet e .ok, fun r => match r.stack with | [] => r | x :: st => { r with stack := st, pc := x }),
        (.cmp a.toNat b.toNat, .uCmp e .ok a b, fun r => { r with z := decide (r.rv a.toNat = r.rv b.toNat), n := decide (r.rv a.toNat < r.rv b.toNat) }),
        (.lda n.toNat off.toNat, .uLda e .ok n off, fun r => { r with a := mset r.a 0 n.toNat off.toNat }),
        (.adda n.toNat off.toNat, .uAdda e .ok n off, fun r => { r with a := mset r.a 0 n.toNat (((r.ra n.toNat : Int) + off.toInt) % 2 ^ 14).toNat })]
        : List (UOp × Instr × (ERun → ERun))),
      s.uReady e p.1 = true → (p.1 = .call tgt.toNat → (s.uRun e p.1).stack.length < 8) → (p.1 = .ret → (s.uRun e p.1).stack ≠ []) →
      ∃ t r', exec p.2.1 s = .next t ∧ s.uStep t e r' ∧ r' = { p.2.2 (s.uRun e p.1) with ready := r'.ready }) ∧
  ∀ (e : Fin 56) (s : State), s.uReady e .fin = true →
    let r := s.uRun e .fin
    let i := 8 * e.val + r.slot
    ∃ t, exec (.uEnd e .ok) s = .next t ∧ t = { s with engs := t.engs, regs := t.regs, et := t.et } ∧
      t.eng e = { s.eng e with run := none, freeAt := r.t0 + 32 * (r.steps + 1) } ∧ (∀ j, j ≠ e.val → t.eng j = s.eng j) ∧
      sameRegs s t [(LE_SLOT_STAT_MAXSTEPS, i)] ∧
      (e.val < 48 → t.rd LE_SLOT_STAT_MAXSTEPS i = max (s.rd LE_SLOT_STAT_MAXSTEPS i) r.steps % 2 ^ LE_SLOT_STAT_MAXSTEPS.w)

/-- R129, R130, R134, R162 to R164, R166, R183: FETCH puts its sample in flight to D; POST and SPOST send the posted values to a leg of the job; RAWTH gives a bound lane
its thresholds in the next cycle, and RAWCFG a lane its descriptor after its second microstep; SIG puts its channels' events in flight. -/
def Obligations.MicrowordOutputs : Prop :=
  (∀ (e : Fin 56) (d : BitVec 4) (slot : BitVec 10) (s : State), s.uReady e (.fetch d.toNat slot.toNat) = true →
    let r := s.uRun e (.fetch d.toNat slot.toNat)
    ∃ t r' due, exec (.uFetch e .ok d slot) s = .next t ∧ s.uStep t e r' ∧
      s.uCycle e (.fetch d.toNat slot.toNat) + (if slot.toNat < 64 ∧ slot.toNat / 8 = engTile e then 2 else 4) ≤ due ∧
      r' = { r with fetches := r.fetches ++ [⟨d.toNat, due, (s.xslot slot.toNat).1, (s.xslot slot.toNat).2.1, (s.xslot slot.toNat).2.2⟩], ready := r'.ready }) ∧
  (∀ (e : Fin 56) (leg : BitVec 6) (vs vd : BitVec 4) (mask : BitVec 5) (s : State),
    ∀ p ∈ ([(.post leg.toNat vs.toNat mask.toNat, .uPost e .ok leg vs mask, false, fun r => (List.range 5).map fun i =>
          if bit mask.toNat (4 - i) then some (r.rv (vs.toNat + ((List.range i).filter fun j => bit mask.toNat (4 - j)).length)) else none),
        (.spost leg.toNat vs.toNat vd.toNat, .uSpost e .ok leg vs vd, true, fun r => [some (r.rv vs.toNat), some (r.rv vd.toNat)])]
        : List (UOp × Instr × Bool × (ERun → List (Option Int)))),
      e.val < 48 → s.uReady e p.1 = true → leg.toNat < 48 → bit (s.slotMask e (s.uRun e p.1).slot) leg.toNat = true →
      ∃ t q, exec p.2.1 s = .next t ∧ t = { s with posts := s.posts ++ [q], engs := t.engs, et := t.et } ∧ q.engine = e.val ∧ q.leg = leg.toNat ∧
        q.slope = p.2.2.1 ∧ q.vals = p.2.2.2 (s.uRun e p.1) ∧ q.fallback = false ∧
        q.due = (s.uRun e p.1).t0 + 32 * (s.uCycle e p.1 + (if leg.toNat / 6 = e.val / 6 then 3 else 5)) ∧
        t.eng e = { s.eng e with run := some { s.uRun e p.1 with posted := true } } ∧ ∀ j, j ≠ e.val → t.eng j = s.eng j) ∧
  (∀ (e : Fin 56) (leg : BitVec 6) (vs : BitVec 4) (mask : BitVec 5) (s : State), 48 ≤ e.val → s.uReady e (.post leg.toNat vs.toNat mask.toNat) = true →
    ∃ t l, exec (.uPost e .ok leg vs mask) s = .next t ∧ t = { s with engs := t.engs, et := t.et } ∧
      t.eng e = { s.eng e with run := some (s.uRun e (.post leg.toNat vs.toNat mask.toNat)), post := some (leg.toNat, mask.toNat, l) }) ∧
  (∀ (e : Fin 56) (lane : BitVec 2) (a b : BitVec 4) (s : State), s.uReady e (.rawth lane.toNat a.toNat b.toNat) = true →
    let r := s.uRun e (.rawth lane.toNat a.toNat b.toNat)
    let c (x : Int) : Int := max (-(2 ^ 15)) (min (2 ^ 15 - 1) x)
    let x := c (r.rv a.toNat)
    let y := c (r.rv b.toNat)
    ∃ t, exec (.uRawth e .ok lane a b) s = .next t ∧ t = { s with engs := t.engs, et := t.et } ∧ (∀ j, j ≠ e.val → t.eng j = s.eng j) ∧
      (4 * e.val + lane.toNat ∈ s.lanesOn → ∃ r', t.eng e = { s.eng e with run := some r', laneWr := (s.eng e).laneWr ++
          [(.th lane.toNat (x % 2 ^ 16).toNat (y % 2 ^ 16).toNat, r.t0 + 32 * (s.uCycle e (.rawth lane.toNat a.toNat b.toNat) + 1))] } ∧
        r' = { r with sat := r.sat || decide (x ≠ r.rv a.toNat ∨ y ≠ r.rv b.toNat), ready := r'.ready }) ∧
      (4 * e.val + lane.toNat ∉ s.lanesOn → t.eng e = { s.eng e with run := some r })) ∧
  (∀ (e : Fin 56) (lane n : BitVec 2) (off : BitVec 14) (s : State), s.uReady e (.rawcfg lane.toNat n.toNat off.toNat) = true → s.engDataOk e = true →
    let r := s.uRun e (.rawcfg lane.toNat n.toNat off.toNat)
    let d0 := (s.eng e).dm.rdN (4 * ((r.ra n.toNat + off.toNat) % 16384)) 4
    let d1 := (s.eng e).dm.rdN (4 * ((r.ra n.toNat + (off.toNat + 1)) % 16384)) 4
    e.val < 48 → ∃ t, exec (.uRawcfg e .ok lane n off .ok) s = .next t ∧ t = { s with engs := t.engs, et := t.et } ∧ (∀ j, j ≠ e.val → t.eng j = s.eng j) ∧
      t.eng e = { s.eng e with run := some r, laneWr := (s.eng e).laneWr ++
        [(.cfg r.slot lane.toNat d0 d1, r.t0 + 32 * (s.uCycle e (.rawcfg lane.toNat n.toNat off.toNat) + 2))] }) ∧
  ∀ (e : Fin 56) (k : BitVec 2) (s : State), s.uReady e (.sig k.toNat) = true → e.val < 48 →
    ∃ t, exec (.uSig e .ok k) s = .next t ∧ t = { s with engs := t.engs, et := t.et, flight := t.flight } ∧
      t.eng e = { s.eng e with run := some (s.uRun e (.sig k.toNat)) } ∧
      (∀ c ∈ s.ecUsed, s.rd EC_CFG_PROD c = 0x300 + 4 * e.val + k.toNat → s.ringOut c = false → (c, t.tickAt (t.et + 95) + 2) ∈ t.flight) ∧
      ∀ q ∈ t.flight, q ∈ s.flight ∨ (q.1 ∈ s.ecUsed ∧ s.rd EC_CFG_PROD q.1 = 0x300 + 4 * e.val + k.toNat)

/-! ## Loop engines (spec/05, spec/06) -/

/-- R120 to R123, R223: a trigger that a slot can take sets its pending flag and keeps its instant of arrival, whether it arrives or was held and is presented;
a free engine dispatches its lowest pending slot at its entry address and clears the flag. -/
def Obligations.TriggersPendAndDispatch : Prop :=
  (∀ (e : Fin 48) (slot : Fin 8) (p : Nat × Nat × Nat) (s : State),
    let i := 8 * e.val + slot.val
    s.supply.up = true → s.away (e / 6) = false → s.trigs.find? (fun q => q.1 == e.val && q.2.1 == slot.val) = some p → (s.eng e).holdP = 0 →
    (s.eng e).mode = .normal → s.committed.isSome = true → i ∈ s.slotsUsed → s.rd LE_SLOT_STAT_PENDING i = 0 → mget (s.eng e).disp none slot = none →
    ∃ t, exec (.jobTrigger e slot) s = .next t ∧ t = { s with trigs := s.trigs.erase p, engs := t.engs, regs := t.regs, et := t.et } ∧
      t.rd LE_SLOT_STAT_PENDING i = 1 ∧ sameRegs s t [(LE_SLOT_STAT_PENDING, i)] ∧ mget (t.eng e).pend 0 slot = engCeil p.2.2 ∧
      t.eng e = { s.eng e with pend := (t.eng e).pend }) ∧
  (∀ (e : Fin 48) (slot : Fin 8) (p : Nat × Nat) (s : State),
    let i := 8 * e.val + slot.val
    s.supply.up = true → (s.eng e).held.find? (fun q => q.1 == slot.val) = some p → (s.eng e).mode = .normal → s.committed.isSome = true → i ∈ s.slotsUsed →
    s.rd LE_SLOT_STAT_PENDING i = 0 → mget (s.eng e).disp none slot = none →
    ∃ t, exec (.heldTriggerPresent e slot) s = .next t ∧ t.rd LE_SLOT_STAT_PENDING i = 1 ∧ sameRegs s t [(LE_SLOT_STAT_PENDING, i)] ∧
      t.eng e = { s.eng e with held := (s.eng e).held.erase p, pend := (t.eng e).pend } ∧ mget (t.eng e).pend 0 slot = p.2) ∧
  ∀ (e : Fin 48) (slot : Nat) (rest : List Nat) (s : State),
    let x := s.eng e
    let i := 8 * e.val + slot
    let ps := (s.engSlots e).filter fun j => s.on LE_SLOT_STAT_PENDING (8 * e + j)
    s.supply.up = true → s.away (e / 6) = false → ps = slot :: rest → (∀ j ∈ ps, mget x.pend 0 j ≤ x.freeAt) → x.mode = .normal → x.run = none → x.disReq = false →
    s.rd PRK_STATE_OP 0 ≠ 3 → s.fnDrains (0x60 + e) = false →
    ∃ t, exec (.jobDispatch e) s = .next t ∧ (t.eng e).run = some { slot := slot, t0 := engCeil x.freeAt, pc := s.rd LE_SLOT_CODE_ENTRY i, at_ := s.rd LE_SLOT_CODE_ENTRY i } ∧
      t.rd LE_SLOT_STAT_PENDING i = 0 ∧ sameRegs s t [(LE_SLOT_STAT_PENDING, i), (LE_SLOT_STAT_WAITMAX, i)] ∧
      t = { s with engs := t.engs, regs := t.regs, et := t.et } ∧ ∀ j, j ≠ e.val → t.eng j = s.eng j

/-- R126, R140, R143, R173: a run that reaches its budget, and HDISABLE, drop the run and start the horizontal program in the next ENG cycle; a horizontal word
applies its updates, its counter and its branch; LEn_FBLIM ends fallback with the engine faulted; a FETCH result that arrives reaches its register. -/
def Obligations.FallbackStartsRunsAndEnds : Prop :=
  (∀ (e : Fin 48) (s : State), s.supply.up = true → (s.eng e).mode = .normal →
    ((s.eng e).run.isSome = true → ∃ t n, exec (.budgetExpiry e) s = .next t ∧ (t.eng e).mode = .fallback ∧ (t.eng e).run = none ∧
      (t.eng e).fb = some { start := n, next := n } ∧ t.et ≤ n ∧ n ≤ t.et + 32 ∧ n % 32 = 0 ∧
      ((s.eng e).laneWr = [] → n < t.et + 32)) ∧
    ((∀ w, (s.ltile (e / 6)).cur = some w → w.req.role ≠ e.val) → ∃ t n, exec (.hdisable e) s = .next t ∧ (t.eng e).mode = .fallback ∧
      (t.eng e).run = none ∧ (t.eng e).fb = some { start := n, next := n } ∧ t.et < n ∧ n ≤ t.et + 32 ∧ n % 32 = 0)) ∧
  (∀ (e : Fin 56) (f : FbRun) (s : State),
    let w := mget (s.eng e).hs (2 ^ 159) f.pc
    let cnt := if bits w 131 130 = 1 then bits w 147 132 else if bits w 131 130 = 2 then f.cnt - 1 else f.cnt
    let jump : Prop := bits w 150 148 = 1 ∨ (bits w 150 148 = 2 ∧ cnt = 0) ∨ (bits w 150 148 = 3 ∧ cnt ≠ 0) ∨
      (bits w 150 148 = 4 ∧ (s.leg (bits w 111 106)).latch = true)
    s.supply.up = true → (s.eng e).fb = some f → (e.val < 48 → f.next < f.start + 32 * s.rd LE_FBLIM_LIMIT e) → s.badCw = [] →
    bits w 97 96 = 1 → bits w 69 68 = 1 → bits w 105 104 = 0 → bit w 36 = false → bit w 43 = false → bit w 159 = false →
    ∃ t g, exec (.fallbackWord e .ok .ok) s = .next t ∧ t = { s with engs := t.engs, et := t.et } ∧ t.eng e = { s.eng e with fb := some g } ∧
      (∀ j, j ≠ e.val → t.eng j = s.eng j) ∧ g.start = f.start ∧ g.next = f.next + 32 * (1 + bits w 127 112) ∧ g.cnt = cnt ∧
      (∀ j, mget g.h 0 j = if j = bits w 71 70 then bits w 67 44 else if j = bits w 99 98 then bits w 95 72 else mget f.h 0 j) ∧
      (jump → g.pc = bits w 158 151) ∧ (¬ jump → g.pc = (f.pc + 1) % 256)) ∧
  (∀ (e : Fin 56) (f : FbRun) (s : State), s.supply.up = true → e.val < 48 → (s.eng e).fb = some f → (s.eng e).mode = .fallback → (s.eng e).rst = false →
    ∃ t, exec (.fblimExpiry e) s = .next t ∧ t.eng e = { s.eng e with mode := .faulted, fb := none } ∧ f.start + 32 * s.rd LE_FBLIM_LIMIT e ≤ t.et) ∧
  ∀ (e : Fin 56) (r : ERun) (f : Fetch) (s : State), s.supply.up = true → (s.eng e).run = some r → r.fetches = [f] →
    ∃ t, exec (.fetchResult e) s = .next t ∧ s.uStep t e { r with v := mset r.v 0 f.d f.value, qual := f.qual, seq := f.seq, q := f.qual != 0, fetches := [] }

/-- R129, R132 to R135, R164, R181 to R185: a leg takes the oldest post addressed to it, and an edge of the present period that comes within 2.5 ns stays as it
was; a raw lane accumulates a code of its source; a binding takes effect in its cycle; a blanking interval ends with both actions armed; and the force-off,
force-on and restart requests of raw lanes act on an ACTIVE leg 1.6 ns after they are accepted. -/
def Obligations.PostsAndRawLanesAct : Prop :=
  ((∀ (k : Fin 48) (q : Post) (s : State), s.supply.up = true → s.away (k / 6) = false → s.posts.find? (fun q => q.leg == k.val) = some q →
    s.step12 = false → q.cp = none → q.fallback = false → (s.leg k).st ≠ .fallback →
    (q.slope = true → ∀ vd vsl, q.vals = [some vd, some vsl] →
      ∃ t, exec (.postAccept k) s = .next t ∧ t.posts = s.posts.erase q ∧ t.rd L_SDUTY_VALUE k = (vd % 2 ^ 24).toNat ∧
        t.rd L_SSLOPE_VALUE k = (vsl % 2 ^ 24).toNat ∧ t.rd L_STAT_SLOPE k = 1 ∧
        sameRegs s t [(L_SDUTY_VALUE, k), (L_SSLOPE_VALUE, k), (L_STAT_SLOPE, k), (L_STAT_LATECNT, k)]) ∧
    (q.slope = false → ∀ v0 v1 : Nat, v0 < 2 ^ 23 → v1 < 2 ^ 23 → q.vals = [none, some (v0 : Int), some (v1 : Int), none, none] →
      ∃ t, exec (.postAccept k) s = .next t ∧ t.posts = s.posts.erase q ∧ t.rd L_EDGE_TIME (4 * k) = v0 ∧ t.rd L_EDGE_TIME (4 * k + 1) = v1 ∧
        t.rd L_STAT_SLOPE k = 0 ∧ sameRegs s t [(L_EDGE_TIME, 4 * k), (L_EDGE_TIME, 4 * k + 1), (L_STAT_SLOPE, k), (L_STAT_LATECNT, k)] ∧
        ∀ p, (s.leg k).pstart = some p → (s.leg k).eff = s.plan k → s.on L_STAT_SLOPE k = false →
          ∀ j ∈ ([(0, v0), (1, v1)] : List (Nat × Nat)), let old := s.rd L_EDGE_TIME (4 * k + j.1)
            (t.leg k).eff.getD j.1 (.tick 0) = .tick (if old = j.2 ∨ p + old < t.et + 128 then old else if p + j.2 < t.et + 82 then t.et + 82 - p else j.2))) ∧
  (∀ (k : Fin 48) (r : LaneReq) (s : State), s.supply.up = true → s.away (k / 6) = false → s.step12 = false → (∀ q ∈ s.posts, q.leg ≠ k.val) →
    (s.leg k).st = .active → s.firstReq k = some r → s.planQuiet k (r.due + 82) = true →
    (r.action = 1 → (s.leg k).onH.isSome = true →
      ∃ t, exec (.forceOff k) s = .next t ∧ (t.leg k).onH = none ∧ t.rd L_STAT_HOUT k = 0 ∧ (t.leg k).st = .active ∧ t.et = max s.et r.due ∧
        (s.on L_STAT_HOUT k = true → (t.leg k).hiOff = some (r.due + 82))) ∧
    (r.action = 2 → (s.leg k).onH = none → (s.leg k).pstart.isSome = true → (s.leg k).offAt ≠ some r.due →
      (∀ q ∈ s.laneReqs, q.leg = k.val → q.due = r.due → q.action ≠ 1) →
      ∃ t, exec (.forceOn k) s = .next t ∧ (t.leg k).st = .active ∧ (t.leg k).onH = some ⟨2, r.due + 82, s.rd L_MINON_MINON k, s.rd L_MAXON_MAXON k⟩) ∧
    (r.action = 3 → (s.leg k).recent = [] →
      ∃ t, exec (.restartPeriod k) s = .next t ∧ (t.leg k).pstart = some (r.due + 82) ∧ (t.leg k).plen = s.legPeriod k ∧
        (t.leg k).eff = s.plan k ∧ (t.leg k).done = []))) ∧
  (∀ (e : Fin 48) (j : Fin 4) (c : Nat) (rest : List Nat) (s : State),
    let l := 4 * e.val + j.val
    let a := (BitVec.ofNat 16 (s.rd LE_RAW_ACC_ACC l)).toInt
    let lk := s.rd LE_RAW_CFG_LEAK l
    let x := max (-(2 ^ 15)) (min (2 ^ 15 - 1) (a - (if lk = 0 then 0 else Int.fdiv a (2 ^ lk)) + (2 * (c : Int) - 15)))
    s.supply.up = true → (∀ p ∈ (s.eng e).laneWr, s.et < p.2) → mget s.laneIn [] l = c :: rest → l ∈ s.lanesOn →
    ∃ t, exec (.rawLaneCode e j) s = .next t ∧ t.rd LE_RAW_ACC_ACC l = (x % 2 ^ 16).toNat ∧ mget t.laneIn [] l = rest ∧
      sameRegs s t [(LE_RAW_ACC_ACC, l), (LE_RAW_ACC_REQS, l)] ∧ t = { s with engs := t.engs, regs := t.regs, laneIn := t.laneIn, laneReqs := t.laneReqs }) ∧
  (∀ (e : Fin 48) (j : Fin 4) (slot d0 d1 d : Nat) (s : State),
    let l := 4 * e.val + j.val
    s.supply.up = true → (s.eng e).laneWr = [(.cfg slot j d0 d1, d)] → d ≤ s.et → bit d0 31 = true → bits d0 13 8 / 8 = e.val / 6 →
    bits d0 19 14 / 6 = e.val / 6 → bit (s.slotMask e slot) (bits d0 19 14) = true →
    ∃ t, exec (.rawLaneCode e j) s = .next t ∧ l ∈ t.lanesOn ∧ t.rd LE_RAW_CFG_EN l = 1 ∧ t.rd LE_RAW_CFG_MOD l = bits d0 13 8 ∧
      t.rd LE_RAW_CFG_LEG l = bits d0 19 14 ∧ t.rd LE_RAW_CFG_BLANK l = bits d0 7 0 ∧ t.rd LE_RAW_TH_HI l = bits d1 31 16 ∧
      t.rd LE_RAW_TH_LO l = bits d1 15 0 ∧ t.rd LE_RAW_ACC_ACC l = 0 ∧ (t.eng e).laneWr = [] ∧
      t = { s with engs := t.engs, regs := t.regs, lanesOn := t.lanesOn, laneIn := t.laneIn }) ∧
  ∀ (e : Fin 48) (j : Fin 4) (n : Nat) (s : State), s.supply.up = true → (mget (s.eng e).lanes {} j).blank = some n →
    ∃ t, exec (.blankEnd e j) s = .next t ∧ t.eng e = { s.eng e with lanes := mset (s.eng e).lanes {} j { hi := true, lo := true, blank := none } } ∧
      32 * (n + s.rd LE_RAW_CFG_BLANK (4 * e + j) + 1) ≤ t.et ∧ t = { s with engs := t.engs, et := t.et }

/-- R136 to R138: a data write is held for its writer; a push with room enters the FIFO with the fields of the write and the writer's data, a core's at
once and any other 2.0 ns to 3.0 ns later; an entry that has
crossed is visible; and an idle engine applies a visible group to its parameter block. -/
def Obligations.MailboxCarriesParameters : Prop :=
  (∀ (ini : Initiator) (e : Fin 48) (w : BitVec 32) (s : State), s.supply.up = true →
    ∃ t, exec (.mboxDataWrite ini e w) s = .next t ∧ t.rd LE_MBOX_DATA_VALUE (32 * e + initNum ini) = w.toNat ∧
      t = { s with regs := t.regs } ∧ sameRegs s t [(LE_MBOX_DATA_VALUE, 32 * e + initNum ini)]) ∧
  (∀ (ini : Initiator) (e : Fin 48) (w : BitVec 32) (s : State), s.supply.up = true → bit w.toNat 31 = true → (s.eng e).mbox.length < 8 →
    (∀ p ∈ (s.eng e).pushes, s.et < p.enter) → (∀ q ∈ (s.eng e).mbox, coreCyc q.enter ≠ coreCyc s.et) →
    ∃ t m, exec (.mboxPush ini e w) s = .next t ∧ m.slot = bits w.toNat 11 9 ∧ m.index = bits w.toNat 5 0 ∧ m.hold = bit w.toNat 8 ∧
      m.value = s.rd LE_MBOX_DATA_VALUE (32 * e + initNum ini) ∧ m.due.isSome = true ∧ t = { s with engs := t.engs, regs := t.regs, fv := t.fv } ∧
      ((∃ c, ini = .core c) → m.enter = s.et ∧ t.eng e = { s.eng e with mbox := (s.eng e).mbox ++ [m] }) ∧
      ((∀ c, ini ≠ .core c) → s.et + 103 ≤ m.enter ∧ m.enter ≤ s.et + 153 ∧ t.eng e = { s.eng e with pushes := (s.eng e).pushes ++ [m] })) ∧
  (∀ (e : Fin 48) (m : MbEntry) (s : State), s.supply.up = true → (s.eng e).pushes = [] → (s.eng e).mbox.find? (fun m => m.due.isSome) = some m →
    ∃ t, exec (.mboxEntryVisible e) s = .next t ∧ (t.eng e).mbox.length = (s.eng e).mbox.length ∧ { m with due := none } ∈ (t.eng e).mbox ∧
      m.due.getD 0 ≤ t.et ∧ t = { s with engs := t.engs, et := t.et }) ∧
  ∀ (e : Fin 48) (m : MbEntry) (rest : List MbEntry) (s : State),
    let a := 0xF800 + 0x100 * m.slot + 4 * m.index
    s.supply.up = true → s.away (e / 6) = false → (s.eng e).pushes = [] → (s.eng e).mbox = m :: rest → m.hold = false → m.due = none → (s.eng e).run = none →
    (s.eng e).staged = false → (∀ j ∈ s.engSlots e, s.on LE_SLOT_STAT_PENDING (8 * e + j) = false) → 8 * e.val + m.slot ∈ s.slotsUsed →
    m.index < mget (s.eng e).plen 0 m.slot →
    ∃ t, exec (.mboxGroupApply e) s = .next t ∧ t.eng e = { s.eng e with mbox := rest, dm := (t.eng e).dm } ∧
      (t.eng e).dm.rdN a 4 = m.value % 2 ^ 32 ∧ (∀ x, x < a ∨ a + 4 ≤ x → (t.eng e).dm.rd x = (s.eng e).dm.rd x) ∧ t = { s with engs := t.engs, et := t.et }

/-- R142, R143, R145 to R149: DISABLE waits for the running job; the drained engine is disabled; ENABLE makes it normal with nothing pending; at the end of a reload
the engine is normal, empty and undamaged. Swap requests queue, CANCEL removes one, the tile serves the oldest, the switch gives the role with
its data memory to the other unit, and the released engine's test leads to its return or retires it. -/
def Obligations.EnginesAreEnabledAndSwapped : Prop :=
  ((∀ (e : Fin 48) (s : State), s.supply.up = true → (s.eng e).mode = .normal →
    ∃ t, exec (.engineDisable e) s = .next t ∧ t = { s with engs := t.engs } ∧ t.eng e = { s.eng e with disReq := true }) ∧
  (∀ (e : Fin 48) (s : State), s.supply.up = true → (s.eng e).disReq = true → (s.eng e).run = none → (∀ q ∈ s.posts, q.engine ≠ e.val) →
    ∃ t, exec (.disableDrainEnd e) s = .next t ∧ (t.eng e).mode = .disabled ∧ (t.eng e).disReq = false ∧ (t.eng e).lanes = []) ∧
  (∀ (e : Fin 48) (s : State), s.supply.up = true → (s.eng e).mode = .disabled →
    ∃ t, exec (.engineEnable e) s = .next t ∧ t.eng e = { s.eng e with mode := .normal, pend := [], held := [] } ∧
      (∀ i : Fin 8, t.rd LE_SLOT_STAT_PENDING (8 * e + i) = 0) ∧ t = { s with engs := t.engs, regs := t.regs }) ∧
  ∀ (e : Fin 48) (n : Nat) (s : State), s.supply.up = true → (s.eng e).reload = some n → s.fnHeld (0x60 + e) = false →
    ∃ t, exec (.engineReloadDone e) s = .next t ∧ (t.eng e).mode = .normal ∧ (t.eng e).run = none ∧ (t.eng e).mbox = [] ∧ (t.eng e).pend = [] ∧
      (t.eng e).reload = none ∧ (∀ q ∈ t.badCw, q.2.1 = e.val → q.1 ≠ 2 ∧ q.1 ≠ 3) ∧ n ≤ t.et) ∧
  ((∀ (e : Fin 48) (s : State), ∀ p ∈ ([(Instr.leSwap e, 0), (.leReplace e, 1)] : List (Instr × Nat)),
    s.supply.up = true → (s.ltile (e / 6)).spareOk = true → (s.eng e).mode = .normal → (s.ltile (e / 6)).has e = false →
    ∃ t, exec p.1 s = .next t ∧ t = { s with ltiles := t.ltiles } ∧
      t.ltile (e / 6) = { s.ltile (e / 6) with queue := (s.ltile (e / 6)).queue ++ [⟨e, p.2⟩] } ∧ ∀ j, j ≠ e.val / 6 → t.ltile j = s.ltile j) ∧
  (∀ (e : Fin 48) (s : State), s.supply.up = true →
    ∃ t, exec (.leCancel e) s = .next t ∧ t = { s with ltiles := t.ltiles } ∧ (∀ q ∈ (t.ltile (e / 6)).queue, q.role ≠ e.val) ∧
      (∀ q ∈ (s.ltile (e / 6)).queue, q.role ≠ e.val → q ∈ (t.ltile (e / 6)).queue) ∧ (t.ltile (e / 6)).cur = (s.ltile (e / 6)).cur) ∧
  (∀ (i : Fin 8) (q : LeReq) (rest : List LeReq) (s : State), s.supply.up = true → (s.ltile i).cur = none → s.prkBusy = false → (s.ltile i).spareOk = true →
    (s.ltile i).queue = q :: rest → (s.eng q.role).mode ≠ .faulted →
    ∃ t, exec (.leSwapStart i) s = .next t ∧ t = { s with ltiles := t.ltiles } ∧
      t.ltile i = { s.ltile i with queue := rest, cur := some { req := q, phase := 2, due := s.et + 32 * 1360 } }) ∧
  (∀ (i : Fin 8) (w : LeSwap) (s : State),
    let e := w.req.role
    s.supply.up = true → (s.ltile i).cur = some w → w.phase = 2 → w.req.kind = 0 → w.reload = false → e < 48 → e / 6 = i.val → (s.eng e).run = none →
    ∃ t n, exec (.leSwitch i) s = .next t ∧ (t.ltile i).cur = some { w with phase := 3, due := n, own := [] } ∧
      (t.ltile i).carrier e = (s.ltile i).idle i ∧ (t.ltile i).idle i = (s.ltile i).carrier e ∧ w.due ≤ t.et ∧ 3 ∈ t.plwAsked ∧
      t.eng e = { s.eng e with dm := (t.eng e).dm } ∧ (w.own = [] → ∀ a, a < 65536 → (t.eng e).dm.rd a = (s.eng e).dm.rd a)) ∧
  ∀ (i : Fin 8) (w : LeSwap) (s : State), s.supply.up = true → (s.ltile i).cur = some w → w.phase = 3 →
    (∃ t, exec (.selftestDone i true) s = .next t ∧
      t.ltile i = { s.ltile i with cur := some { w with phase := 4, due := max s.et w.due + 32 * 1360 } }) ∧
    (w.req.role < 48 → ∃ t, exec (.selftestDone i false) s = .next t ∧ t.ltile i = { s.ltile i with cur := none, failed := true }))

/-! ## The pricking store and register writes (spec/00, spec/01, spec/02) -/

/-- R12, R30, R55: a write acts on each field of a register by its access type: RW takes the value, W1C clears the bits written 1 but those
the device has set in the same FAB cycle, RO keeps; a WL field keeps its
value under the lock, and a value that differs is recorded; a misaligned address is recorded and changes no register. Leg registers stand for all. -/
def Obligations.RegisterWritesActByAccessType : Prop :=
  ∀ (ini : Initiator) (k : Fin 48) (w : BitVec 32) (s : State), ini.wf = true → s.supply.up = true → s.noStep = true →
    let at_ (o : Nat) : BitVec 32 := BitVec.ofNat 32 (0x40300000 + 256 * k.val + o)
    (∃ t, exec (.registerWrite ini (at_ 0x44) w) s = .next t ∧ t.rd L_FIEN_IE k = w.toNat % 2 ^ 7 ∧ sameRegs s t [(L_FIEN_IE, k)] ∧
      t.cores = s.cores ∧ t.legs = s.legs ∧ t.sram = s.sram ∧ t.nvm = s.nvm) ∧
    (∃ t, exec (.registerWrite ini (at_ 0x40) w) s = .next t ∧ (∀ b, b < 7 → bit (t.rd L_FAULT_FLAGS k) b =
        (bit (s.rd L_FAULT_FLAGS k) b && (!bit w.toNat b || bit (s.raisedNow L_FAULT_FLAGS k) b))) ∧
      sameRegs s t [(L_FAULT_FLAGS, k)] ∧ t.legs = s.legs) ∧
    (∃ t, exec (.registerWrite ini (BitVec.ofNat 32 0x40000000) w) s = .next t ∧ sameRegs s t [] ∧ t.cores = s.cores) ∧
    (s.rd PRK_STATE_LOCKED 0 = 1 → ∃ t, exec (.registerWrite ini (at_ 4) w) s = .next t ∧ t.rd L_SAFE_SAFE k = s.rd L_SAFE_SAFE k ∧
      t.rd L_SAFE_STOP k = s.rd L_SAFE_STOP k ∧ (bit w.toNat 8 ≠ s.on L_SAFE_SAFE k → t.on PRK_LOCKERR_INFO_VALID 0 = true ∧
        (s.rd PRK_LOCKERR_INFO_VALID 0 = 0 → t.rd PRK_LOCKERR_ADDR_ADDR 0 = 0x40300004 + 256 * k.val ∧ t.rd PRK_LOCKERR_INFO_INIT 0 = initNum ini))) ∧
    (∀ d, d ∈ [1, 2, 3] → s.rd SYS_ADDRERR_INFO_VALID 0 = 0 → ∃ t, exec (.registerWrite ini (at_ (0x44 + d)) w) s = .next t ∧
      t.rd SYS_ADDRERR_INFO_VALID 0 = 1 ∧ t.rd SYS_ADDRERR_INFO_KIND 0 = 2 ∧ t.rd SYS_ADDRERR_INFO_INIT 0 = initNum ini ∧
      t.rd SYS_ADDRERR_ADDR_ADDR 0 = 0x40300044 + 256 * k.val + d ∧ sameRegs s t [(SYS_ADDRERR_INFO_VALID, 0), (SYS_ADDRERR_INFO_KIND, 0),
        (SYS_ADDRERR_INFO_INIT, 0), (SYS_ADDRERR_ADDR_ADDR, 0), (SYS_ADDRERR_INFO_COUNT, 0)])

/-- R44 to R46, R48, R49, R62, R66: a command on a slot is refused at step 1 with BUSY, COMMAND or SLOT, which ends it at once, or starts: VERIFY, COMMIT, PATCH and
ACTIVATE their validation, bounded at 3.9 ms, ERASE its erase, SVNUP its write. ABORT ends validation, placement and staging, and nothing else. The initiator is
PF0; a command of another initiator in the same FAB cycle has a rule of its own (R62). -/
def Obligations.PrickingCommandsStartOrAreRefused : Prop :=
  (∀ (slot : BitVec 2) (s : State),
    ∀ p ∈ ([(Instr.verify slot, 0), (.commit slot, 1), (.patch slot, 2), (.activate slot, 3), (.erase slot, 4), (.svnup slot, 5)] : List (Instr × Nat)),
    let n := slot.toNat
    let c := mget s.nv.content 0 n
    let code := if s.rd PRK_STATE_OP 0 ≠ 0 then 1
      else if (p.2 = 2 ∨ p.2 = 5) ∧ s.rd PRK_STATE_STRUCT 0 ≠ 1 then 2
      else if p.2 = 5 then 0
      else if n = 3 ∨ (p.2 = 4 ∧ s.nv.active = some n) ∨ (p.2 ≠ 4 ∧ c = 0) ∨ (p.2 = 2 ∧ c = 2) ∨ ((p.2 = 1 ∨ p.2 = 3) ∧ c = 3) then 3 else 0
    s.supply.up = true → (∀ c, s.prkCyc = some c → c.cyc = s.et / 64 → c.ini = 16) → ∃ t, exec p.1 s = .next t ∧ t.rd PRK_CMD_SLOT 0 = n ∧ t.nv = s.nv ∧ t.nvm = s.nvm ∧ t.committed = s.committed ∧
      (code ≠ 0 → t.rd PRK_STATUS_CODE 0 = code ∧ t.rd PRK_STATUS_DONE 0 = 1 ∧ t.rd PRK_STATUS_ERR 0 = 1 ∧ t.rd PRK_STATUS_SECT 0 = 0 ∧
        t.rd PRK_STATUS_RECORD 0 = 0 ∧ t.rd PRK_ERRREC_RECORD 0 = 0 ∧ t.rd PRK_ERROFS_OFS 0 = 0 ∧ t.prkOp = s.prkOp ∧
        sameRegs s t [(PRK_CMD_SLOT, 0), (PRK_STATUS_CODE, 0), (PRK_STATUS_DONE, 0), (PRK_STATUS_ERR, 0), (PRK_STATUS_SECT, 0), (PRK_STATUS_RECORD, 0),
          (PRK_ERRREC_RECORD, 0), (PRK_ERROFS_OFS, 0)]) ∧
      (code = 0 → sameRegs s t [(PRK_CMD_SLOT, 0), (PRK_STATE_OP, 0)] ∧ t = { s with regs := t.regs, prkOp := t.prkOp, prkCyc := t.prkCyc, fv := t.fv } ∧
        t.rd PRK_STATE_OP 0 = (if p.2 = 4 then 6 else if p.2 = 5 then 8 else 1) ∧
        ∃ d, t.prkOp = some { cmd := p.2, slot := if p.2 = 5 then 0 else n, due := d } ∧ s.et ≤ d ∧
          d ≤ s.et + (if p.2 = 4 then usec 35000 else if p.2 = 5 then 0 else usec 3900))) ∧
  ∀ (slot : BitVec 2) (s : State), s.supply.up = true → (∀ c, s.prkCyc = some c → c.cyc = s.et / 64 → c.ini = 16) →
    ∃ t, exec (.abort slot) s = .next t ∧ t.nv = s.nv ∧ t.nvm = s.nvm ∧ t.committed = s.committed ∧
      (s.rd PRK_STATE_OP 0 ∈ [1, 2, 4] → t.prkOp = none ∧ t.rd PRK_STATE_OP 0 = 0 ∧ t.rd PRK_STATUS_CODE 0 = 0x38 ∧ t.rd PRK_STATUS_DONE 0 = 1 ∧
        t.rd PRK_STATUS_ERR 0 = 1) ∧ (s.rd PRK_STATE_OP 0 = 4 → t.patch = none ∧ t.patchLeft = []) ∧
      (s.rd PRK_STATE_OP 0 ∉ [1, 2, 4] → t = { s with regs := t.regs, prkCyc := t.prkCyc } ∧ sameRegs s t [(PRK_CMD_SLOT, 0)])

/-- R45, R46, R48, R217, R233, R242, R487, R538: the ends of validation, of an erase and of a run of Pillow, and what each writes. -/
def Obligations.PrickingStepsEnd : Prop :=
  (∀ (o : PrkOp) (s : State), s.supply.up = true → s.prkOp = some o → s.rd PRK_STATE_OP 0 = 1 →
    (∀ r, (s.reach o.due).steps2to10 o.slot (prkKinds o.cmd) = .error r → ∃ t, exec .validationEnd s = .next t ∧ t.nv = s.nv ∧
      t.committed = s.committed ∧ t.prkOp = none ∧ t.rd PRK_STATE_OP 0 = 0 ∧ t.rd PRK_STATUS_CODE 0 = r.code % 2 ^ 8 ∧ t.rd PRK_STATUS_DONE 0 = 1) ∧
    (∀ im, (s.reach o.due).steps2to10 o.slot (prkKinds o.cmd) = .ok im → ∃ t, exec .validationEnd s = .next t ∧
      mget t.nv.content 0 o.slot = (if im.kind = 1 then 3 else 2) ∧ t.nv.active = s.nv.active ∧ t.nv.fallback = s.nv.fallback ∧
      t.committed = s.committed ∧ t.rd PRK_STATE_OP 0 = (if o.cmd = 0 then 0 else if o.cmd = 3 then 7 else 2) ∧
      (o.cmd = 0 → t.prkOp = none ∧ t.rd PRK_STATUS_CODE 0 = 0 ∧ t.rd PRK_STATUS_DONE 0 = 1) ∧
      (o.cmd ≠ 0 → ∃ q, t.prkOp = some q ∧ q.cmd = o.cmd ∧ q.slot = o.slot ∧ q.image = some im))) ∧
  (∀ (o : PrkOp) (s : State), s.supply.up = true → s.prkOp = some o → s.rd PRK_STATE_OP 0 = 6 → s.nvOp = none →
    ∃ t, exec .eraseDone s = .next t ∧ o.due ≤ t.et ∧ t.prkOp = none ∧ t.rd PRK_STATE_OP 0 = 0 ∧ t.rd PRK_STATUS_CODE 0 = 0 ∧
      t.rd PRK_STATUS_DONE 0 = 1 ∧ mget t.nv.content 0 o.slot = 0 ∧ t.nv.fallback ≠ some o.slot ∧ t.nv.active = s.nv.active ∧
      ∀ a, t.nvm.rd a = if slotBase o.slot ≤ a ∧ a < slotBase o.slot + 0x800000 then 0 else s.nvm.rd a) ∧
  (∀ (s : State), s.supply.up = true → s.plwRun = none →
    (∀ o im, s.prkOp = some o → o.image = some im → s.rd PRK_STATE_OP 0 = 2 → ∃ t r, exec .pillowRun s = .next t ∧ t.plwRun = some r ∧
      r.occ = (if o.cmd = 1 then 1 else 2) ∧ r.start = s.et ∧ s.et ≤ r.due ∧ r.due ≤ s.et + usec 2000 ∧ t.rd PLW_STAT_BUSY 0 = 1 ∧
      sameRegs s t [(PLW_STAT_BUSY, 0)]) ∧
    (∀ n l, s.prkOp = none → s.plwAsked = l ++ [n] → ∃ t r, exec .pillowRun s = .next t ∧ t.plwRun = some r ∧ r.occ = n ∧ r.start = s.et ∧
      s.et ≤ r.due ∧ r.due ≤ s.et + usec 20 ∧ t.plwAsked = [] ∧ t.rd PLW_STAT_BUSY 0 = 1 ∧ sameRegs s t [(PLW_STAT_BUSY, 0)])) ∧
  ∀ (r : PlwRun) (s : State), s.supply.up = true → s.plwRun = some r →
    ∃ t, exec .placementEnd s = .next t ∧ r.due ≤ t.et ∧ t.plwRun = none ∧ t.rd PLW_STAT_BUSY 0 = 0 ∧ t.rd PLW_STAT_LAST 0 = r.occ % 2 ^ PLW_STAT_LAST.w ∧
      t.rd PLW_STAT_RUNS 0 = (s.rd PLW_STAT_RUNS 0 + 1) % 2 ^ PLW_STAT_RUNS.w ∧ t.nv = s.nv ∧ t.committed = s.committed ∧
      (∀ o im, s.prkOp = some o → o.image = some im → r.occ = 1 ∨ r.occ = 2 →
        (∀ j, r.found.rej = some j → t.prkOp = none ∧ t.rd PRK_STATE_OP 0 = 0 ∧ t.rd PRK_STATUS_CODE 0 = j.code % 2 ^ 8 ∧ t.rd PLW_REJ_CODE 0 = j.code % 2 ^ PLW_REJ_CODE.w ∧
          t.place = s.place) ∧
        (r.found.rej = none → r.occ = 2 → t.rd PRK_STATE_OP 0 = 4 ∧ t.patch = some im ∧ t.prkOp = s.prkOp ∧ t.place = { r.found with rej := none }) ∧
        (r.found.rej = none → r.occ = 1 → (∀ k, k < 48 → (s.leg k).st = .safe) → t.rd PRK_STATE_OP 0 = 3 ∧ t.rd PRK_STATE_LOCKED 0 = 1 ∧
          t.step12 = true ∧ t.prkOp = s.prkOp ∧ t.place = { r.found with rej := none }) ∧
        (r.found.rej = none → r.occ = 1 → (∃ k, k < 48 ∧ (s.leg k).st ≠ .safe) → t.rd PRK_STATE_OP 0 = 0 ∧ t.rd PRK_STATUS_CODE 0 = 0x30 ∧
          t.place = s.place ∧ t.step12 = false))

/-- R47, R52, R54, R58 to R61, R240: the structure load commits the image under a new bank key, or fails and leaves nothing committed; the boot commit takes the active slot or else the
fallback; staging ends a patch without affected engines and otherwise waits for the apply point of each, of which the last commits the patch. -/
def Obligations.PrickingsCommit : Prop :=
  (∀ (o : PrkOp) (im : Image) (s : State), s.supply.up = true → s.prkOp = some o → o.image = some im → s.rd PRK_STATE_OP 0 = 3 →
    (∀ e, e < 48 → (s.eng e).run = none) →
    (((s.reach (s.within (usec 3000))).drawn).loadBad im o.slot = none → ∃ t, exec (.structureLoad none) s = .next t ∧ t.committed = some im ∧
      t.rd PRK_STATE_STRUCT 0 = 1 ∧ t.rd PRK_STATE_OP 0 = 0 ∧ t.rd PRK_STATUS_CODE 0 = 0 ∧ t.rd PRK_STATUS_DONE 0 = 1 ∧ t.prkOp = none ∧ t.step12 = false ∧
      t.rd PLW_HASHGEN_GEN 0 = (s.rd PLW_HASHGEN_GEN 0 + 1) % 2 ^ 32) ∧
    (∀ r, ((s.reach (s.within (usec 3000))).drawn).loadBad im o.slot = some r → ∃ t, exec (.structureLoad none) s = .next t ∧ t.committed = none ∧
      t.rd PRK_STATE_STRUCT 0 = 2 ∧ t.rd PRK_STATE_OP 0 = 0 ∧ t.rd PRK_STATUS_CODE 0 = r.code % 2 ^ 8 ∧ t.rd PRK_STATUS_DONE 0 = 1 ∧ t.prkOp = none ∧
      t.step12 = false ∧ t.rd PLW_HASHGEN_GEN 0 = (s.rd PLW_HASHGEN_GEN 0 + 1) % 2 ^ 32 ∧ ∀ c, c < 16 → (t.core c).task = none)) ∧
  (∀ (s : State), s.supply.up = true → s.bootEnded = false →
    let b := { s with bootEnded := true }
    (s.rd NVM_STRAP_BOOTMODE 0 ≠ 0 ∨ (s.nv.active = none ∧ s.nv.fallback = none) → exec .bootCommit s = .next b) ∧
    (s.rd NVM_STRAP_BOOTMODE 0 = 0 → (∀ a u, s.nv.active = some a → b.bootTry a = (u, none) → exec .bootCommit s = .next (State.edges s u)) ∧
      (∀ a f r u v, s.nv.active = some a → b.bootTry a = (u, some r) → (u.bootCodes r).nv.fallback = some f → (u.bootCodes r).bootTry f = (v, none) →
        ∃ t, exec .bootCommit s = .next t ∧ t.rd PRK_STATE_FALLBACK 0 = 1 ∧ t.committed = v.committed) ∧
      (∀ a f r u v q, s.nv.active = some a → b.bootTry a = (u, some r) → (u.bootCodes r).nv.fallback = some f →
        (u.bootCodes r).bootTry f = (v, some q) → ∃ t, exec .bootCommit s = .next t ∧ t.rd PRK_STATUS_CODE 0 = q.code % 2 ^ 8))) ∧
  (∀ (im : Image) (s : State), s.supply.up = true → s.patch = some im → s.rd PRK_STATE_OP 0 = 4 →
    (im.apply ≠ 0 ∧ im.apply ≤ s.tick → ∃ t, exec .patchStagingEnd s = .next t ∧ t.rd PRK_STATE_OP 0 = 0 ∧ t.rd PRK_STATUS_CODE 0 = 0x35 ∧
      t.patch = none ∧ t.committed = s.committed) ∧
    (im.apply = 0 ∨ s.tick < im.apply → s.patchLeft = [] → ∃ t, exec .patchStagingEnd s = .next t ∧ t.rd PRK_STATE_OP 0 = 0 ∧
      t.rd PRK_STATUS_CODE 0 = 0 ∧ t.rd PRK_STATUS_DONE 0 = 1 ∧ t.rd PRK_PSERIAL_SERIAL 0 = im.serial % 2 ^ 32 ∧ t.patch = none ∧
      t.committed = some (underlay im (s.committed.getD {}))) ∧
    (im.apply = 0 ∨ s.tick < im.apply → s.patchLeft ≠ [] → ∃ t, exec .patchStagingEnd s = .next t ∧ t.rd PRK_STATE_OP 0 = 5 ∧
      t.patch = s.patch ∧ t.patchLeft = s.patchLeft ∧ t.committed = s.committed ∧ sameRegs s t [(PRK_STATE_OP, 0)])) ∧
  ∀ (e : Fin 48) (im : Image) (s : State), s.supply.up = true → s.patch = some im → s.rd PRK_STATE_OP 0 = 5 → e.val ∈ s.patchLeft →
    (s.eng e).run = none → ∃ t, exec (.patchApplyPoint e) s = .next t ∧ t.patchLeft = s.patchLeft.erase e ∧ (t.eng e).staged = false ∧ t.et % 32 = 0 ∧ s.et ≤ t.et ∧
      (t.patchLeft = [] → t.rd PRK_STATE_OP 0 = 0 ∧ t.rd PRK_PSERIAL_SERIAL 0 = im.serial % 2 ^ 32 ∧ t.rd PRK_STATUS_DONE 0 = 1 ∧ t.patch = none ∧
        t.committed = some (underlay im (s.committed.getD {}))) ∧
      (t.patchLeft ≠ [] → t.rd PRK_STATE_OP 0 = 5 ∧ t.patch = s.patch ∧ t.committed = s.committed)

/-! ## Modulators (spec/03) -/

/-- R69, R70, R75, R76: a code of a unit that carries a role enters the role's window and its raw lanes; the 16th equal extreme code declares an overload with a
loop-filter reset that ends 12 MOD cycles later; the end of that reset is dated; and a restarted unit is valid and counts settling from there. -/
def Obligations.ModulatorCodesAndOverload : Prop :=
  (∀ (u : Fin 72) (n : Nat) (code : BitVec 4) (s : State),
    let p := s.pubRole n
    let x := s.munit u
    s.supply.up = true → s.roleOf u = some n → s.modOn n = true → s.replayOf p = none → x.valid = true → x.restart = none → s.lanesOn.Nodup →
    ∃ t, exec (.modCode u code) s = .next t ∧ t.et = max s.et (x.codeAt + s.modPeriod n) ∧ (t.munit u).codeAt = t.et ∧
      ((t.mrole p).hist.map (·.code) = ((code.toNat :: (s.mrole p).hist.map (·.code)).take (s.window p))) ∧
      (∀ l, mget t.laneIn [] l = mget s.laneIn [] l ++ if l ∈ s.lanesOn ∧ s.rd LE_RAW_CFG_MOD l = n then [code.toNat] else []) ∧
      (code.toNat ∈ [0, 15] → x.extVal = code.toNat → x.ext = 15 → (t.munit u).episode = true ∧ (t.munit u).ext = 0 ∧
        (t.munit u).resetDue = some (t.et + 1536) ∧ (t.munit u).endAt = none ∧ bit (t.rd MOD_FAULT_FLAGS n) 0 = true) ∧
      (code.toNat ∉ [0, 15] → (t.munit u).ext = 0)) ∧
  (∀ (u : Fin 72) (d : Nat) (s : State), s.supply.up = true → (s.munit u).resetDue = some d →
    ∃ t, exec (.loopFilterResetEnd u) s = .next t ∧ t = { s with munits := t.munits, et := max s.et d } ∧
      t.munit u = { s.munit u with resetDue := none, endAt := some t.tick, after := 0 } ∧ ∀ v, v ≠ u.val → t.munit v = s.munit v) ∧
  ∀ (u : Fin 72) (d : Nat) (s : State), s.supply.up = true → (s.munit u).restart = some d →
    ∃ t, exec (.unitRestart u) s = .next t ∧ t = { s with munits := t.munits, mroles := t.mroles, et := max s.et d } ∧
      t.munit u = { s.munit u with valid := true, restart := none, codeAt := t.et, ext := 0, resetDue := none, episode := false, endAt := none, after := 0 } ∧
      (∀ n, s.roleOf u = some n → (t.mrole (s.pubRole n)).settleAt = some (t.settledBy (s.pubRole n) t.tick)) ∧
      (s.roleOf u = none → t.mroles = s.mroles)

/-- R71, R72, R74, R75, R79, R80: at a boundary the role publishes the rounded and saturated sinc or FIR output with its quality and sequence number; a sample of
quality below 3 advances the count and triggers the jobs that its strobe starts. -/
def Obligations.SampleBoundaryPublishes : Prop :=
  ∀ (n : Fin 64) (s : State),
    let b := s.nextB n
    let r := s.mrole n
    let x := s.munit (s.unitOf n)
    let y := sincRaw (s.rd MOD_CFG_D n) (s.rd MOD_CFG_K n) x.gain x.offset r.hist
    let z := if s.on MOD_CFG_FIR n then firRaw (s.taps n) ((satS 24 y :: r.fir).take 16) else satS 24 y
    let v := satS 24 z
    let q := s.qualOf n b (decide (satS 24 y ≠ y) || decide (v ≠ z)) (r.hist.any (·.ovl))
    let sc := if q = 3 then s.rd MOD_SCOUNT_COUNT n else (s.rd MOD_SCOUNT_COUNT n + 1) % 2 ^ 32
    s.supply.up = true → s.on MOD_CFG_EN n = true → s.pairOdd n = false → (s.mtile (n / 8)).cur = none →
    ∃ t, exec (.sampleBoundary n) s = .next t ∧ t.et = max s.et (s.etOf b) ∧ (t.mrole n).lastB = b ∧ t.rd MOD_SAMPLE_VALUE n = ofS 24 v ∧
      t.rd MOD_SAMPLE_QUAL n = q ∧ t.rd MOD_SCOUNT_COUNT n = sc ∧ t.rd MOD_SAMPLE_SEQ n = sc % 2 ^ 6 ∧ (t.mrole n).seq = sc % 2 ^ 16 ∧
      (q ≠ 3 → ∀ k ∈ s.slotsUsed, s.on LE_SLOT_JOB_TRIG k = true → s.rd LE_SLOT_JOB_SRC k = n.val → (k / 8, k % 8, t.et) ∈ t.trigs) ∧
      (q = 3 → t.trigs = s.trigs) ∧ ((satS 24 y ≠ y ∨ v ≠ z) → bit (t.rd MOD_FAULT_FLAGS n) 1 = true) ∧ t.cores = s.cores ∧ t.legs = s.legs ∧ t.engs = s.engs

/-- R82 to R84, R86: the window comparator's outputs follow the thresholds with hysteresis and publish their edges; writes of MODn_WIN and MODn_CTL; an open-wire
pulse and a common-mode measurement, with the conditions they declare and clear. -/
def Obligations.InputSupervisionActs : Prop :=
  (∀ (n : Fin 64) (v : Int) (s : State),
    let w := s.winNow n
    let lo := w.1
    let hi := w.2.1
    let hy := w.2.2
    let h := if s.on MOD_STAT_CMPHI n then decide (4096 * (hi - hy) ≤ v) else decide (4096 * hi < v)
    let l := if s.on MOD_STAT_CMPLO n then decide (v ≤ 4096 * (lo + hy)) else decide (v < 4096 * lo)
    s.supply.up = true → ∃ t, exec (.windowCrossing n v) s = .next t ∧ t.on MOD_STAT_CMPHI n = h ∧ t.on MOD_STAT_CMPLO n = l ∧
      (∀ k, k < 48 → (h = true ∧ bit (s.mapOf n) k = true) ∨ (l = true ∧ bit (s.mapOf (64 + n)) k = true) → (t.leg k).latch = true) ∧
      ((∀ k, k < 48 → bit (s.mapOf n) k = false ∧ bit (s.mapOf (64 + n)) k = false) →
        t = { s with regs := t.regs, flight := t.flight, srcSeen := t.srcSeen } ∧ sameRegs s t [(MOD_STAT_CMPHI, n), (MOD_STAT_CMPLO, n)] ∧
        ∀ c ∈ s.ecUsed, (h ≠ s.on MOD_STAT_CMPHI n ∧ s.rd EC_CFG_PROD c = (if h then 0x40 else 0x80) + n.val) ∨
            (l ≠ s.on MOD_STAT_CMPLO n ∧ s.rd EC_CFG_PROD c = (if l then 0xC0 else 0x100) + n.val) →
          s.ringOut c = false → (c, s.tick + 2) ∈ t.flight)) ∧
  (∀ (n : Fin 64) (w : BitVec 32) (s : State), s.supply.up = true →
    ∃ t d, exec (.modWinWrite n w) s = .next t ∧ t = { s with regs := t.regs, minputs := t.minputs, fv := t.fv } ∧ t.rd MOD_WIN_HYST n = bits w.toNat 30 28 ∧
      t.rd MOD_WIN_HI n = bits w.toNat 27 16 ∧ t.rd MOD_WIN_LO n = bits w.toNat 11 0 ∧ sameRegs s t [(MOD_WIN_HYST, n), (MOD_WIN_HI, n), (MOD_WIN_LO, n)] ∧
      s.et ≤ d ∧ ((∀ x ∈ (s.minput n).wins, x.1 ≤ s.et + 12800) → d ≤ s.et + 12800) ∧ (s.et < d → t.winNow n = s.winNow n) ∧
      ∀ u : State, u.minput n = t.minput n → d ≤ u.et →
        u.winNow n = (toS 12 (bits w.toNat 11 0), toS 12 (bits w.toNat 27 16), 4 * (bits w.toNat 30 28 : Int))) ∧
  (∀ (n : Fin 64) (w : BitVec 32) (s : State), s.supply.up = true →
    ∃ t, exec (.modCtlWrite n w) s = .next t ∧ t = { s with regs := t.regs, minputs := t.minputs } ∧ t.on MOD_CTL_OWEN n = bit w.toNat 0 ∧
      t.on MOD_CTL_CMEN n = bit w.toNat 1 ∧ sameRegs s t [(MOD_CTL_OWEN, n), (MOD_CTL_CMEN, n), (MOD_STAT_OPEN, n), (MOD_STAT_CMBAD, n)] ∧
      (bit w.toNat 0 = false → t.rd MOD_STAT_OPEN n = 0 ∧ (t.minput n).owP = none ∧ (t.minput n).owN = none) ∧
      (bit w.toNat 1 = false → t.rd MOD_STAT_CMBAD n = 0 ∧ (t.minput n).cmDue = none) ∧
      (bit w.toNat 0 = true → s.on MOD_CTL_OWEN n = false → (t.minput n).owP = some (s.et + usec 16) ∧ (t.minput n).owN = some (s.et + usec 266)) ∧
      (bit w.toNat 1 = true → s.on MOD_CTL_CMEN n = false → (t.minput n).cmDue = some (s.et + usec 10))) ∧
  (∀ (n : Fin 64) (neg : Bool) (mv d : Nat) (s : State),
    let i := s.minput n
    s.supply.up = true → s.supervised n = true → s.on MOD_CTL_OWEN n = true → (if neg then i.owN else i.owP) = some d →
    ∃ t, exec (.openWirePulse n neg mv) s = .next t ∧ t.et = max s.et d ∧
      (if neg then (t.minput n).owN else (t.minput n).owP) = some (t.et + usec 500) ∧
      (100 < mv → (if neg then i.runN else i.runP) = 1 → (if neg then (t.minput n).openN else (t.minput n).openP) = true ∧ t.rd MOD_STAT_OPEN n = 1 ∧
        ((if neg then i.openN else i.openP) = false → bit (t.rd MOD_FAULT_FLAGS n) (if neg then 3 else 2) = true)) ∧
      (mv < 100 → (if neg then (t.minput n).openN else (t.minput n).openP) = false ∧ (if neg then (t.minput n).runN else (t.minput n).runP) = 0 ∧
        t.rd MOD_FAULT_FLAGS n = s.rd MOD_FAULT_FLAGS n)) ∧
  ∀ (n : Fin 64) (cm vp vn : Int) (d : Nat) (s : State),
    let i := s.minput n
    let c := s.cmClass n cm vp vn
    s.supply.up = true → s.supervised n = true → s.on MOD_CTL_CMEN n = true → i.cmDue = some d →
    ∃ t, exec (.cmMeasurement n cm vp vn) s = .next t ∧ t.et = max s.et d ∧ t.rd MOD_CMV_CM n = ofS 12 cm ∧ (t.minput n).cmDue = some (t.et + usec 10) ∧
      (t.minput n).cmLast = (c :: i.cmLast).take 3 ∧
      (i.cmLast.take 2 = [c, c] → (t.minput n).cmNow = c ∧ t.on MOD_STAT_CMBAD n = (c != 0) ∧
        (c ≠ 0 → c ≠ i.cmNow → bit (t.rd MOD_FAULT_FLAGS n) (3 + c) = true))

/-- R88 to R94: a swap request is refused with SWAP_REFUSED or joins the queue of its tile, CANCEL takes it out, the tile serves the oldest, the connect phase
leads to the boundaries b0 and b_K, the two calibration points run on a converter, and the trims that follow either serve the unit or retire it. -/
def Obligations.ModulatorSwapSequence : Prop :=
  (∀ (n : Fin 64) (s : State), ∀ p ∈ ([(Instr.modSwap n, false), (.modReplace n, true)] : List (Instr × Bool)),
    let t := n.val / 8
    s.supply.up = true →
    (s.supervised n = true → s.spareOk t = true → (s.mtile t).has n = false → ∃ u, exec p.1 s = .next u ∧ u = { s with mtiles := u.mtiles } ∧
      u.mtile t = { s.mtile t with queue := (s.mtile t).queue ++ [⟨n, p.2⟩] } ∧ ∀ j, j ≠ t → u.mtile j = s.mtile j) ∧
    (s.supervised n = false ∨ (s.spareOk t = false ∧ (s.mtile t).has n = false) → ∃ u, exec p.1 s = .next u ∧ u.mtiles = s.mtiles ∧
      bit (u.rd MOD_FAULT_FLAGS n) 10 = true ∧ sameRegs s u [(MOD_FAULT_FLAGS, n)])) ∧
  (∀ (n : Fin 64) (s : State), s.supply.up = true →
    ∃ u, exec (.modCancel n) s = .next u ∧ u = { s with mtiles := u.mtiles } ∧ (∀ q ∈ (u.mtile (n / 8)).queue, q.role ≠ n.val) ∧
      (∀ q ∈ (s.mtile (n / 8)).queue, q.role ≠ n.val → q ∈ (u.mtile (n / 8)).queue) ∧ (u.mtile (n / 8)).cur = (s.mtile (n / 8)).cur) ∧
  (∀ (t : Fin 8) (q : SwapReq) (rest : List SwapReq) (s : State), s.supply.up = true → (s.mtile t).cur = none → s.prkBusy = false →
    s.spareOk t = true → (s.mtile t).queue = q :: rest → s.replayHeld q.role = false →
    let f := s.freeUnit t
    ∃ u, exec (.swapStart t) s = .next u ∧ u = { s with mtiles := u.mtiles, munits := u.munits } ∧
      (u.mtile t).cur = some { req := q, phase := 2, due := some (s.et + 128 * s.modPeriod q.role) } ∧ (∀ p ∈ rest, p ≠ q → p ∈ (u.mtile t).queue) ∧
      q ∉ (u.mtile t).queue ∧ (u.munit f).valid = true ∧ (u.munit f).codeAt = (s.munit (s.unitOf q.role)).codeAt ∧ ∀ v, v ≠ f → u.munit v = s.munit v) ∧
  (∀ (t : Fin 8) (w : ModSwap) (d : Nat) (s : State), s.supply.up = true → (s.mtile t).cur = some w → w.phase = 2 ∨ w.phase = 5 → w.due = some d →
    let p := s.pubRole w.req.role
    ∃ u b, exec (.swapConnectEnd t) s = .next u ∧ u = { s with mtiles := u.mtiles, et := max s.et d } ∧ b % s.period p = 0 ∧ u.tick ≤ b ∧
      b ≠ (s.mrole p).lastB ∧ u.mtile t = { s.mtile t with cur := some { w with due := none, b0 := some b, bK := some (b + s.rd MOD_CFG_K p * s.period p) } }) ∧
  (∀ (t : Fin 8) (w : ModSwap) (s : State),
    let k := w.mc
    s.supply.up = true → (s.mtile t).cur = some w → w.phase = 4 → w.point < 2 → (s.mc k).cals.head?.map (·.1) = some t.val → s.fnHeld (0x50 + k) = false →
    ∃ u c, exec (.calPointStart t) s = .next u ∧ u = { s with mtiles := u.mtiles, mcs := u.mcs, et := max s.et (w.pointDue.getD 0) } ∧
      (u.mtile t).cur = some { w with point := w.point + 1, pointDue := some (u.et + max (64 * s.tInt k) (16384 * s.modPeriod w.req.role)) } ∧
      (u.mc k).conv = some c ∧ c.work = .cal t w.point ∧ c.start = u.et ∧ c.stop = u.et + 64 * s.tInt k) ∧
  ∀ (t : Fin 8) (gain offset : Int) (w : ModSwap) (d : Nat) (s : State),
    let n := w.req.role
    let f := s.freeUnit t
    s.supply.up = true → (s.mtile t).cur = some w → w.phase = 4 → w.point = 2 → w.pointDue = some d →
    (satS 16 gain = gain → satS 16 offset = offset → ∃ u, exec (.calibrationDone t gain offset) s = .next u ∧ u.et = max s.et d ∧
      (u.munit f).gain = gain ∧ (u.munit f).offset = offset ∧ (u.mtile t).cur = some { req := w.req, phase := 5, due := some (u.et + 128 * s.modPeriod n) } ∧
      u.regs = s.regs) ∧
    (satS 16 gain ≠ gain ∨ satS 16 offset ≠ offset → ∃ u, exec (.calibrationDone t gain offset) s = .next u ∧ u.et = max s.et d ∧
      (u.munit f).failed = true ∧ (u.munit f).valid = false ∧ (u.mtile t).cur = none ∧ u.rd TILE_SWAPSTAT_LASTCODE t = 0x49 ∧
      u.rd TILE_SWAPSTAT_LASTMOD t = n % 8 ∧ bit (u.rd MOD_FAULT_FLAGS n) 8 = true)

/-! ## Metering (spec/04) -/

/-- R97, R98, R101, R105 to R107, R110: an integration ends with a clamped result on its way 80 FAB cycles later; the result enters the FIFO or is lost with OVR and a
count, unless a read of the same FAB cycle makes room; LAST shows it; reading MCk_RES takes the oldest and latches its time; RUN, ONE and XCEN. -/
def Obligations.MeteringConversions : Prop :=
  (∀ (k : Fin 16) (v : Int) (c : McConv) (i : Nat) (s : State), s.supply.up = true → (s.mc k).conv = some c → c.work = .scan i →
    ∃ t e, exec (.mcIntegrationEnd k v) s = .next t ∧ t.et = max s.et c.stop ∧ (t.mc k).results = (s.mc k).results ++ [(e, t.et + 64 * 80)] ∧
      e.value = max (-(2 ^ 23 - 1)) (min (2 ^ 23 - 1) v) ∧ e.clamp = decide (e.value ≠ v) ∧ e.nosync = c.nosync ∧ e.input = i ∧ e.time = t.tick ∧
      (t.mc k).fifo = (s.mc k).fifo ∧ t = { s with mcs := t.mcs, et := t.et } ∧ ∀ c', (t.mc k).conv = some c' → c'.start = t.et + 64 * 1600) ∧
  (∀ (k : Fin 16) (e : McEntry) (d : Nat) (rest : List (McEntry × Nat)) (s : State), s.supply.up = true → (s.mc k).results = (e, d) :: rest → e.input < 16 →
    ∃ t, exec (.mcResultWrite k) s = .next t ∧ t.et = max s.et d ∧ (t.mc k).results = rest ∧ t.rd MC_LAST_VALID (16 * k + e.input) = 1 ∧
      t.rd MC_LAST_VALUE (16 * k + e.input) = ofS 24 e.value ∧ t.rd MC_LAST_NOSYNC (16 * k + e.input) = (if e.nosync then 1 else 0) ∧
      ((s.mc k).fifo.length < 16 → (t.mc k).fifo = (s.mc k).fifo ++ [{ e with gap := (s.mc k).gap }] ∧ (t.mc k).gap = false) ∧
      (16 ≤ (s.mc k).fifo.length → (t.mc k).fifo = (s.mc k).fifo ∧ (t.mc k).gap = true ∧ t.rd MC_STAT_OVR k = 1 ∧
        t.rd MC_LOST_LOST k = (s.rd MC_LOST_LOST k + 1) % 2 ^ 32 ∧ bit (t.rd MC_FAULT_FLAGS k) 0 = true) ∧
      (e.clamp = true → bit (t.rd MC_FAULT_FLAGS k) 1 = true)) ∧
  (∀ (k : Fin 16) (e : McEntry) (rest : List McEntry) (s : State), s.supply.up = true →
    (∀ o, (s.mc k).fifo = e :: rest → (s.mc k).lastOvr = some o → o.cyc = s.et / 64 → ∃ t, exec (.mcResRead k) s = .next t ∧
      (t.mc k).fifo = rest ++ [{ o.entry with gap := o.gap }] ∧ t.rd MC_STAT_OVR k = o.ovr % 2 ∧ t.out.head? = some (.readData (BitVec.ofNat 32 e.word))) ∧
    ((s.mc k).fifo = e :: rest → (∀ o, (s.mc k).lastOvr = some o → o.cyc ≠ s.et / 64) → ∃ t, exec (.mcResRead k) s = .next t ∧ (t.mc k).fifo = rest ∧ t.out = .readData (BitVec.ofNat 32 e.word) :: s.out ∧
      t.rd MC_RTIME_LO_TIME k = e.time % 2 ^ 32 ∧ t.rd MC_RTIME_HI_TIME k = e.time / 2 ^ 32 % 2 ^ 32 ∧ sameRegs s t [(MC_RTIME_LO_TIME, k), (MC_RTIME_HI_TIME, k)]) ∧
    ((s.mc k).fifo = [] → exec (.mcResRead k) s = .next { s with out := .readData 0#32 :: s.out })) ∧
  ∀ (k : Fin 16) (s : State), s.supply.up = true →
    (∃ t, exec (.mcRun k false) s = .next t ∧ t.rd MC_CTL_RUN k = 0 ∧ sameRegs s t [(MC_CTL_RUN, k)] ∧ (t.mc k).conv = (s.mc k).conv ∧
      ((s.mc k).single = false → (t.mc k).todo = [])) ∧
    (∀ i rest, s.scanSels k = i :: rest → (s.mc k).conv = none → (s.mc k).todo = [] → (s.mc k).redo = none → s.xcDealt k = [] → s.fnHeld (0x50 + k) = false →
      ∀ p ∈ ([(Instr.mcRun k true, false), (.mcOne k, true)] : List (Instr × Bool)), (p.2 = true → s.on MC_CTL_RUN k = false) →
      ∃ t c, exec p.1 s = .next t ∧ (t.mc k).conv = some c ∧ c.work = .scan i ∧ c.start = s.et + 64 * 1600 ∧ c.stop = c.start + 64 * s.tInt k ∧
        (t.mc k).todo = rest ∧ sameRegs s t [(MC_CTL_RUN, k)] ∧ t.rd MC_CTL_RUN k = (if p.2 then s.rd MC_CTL_RUN k else 1)) ∧
    ∀ on, ∃ t, exec (.mcXcenWrite k on) s = .next t ∧ t.on MC_CTL_XCEN k = on ∧ sameRegs s t [(MC_CTL_XCEN, k)] ∧ t = { s with regs := t.regs, mcs := t.mcs }

/-- R103, R104, R111 to R113: a crossing less than 10 million FAB cycles after the last raises MAINS_GLITCH and is ignored, one up to 20 million sets the period and clears
NOSYNC, also for an integration that has not begun; 25 ms without one set NOSYNC and raise MAINS_LOST. A cross-check that disagrees beyond its limit a second time in a row raises XC_OFFSET for a small input and
XC_GAIN otherwise, and names the modulator; one that agrees clears the count; 100 ms without a check raise XC_LATE. -/
def Obligations.MainsAndCrossChecks : Prop :=
  ((∀ (k : Fin 16) (p : Nat) (s : State), s.supply.up = true → s.on MC_CFG_MODE k = true → s.fnHeld (0x50 + k) = false → (s.mc k).cross = some p →
    (s.tick - p < 10000000 → ∃ t, exec (.mainsZeroCrossing k) s = .next t ∧ t.mcs = s.mcs ∧ bit (t.rd MC_FAULT_FLAGS k) 3 = true ∧
      sameRegs s t [(MC_FAULT_FLAGS, k)]) ∧
    (10000000 ≤ s.tick - p → s.tick - p ≤ 20000000 → ∃ t, exec (.mainsZeroCrossing k) s = .next t ∧ t.rd MC_MAINSPER_PER k = s.tick - p ∧
      t.rd MC_STAT_NOSYNC k = 0 ∧
      t.mc k = { s.mc k with cross := some s.tick, lostDue := some (s.et + 64 * 20000000), synced := true, conv := (t.mc k).conv } ∧
      (∀ c i, (s.mc k).conv = some c → c.work = .scan i → s.et ≤ c.start →
        (t.mc k).conv = some { c with stop := c.start + 64 * (s.tick - p), nosync := false }) ∧
      (∀ c, (s.mc k).conv = some c → c.start < s.et → (t.mc k).conv = some c) ∧ sameRegs s t [(MC_MAINSPER_PER, k), (MC_STAT_NOSYNC, k)]) ∧
    (20000000 < s.tick - p → ∃ t, exec (.mainsZeroCrossing k) s = .next t ∧ t.regs = s.regs ∧
      t.mc k = { s.mc k with cross := some s.tick, lostDue := some (s.et + 64 * 20000000), conv := (t.mc k).conv })) ∧
  ∀ (k : Fin 16) (d : Nat) (s : State), s.supply.up = true → s.fnHeld (0x50 + k) = false → (s.mc k).lostDue = some d →
    ∃ t, exec (.mainsTimeout k) s = .next t ∧ t.et = max s.et d ∧ t.mc k = { s.mc k with cross := none, lostDue := none, conv := (t.mc k).conv } ∧
      t.rd MC_STAT_NOSYNC k = 1 ∧ bit (t.rd MC_FAULT_FLAGS k) 2 = true ∧ sameRegs s t [(MC_STAT_NOSYNC, k), (MC_FAULT_FLAGS, k)]) ∧
  ((∀ (k : Fin 16) (v : Int) (c : McConv) (n : Nat) (s : State),
    let x := s.mc k
    let y : Int := max (-(2 ^ 23 - 1)) (min (2 ^ 23 - 1) v)
    let e2 := x.xsum - 2 * x.xn * y
    let small : Prop := y.natAbs < 0x080000
    let bad : Prop := if y.natAbs < 0x080000 then 2 * x.xn * s.rd MC_XCLIM_OFFLIM k < e2.natAbs
      else 2 * x.xn * y.natAbs * s.rd MC_XCLIM_GAINLIM k < 2 ^ 16 * e2.natAbs
    s.supply.up = true → x.conv = some c → c.work = .cross n → n < 64 →
    (x.xbad = true ∨ x.xn = 0 → ∃ t, exec (.xcCheck k v) s = .next t ∧ sameRegs s t [(MC_FAULT_FLAGS, k)] ∧ t.xcFails = s.xcFails ∧ t.et = max s.et c.stop ∧
      (y = v → t.regs = s.regs) ∧ (y ≠ v → bit (t.rd MC_FAULT_FLAGS k) 1 = true)) ∧
    (x.xbad = false → x.xn ≠ 0 → ¬ bad → ∃ t, exec (.xcCheck k v) s = .next t ∧ t.rd MC_XCSTAT_LASTMOD k = n ∧ mget t.xcFails 0 n = 0 ∧
      mget t.xcLate 0 n = t.et + usec 100000 ∧ sameRegs s t [(MC_XCSTAT_LASTMOD, k), (MC_FAULT_FLAGS, k)] ∧ t.et = max s.et c.stop) ∧
    (x.xbad = false → x.xn ≠ 0 → bad → mget s.xcFails 0 n = 1 → ∃ t, exec (.xcCheck k v) s = .next t ∧ t.rd MC_XCSTAT_LASTMOD k = n ∧
      t.rd MC_XCSTAT_FAILMOD k = n ∧ mget t.xcFails 0 n = 2 ∧ (small → bit (t.rd MC_FAULT_FLAGS k) 4 = true) ∧
      (¬ small → bit (t.rd MC_FAULT_FLAGS k) 5 = true) ∧ t.et = max s.et c.stop)) ∧
  ∀ (n : Fin 64) (s : State),
    let d := mget s.xcLate 0 n
    s.supply.up = true → d ≠ 0 → ∃ t, exec (.xcLateTimeout n) s = .next t ∧ t.et = max s.et d ∧ mget t.xcLate 0 n = t.et + usec 100000 ∧
      (s.xcSet = [] → bit (t.rd MC_FAULT_FLAGS 0) 6 = true) ∧
      (∀ k, s.xcSet.find? (fun k => (s.xcDealt k).contains n.val) = some k → bit (t.rd MC_FAULT_FLAGS k) 6 = true))
/-! ## Legs and off-time return (spec/07) -/

/-- R176, R178, R180, R187, R193: an on-time that ends turns its output off and, in a complementary mode, schedules the other side after DTF; one that starts turns the
low side off and schedules the high side after DTR; a dead time that ends turns the waiting output on where it may; a period that ends ends the on-times and begins
the next with the registers' values; MAXON ends an on-time. -/
def Obligations.LegsFollowTheirPlan : Prop :=
  (∀ (k : Fin 48) (at_ : Nat) (s : State),
    let x := s.leg k
    s.supply.up = true → x.st ≠ .safe → (∀ o, x.onH = some o ∨ x.onL = some o → at_ ≤ o.start + o.maxon) →
    (s.nextEdge k = some (at_, 0) → ∃ t, exec (.edgeEvent k) s = .next t ∧ t.et = max s.et at_ ∧ (t.leg k).onH = none ∧ t.rd L_STAT_HOUT k = 0 ∧
      t.rd L_STAT_LOUT k = s.rd L_STAT_LOUT k ∧ (s.rd L_CFG_MODE k < 2 → (t.leg k).loDue = some (t.et + s.rd L_CFG_DTF k))) ∧
    (∀ i, i < 2 → s.nextEdge k = some (at_, 2 + i) → s.rd L_CFG_MODE k < 2 → ∃ t, exec (.edgeEvent k) s = .next t ∧ t.et = max s.et at_ ∧
      (t.leg k).onH = some ⟨i, t.et, s.rd L_MINON_MINON k, s.rd L_MAXON_MAXON k⟩ ∧ t.rd L_STAT_LOUT k = 0 ∧ t.rd L_STAT_HOUT k = s.rd L_STAT_HOUT k ∧
      (t.leg k).hiDue = some (t.et + s.rd L_CFG_DTR k))) ∧
  (∀ (k : Fin 48) (d : Nat) (s : State),
    let u := s.reach d
    let over_ : Prop := ∃ o, (s.leg k).onH = some o ∧ s.onOver k o ≤ u.et
    s.supply.up = true →
    ((s.leg k).hiDue = some d → (s.leg k).loDue = none → ∃ t, exec (.deadTimeEnd k) s = .next t ∧ t.et = u.et ∧ (t.leg k).hiDue = none ∧
      t.rd L_STAT_LOUT k = s.rd L_STAT_LOUT k ∧ (u.mayOn k 0 = true → ¬ over_ → t.on L_STAT_HOUT k = true) ∧
      (u.mayOn k 0 = false ∨ over_ → t.regs = s.regs)) ∧
    ((s.leg k).hiDue = none → (s.leg k).loDue = some d → (s.leg k).defer = false → ∃ t, exec (.deadTimeEnd k) s = .next t ∧ t.et = u.et ∧
      (t.leg k).loDue = none ∧ t.rd L_STAT_HOUT k = s.rd L_STAT_HOUT k ∧ (u.mayOn k 1 = true → t.on L_STAT_LOUT k = true) ∧
      (u.mayOn k 1 = false → t.regs = s.regs))) ∧
  (∀ (k : Fin 48) (p : Nat) (s : State), s.supply.up = true → (s.leg k).pstart = some p → ¬ ((s.leg k).st = .stopping ∧ (s.leg k).rule = 2) →
    (∀ r ∈ (s.leg k).recent, r.1 + 128 ≤ p + (s.leg k).plen) →
    ∃ t, exec (.periodEnd k) s = .next t ∧ t.et = max s.et (p + (s.leg k).plen) ∧ (t.leg k).pstart = some (p + (s.leg k).plen) ∧
      (t.leg k).plen = s.legPeriod k ∧ (t.leg k).eff = s.plan k ∧ (t.leg k).done = [] ∧ (t.leg k).onH = none ∧ (t.leg k).onL = none ∧
      ((s.leg k).onH.isSome = true → t.rd L_STAT_HOUT k = 0) ∧
      ∀ c ∈ s.ecUsed, s.rd EC_CFG_PROD c = 0x400 + k.val → s.ringOut c = false → (c, s.tickAt (p + (s.leg k).plen) + 2) ∈ t.flight) ∧
  ∀ (k : Fin 48) (d : Nat) (low : Bool) (s : State), s.supply.up = true → (s.leg k).maxAt = some (d, low) → (∀ e w, s.nextEdge k = some (e, w) → d < e) →
    ∃ t, exec (.maxonExpiry k) s = .next t ∧ t.et = max s.et d ∧ (low = false → (t.leg k).onH = none ∧ t.rd L_STAT_HOUT k = 0) ∧
      (low = true → (t.leg k).onL = none ∧ t.rd L_STAT_LOUT k = 0)

/-- R177, R187 to R189, R193, R530: ENABLE activates a SAFE leg 1.6 ns on or is refused with its reason; STOP and STOPNOW, the end of a stop, and a thermal cut-off bring
the outputs to the safe state. -/
def Obligations.LegsEnableAndStop : Prop :=
  (∀ (k : Fin 48) (s : State),
    let r := (s.reach (s.et + 82)).enableReason k (s.et / 64)
    s.supply.up = true → s.away (k / 6) = false → (s.leg k).st = .safe → s.fnDrains (0xA0 + k) = false → s.planQuiet k (s.et + 82) = true →
    (r ≠ 0 → ∃ t, exec (.legEnable k) s = .next t ∧ t.rd L_STAT_CMDERR k = r ∧ bit (t.rd L_FAULT_FLAGS k) 5 = true ∧ t.rd L_FINFO_CODE k = 0x76 ∧
      t.legs = s.legs ∧ t.rd L_STAT_HOUT k = s.rd L_STAT_HOUT k ∧ t.rd L_STAT_LOUT k = s.rd L_STAT_LOUT k) ∧
    (r = 0 → ∃ t n, exec (.legEnable k) s = .next t ∧ (t.leg k).st = .active ∧
      (t.leg k).hiz = ((s.leg k).hiz && bit (s.rd PIN_EOGRP_CUT 0) (k / 6)) ∧ (t.leg k).pstart = some n ∧ s.et + 82 ≤ n ∧
      (s.on L_CFG_SYNC k = false → n = s.et + 82) ∧ (t.leg k).plen = s.legPeriod k ∧ (t.leg k).eff = s.plan k ∧
      t.rd L_STAT_HOUT k = s.rd L_STAT_HOUT k)) ∧
  (∀ (k : Fin 48) (s : State), s.supply.up = true → s.away (k / 6) = false →
    (∃ t, exec (.stopnow k) s = .next t ∧ (t.leg k).st = .safe ∧ (t.leg k).stopAt = some (s.et / 64) ∧ ((s.leg k).st ≠ .safe →
      t.rd L_STAT_HOUT k = 0 ∧ (s.rd L_SAFE_SAFE k ≠ 1 → t.rd L_STAT_LOUT k = 0) ∧ (t.leg k).onH = none ∧ (t.leg k).onL = none ∧ (t.leg k).pstart = none)) ∧
    ((s.leg k).st = .active → s.rd L_SAFE_STOP k = 0 → ∃ t, exec (.legStop k) s = .next t ∧ (t.leg k).st = .safe ∧ t.rd L_STAT_HOUT k = 0 ∧
      (s.rd L_SAFE_SAFE k ≠ 1 → t.rd L_STAT_LOUT k = 0)) ∧
    ((s.leg k).st = .active → s.planQuiet k (s.et + 82) = true → s.rd L_SAFE_STOP k = 2 → ∃ t, exec (.legStop k) s = .next t ∧ t.regs = s.regs ∧
      t.leg k = { s.leg k with st := .stopping, rule := 2, stopAt := some (s.et / 64), holder := none }) ∧
    ((s.leg k).st = .active → s.planQuiet k (s.et + 82) = true → s.rd L_SAFE_STOP k = 1 → (s.leg k).onH.isSome = true →
      ∃ t, exec (.legStop k) s = .next t ∧ t.regs = s.regs ∧
      t.leg k = { s.leg k with st := .stopping, rule := 1, stopAt := some (s.et / 64), holder := none })) ∧
  (∀ (k : Fin 48) (s : State),
    let x := s.leg k
    s.supply.up = true → x.st = .stopping → ((x.rule = 1 ∧ x.onH = none ∧ x.onL = none) ∨ (x.rule = 2 ∧ x.pstart = none)) →
    ∃ t, exec (.stopRuleMet k) s = .next t ∧ (t.leg k).st = .safe ∧ (t.leg k).rule = 0 ∧ t.rd L_STAT_HOUT k = 0 ∧
      (s.rd L_SAFE_SAFE k ≠ 1 → t.rd L_STAT_LOUT k = 0)) ∧
  (∀ (i : Fin 8) (s : State), s.supply.up = true →
    (∃ t, exec (.thermalCutoff i) s = .next t ∧ bit (t.rd PIN_EOGRP_CUT 0) i = true ∧ bit (t.rd PIN_EOGRP_EVER 0) i = true ∧
      (∀ k, k / 6 = i.val → t.rd L_STAT_HOUT k = 0 ∧ t.rd L_STAT_LOUT k = 0 ∧ (t.leg k).hiz = true ∧ (t.leg k).st = .safe ∧
        bit (t.rd L_FAULT_FLAGS k) 4 = true) ∧ ∀ k, k / 6 ≠ i.val → t.leg k = s.leg k) ∧
    (∃ t, exec (.cutoffRelease i) s = .next t ∧ bit (t.rd PIN_EOGRP_CUT 0) i = false ∧ t = { s with regs := t.regs } ∧ sameRegs s t [(PIN_EOGRP_CUT, 0)] ∧
      ∀ j, j < 8 → j ≠ i.val → bit (t.rd PIN_EOGRP_CUT 0) j = bit (s.rd PIN_EOGRP_CUT 0) j))

/-- R191, R192, R194, R197, R199, R200: a readback stores its deviation or reports its absence; listening begins after SETTLE; a low line, a raised line and a
classified block act on the output's return; CLRCLAMP releases it. -/
def Obligations.ReadbackAndOffTimeReturn : Prop :=
  (∀ (k : Fin 48) (out : Nat) (rise : Bool) (at_ : Nat) (rest : List (Nat × Bool × Nat)) (s : State), s.supply.up = true → out < 2 →
    (s.leg k).trans = (out, rise, at_) :: rest →
    (∀ d : Int, d.natAbs ≤ 102 → ∃ t, exec (.edgeReadback k (some d)) s = .next t ∧ (t.leg k).trans = rest ∧
      t.rd (if out = 0 then L_RBDEV_DEVH else L_RBDEV_DEVL) k = ofS 16 d ∧
      (s.rd L_RB_TOL k < d.natAbs → t.rd L_RB_FAILS k = (s.rd L_RB_FAILS k + 1) % 2 ^ 16 ∧ bit (t.rd L_FAULT_FLAGS k) 0 = true ∧ t.rd L_FINFO_OUT k = out ∧
        t.rd L_FINFO_CODE k = 0x71 ∧ t.rd L_FINFO_DEV k = ofS 16 d) ∧
      (d.natAbs ≤ s.rd L_RB_TOL k → t.rd L_RB_FAILS k = s.rd L_RB_FAILS k ∧ t.rd L_FAULT_FLAGS k = s.rd L_FAULT_FLAGS k)) ∧
    ∀ o : Option Int, (∀ d, o = some d → 102 < d.natAbs) → ∃ t, exec (.edgeReadback k o) s = .next t ∧ t.rd L_RB_FAILS k = (s.rd L_RB_FAILS k + 1) % 2 ^ 16 ∧
      bit (t.rd L_FAULT_FLAGS k) 1 = true ∧ t.rd L_FINFO_OUT k = out ∧ t.rd L_FINFO_CODE k = 0x72 ∧
      (s.on L_CFG_RBSTOP k = false → (t.leg k).trans = rest ∧ (t.leg k).st = (s.leg k).st) ∧ (s.on L_CFG_RBSTOP k = true → (t.leg k).st = .safe)) ∧
  ∀ (k : Fin 48) (out : Fin 2) (s : State),
    let o := (s.leg k).otr out
    let listen := if out = 0 then L_OTRSTAT_LISTENH else L_OTRSTAT_LISTENL
    let clamp := if out = 0 then L_OTRSTAT_CLAMPH else L_OTRSTAT_CLAMPL
    let cls := if out = 0 then L_OTRSTAT_CLASSH else L_OTRSTAT_CLASSL
    s.supply.up = true →
    (∀ d, o.listenDue = some d → s.otrOn k out = true → o.clamped = false → ∃ t, exec (.listenStart k out) s = .next t ∧ t.et = max s.et d ∧
      (t.leg k).otr out = { o with listenDue := none, listening := true, since := t.et, filt := s.rd L_OTR_LOWFILT k, blockAt := t.et } ∧
      t.rd listen k = 1 ∧ sameRegs s t [(listen, k)]) ∧
    (o.listening = true → o.episode = false → o.src = none → ∃ t, exec (.otrFault k out) s = .next t ∧ t.et = max s.et (o.since + 64 * max 1 o.filt) ∧
      (t.leg k).otr out = { o with low := some (t.et / 64, true), episode := true, src := some ((t.et / 64 + 1) * 64) } ∧ t.otrLow k out = 1 ∧ t.rd cls k = 6 ∧
      bit (t.rd L_FAULT_FLAGS k) 2 = true ∧ t.rd L_FINFO_OUT k = out) ∧
    (o.listening = true → ∃ t, exec (.otrClamp k out) s = .next t ∧ ((t.leg k).otr out).clamped = true ∧ t.srcOn (128 + 2 * k + out) = true ∧
      t.rd clamp k = 1 ∧ t.rd listen k = 0 ∧ bit (t.rd L_FAULT_FLAGS k) 3 = true ∧ t.rd L_FINFO_OUT k = out ∧
      (∀ j, j < 48 → bit (s.mapOf (128 + 2 * k + out)) j = true → (t.leg j).latch = true) ∧
      ((∀ j, j < 48 → bit (s.mapOf (128 + 2 * k + out)) j = false) → o.src = none →
        (t.leg k).otr out = { o with listening := false, clamped := true, src := some s.et })) ∧
    (∀ runs, o.listening = true → ∃ t, exec (.otrBlockClassified k out runs) s = .next t ∧
      t.et = max s.et (o.blockAt + 204800) ∧ t.rd cls k = otrClass runs ∧ ((t.leg k).otr out).blockAt = t.et ∧
      (otrClass runs = 1 → ((t.leg k).otr out).episode = false ∧ ((t.leg k).otr out).src = none) ∧
      (otrClass runs ≠ 1 → (t.leg k).otr out = { o with blockAt := t.et, low := ((t.leg k).otr out).low }) ∧ sameRegs s t [(cls, k)]) ∧
    (s.away (k / 6) = false → s.planQuiet k (s.et + 82) = true → ∃ t, exec (.clrclamp k) s = .next t ∧ ((t.leg k).otr out).clamped = false ∧
      ((t.leg k).otr out).src = none ∧ t.rd clamp k = 0 ∧ (o.clamped = true → ((t.leg k).otr out).listening = s.otrOn k out))

/-! ## Springbok (spec/11) -/

/-- R267, R270, R271, R274: an asserted source latches every leg mapped to it, which enters SAFE with its outputs at their safe values; FAB sees the latch 3.75 ns to
5 ns later and records it; a release clears the latch only when no mapped source is asserted and no commit is in step 12. -/
def Obligations.TripsLatchAndRelease : Prop :=
  (∀ (n : Fin 224) (s : State), s.supply.up = true →
    (s.srcOn n = false → n.val < 128 → exec (.tripSourceAssert n) s = .next { s with srcSeen := s.srcSeen.filter (· ≠ n.val) }) ∧
    (s.srcOn n = true → ∃ t, exec (.tripSourceAssert n) s = .next t ∧ t.et = s.et ∧ (∀ k, k < 48 → bit (s.mapOf n) k = true → (t.leg k).latch = true ∧
        ((s.leg k).latch = false → (t.leg k).st = .safe ∧ (t.leg k).latchSrc = n ∧ (t.leg k).latchAt = s.et ∧ s.et + 192 ≤ (t.leg k).seenAt ∧
          (t.leg k).seenAt ≤ s.et + 256 ∧ t.rd L_STAT_HOUT k = 0 ∧ (s.rd L_SAFE_SAFE k ≠ 1 → t.rd L_STAT_LOUT k = 0))) ∧
      ∀ k, (k < 48 → bit (s.mapOf n) k = false) → t.leg k = s.leg k ∧ t.rd L_STAT_HOUT k = s.rd L_STAT_HOUT k ∧ t.rd L_STAT_LOUT k = s.rd L_STAT_LOUT k)) ∧
  (∀ (k : Fin 48) (s : State), s.supply.up = true → (s.leg k).latch = true → (s.leg k).seen = false → (s.leg k).latchSrc < 224 →
    ∃ t, exec (.latchSeen k) s = .next t ∧ t.leg k = { s.leg k with seen := true } ∧ t.et = max s.et (s.leg k).seenAt ∧ t.rd L_STAT_TRIP k = 1 ∧
      t.rd SPR_L_CAUSE_VALID k = 1 ∧ t.rd SPR_L_CAUSE_MORE k = (if (s.leg k).more then 1 else 0) ∧
      t.rd SPR_L_CAUSE_SOURCE k = 0x8000 + (s.leg k).latchSrc ∧ t.rd SPR_L_TIME_LO_TIME k = t.tick % 2 ^ 32 ∧
      t.rd SPR_L_COUNT_COUNT k = (s.rd SPR_L_COUNT_COUNT k + 1) % 2 ^ SPR_L_COUNT_COUNT.w ∧ bit (t.rd SPR_FAULT_FLAGS 0) 0 = true) ∧
  ∀ (c : Fin 16) (k : Fin 48) (s : State),
    let r := if (s.leg k).latch = false then 1 else if s.srcActive k = true then 2 else if s.rd PRK_STATE_OP 0 = 3 then 3 else 0
    s.supply.up = true → ∃ t, exec (.legRelease c k) s = .next t ∧ t.rd SPR_RELSTAT_INIT 0 = c ∧ t.rd SPR_RELSTAT_LEG 0 = k ∧ t.rd SPR_RELSTAT_RESULT 0 = r ∧
      (r = 0 → (t.leg k).latch = false ∧ t.rd L_STAT_TRIP k = 0 ∧ (t.leg k).st = (s.leg k).st ∧ (t.leg k).relAt = some (s.et / 64)) ∧ (r ≠ 0 → t.legs = s.legs) ∧
      (r = 2 ∨ r = 3 → bit (t.rd SPR_FAULT_FLAGS 0) 1 = true) ∧ t.rd L_STAT_HOUT k = s.rd L_STAT_HOUT k ∧ t.rd L_STAT_LOUT k = s.rd L_STAT_LOUT k

/-! ## Ground (spec/10) and Pillow's bank counts (spec/09) -/

/-- R239 to R241, R246, R248, R250 to R253: the lines of a row of shared SRAM lie in different banks, and any one bit of A[24:10] changes the bank; an event leaves its last hop at its time and is dropped on a muted channel, counted and passed to its consumer otherwise, and mutes
a channel whose window is full; a picot's inputs choose a bit of its table; its filter expires; MUTE, UNMUTE and BANKCLR. -/
def Obligations.GroundDeliversAndMutes : Prop :=
  (∀ (ec : Fin 1024) (f : Nat × Nat) (s : State),
    let lim := s.rd EC_STORM_LIMIT ec
    let w := f.2 / 2 ^ (s.rd EC_STORM_WINDOW ec + 4)
    let r := mget s.ecWin (0, 0) ec
    let n := if r.1 = w then r.2 else 0
    let free : Prop := lim = 0 ∨ 0xF000 ≤ s.rd EC_CFG_PROD ec
    let code := s.rd EC_CFG_CONS ec
    s.supply.up = true → s.nextOf ec = some f → (∀ m ∈ s.mutes, m.1 ≠ ec.val) → picotIn code = none →
    (s.on EC_STAT_MUTED ec = true → ∃ t, exec (.eventDeliver ec) s = .next t ∧ t.et = max s.et (s.etOf f.2) ∧ t.flight = s.flight.erase f ∧
      t.rd EC_STAT_DROP ec = (s.rd EC_STAT_DROP ec + 1) % 2 ^ EC_STAT_DROP.w ∧ sameRegs s t [(EC_STAT_DROP, ec)] ∧ t.cores = s.cores ∧ t.trigs = s.trigs) ∧
    (s.on EC_STAT_MUTED ec = false → ¬ free → lim ≤ n → ∃ t, exec (.eventDeliver ec) s = .next t ∧ t.et = max s.et (s.etOf f.2) ∧
      t.rd EC_STAT_MUTED ec = 1 ∧ t.rd EC_STAT_DROP ec = (s.rd EC_STAT_DROP ec + 1) % 2 ^ EC_STAT_DROP.w ∧ t.rd GND_STORMCH_EC 0 = ec ∧
      bit (t.rd GND_FAULT_FLAGS 0) 0 = true ∧ t.cores = s.cores ∧ t.trigs = s.trigs) ∧
    (s.on EC_STAT_MUTED ec = false → free ∨ n < lim →
      (∀ e i, code < 384 → s.jobAt code = some (e, i) → ∃ t, exec (.eventDeliver ec) s = .next t ∧ t.et = max s.et (s.etOf f.2) ∧
        t.rd EC_STAT_COUNT ec = (s.rd EC_STAT_COUNT ec + 1) % 2 ^ EC_STAT_COUNT.w ∧ t.trigs = s.trigs ++ [(e, i, t.et)] ∧ t.cores = s.cores) ∧
      (0x200 ≤ code → code < 0x280 → ∃ t, exec (.eventDeliver ec) s = .next t ∧ t.et = max s.et (s.etOf f.2) ∧
        t.rd EC_STAT_COUNT ec = (s.rd EC_STAT_COUNT ec + 1) % 2 ^ EC_STAT_COUNT.w ∧ t.trigs = s.trigs ∧
        (t.core ((code - 0x200) / 8)).evIn = (s.core ((code - 0x200) / 8)).evIn ++ [(code % 8, t.coreCross)]))) ∧
  (∀ (ec : Fin 1024) (f : Nat × Nat) (p i : Nat) (s : State),
    let v := bit (s.rd PICOT_CFG_LUT p) (2 ^ i)
    s.supply.up = true → s.nextOf ec = some f → (∀ m ∈ s.mutes, m.1 ≠ ec.val) → picotIn (s.rd EC_CFG_CONS ec) = some (p, i) → i < 4 →
    s.picotFeeds p f.2 = [ec.val] → s.on EC_STAT_MUTED ec = false → s.rd EC_STORM_LIMIT ec = 0 →
    ∃ t, exec (.eventDeliver ec) s = .next t ∧ t.et = max s.et (s.etOf f.2) ∧
      (s.on PICOT_CFG_FF p = false → t.rd PICOT_STAT_OUTCNT p = (if v then (s.rd PICOT_STAT_OUTCNT p + 1) % 2 ^ PICOT_STAT_OUTCNT.w
        else s.rd PICOT_STAT_OUTCNT p)) ∧ (s.on PICOT_CFG_FF p = true → t.on PICOT_STAT_Q p = v) ∧
      (s.on PICOT_CFG_FF p = true → s.on PICOT_CFG_FILT p = false → t.on PICOT_STAT_QF p = v)) ∧
  (∀ (p : Fin 256) (d : Nat) (s : State), s.supply.up = true → s.pfilt.find? (fun f => f.1 == p.val) = some (p.val, d) →
    ∃ t, exec (.picotFilterExpiry p) s = .next t ∧ t.et = max s.et (s.etOf (d + 1)) ∧ t.on PICOT_STAT_QF p = s.on PICOT_STAT_Q p ∧
      t.pfilt = mdel s.pfilt p ∧ sameRegs s t [(PICOT_STAT_QF, p), (PICOT_STAT_OUTCNT, p)] ∧
      (s.on PICOT_STAT_QF p ≠ s.on PICOT_STAT_Q p → t.rd PICOT_STAT_OUTCNT p = (s.rd PICOT_STAT_OUTCNT p + 1) % 2 ^ PICOT_STAT_OUTCNT.w)) ∧
  (∀ (ec : Fin 1024) (s : State), s.supply.up = true → s.rd EC_CTL_LOG ec < 2 →
    (∃ t, exec (.mute ec) s = .next t ∧ t = { s with regs := t.regs, mutes := s.mutes ++ [(ec.val, true, s.cross3)] } ∧ sameRegs s t []) ∧
    ∃ t, exec (.unmute ec) s = .next t ∧ t = { s with regs := t.regs, mutes := s.mutes ++ [(ec.val, false, s.cross3)] } ∧ sameRegs s t []) ∧
  (∀ (a b : Nat) (s : State), s.bankOf a < 16 ∧ (bankRow a = bankRow b → bits a 9 6 ≠ bits b 9 6 → s.bankOf a ≠ s.bankOf b) ∧
    ∀ j, 10 ≤ j → j ≤ 24 → s.bankOf (a ^^^ 2 ^ j) ≠ s.bankOf a) ∧
  ∀ (s : State), s.supply.up = true → ∃ t, exec .bankclr s = .next t ∧ t = { s with regs := t.regs } ∧ t.rd PLW_BANKACC_COUNT 0 = 0 ∧
    t.rd PLW_BANKCONF_COUNT 0 = 0 ∧ sameRegs s t [(PLW_BANKACC_COUNT, 0), (PLW_BANKCONF_COUNT, 0)]

/-! ## Timers (spec/12) -/

/-- R279, R281, R285, R289, R290, R292: a timer's count advances by one for each N + F/256 source edges; a LO read answers the low half and latches the high half for
its initiator for 16 bus cycles, a HI read within them answers it, and they end; a LO write is held for its writer, and the HI write commits the pair through three
source cycles; a capture stores the count and sets PEND, or OVR where PEND stands; a CAP_LO
read of the capture's own cycle returns the value before it and leaves PEND set; a pin edge is counted, and a short pulse is a fault of the groups that count it. -/
def Obligations.TimersCountCaptureAndAreAccessed : Prop :=
  ((∀ (ini : Initiator) (n : Fin 64) (s : State),
    let x := s.timer n
    let k := clockEdges x.src s.et - x.base
    let c := x.count + (x.acc + 256 * k) / x.m
    s.supply.up = true → s.rd GT_STAT_STATE n = 1 → x.src < 3 → x.slave = 0 → x.chg = [] → x.acc < x.m → x.base ≤ clockEdges x.src s.et → c < s.gtEnd n →
    (s.on GT_STAT_ARMED n = true → x.late = false ∧ c < s.gtCmp n) →
    ∃ t, exec (.countLoRead ini n) s = .next t ∧ t.out = .readData (BitVec.ofNat 32 c) :: s.out ∧ (t.timer n).count = c ∧
      (t.timer n).acc = (x.acc + 256 * k) % x.m ∧ (t.timer n).base = clockEdges x.src s.et ∧
      mget t.shadows none (initNum ini) = some (2 * n.val, c / 2 ^ 32 % 2 ^ 32, clockTime 2 (clockEdges 2 s.et + 17) - 1) ∧ t.regs = s.regs) ∧
  (∀ (ini : Initiator) (n : Fin 64) (s : State),
    let c := s.rd GT_CAP_LO_CAP n + 2 ^ 32 * s.rd GT_CAP_HI_CAP n
    let due := clockTime 2 (clockEdges 2 s.et + 17) - 1
    s.supply.up = true →
    ((∀ w, (s.timer n).capWas = some w → w.1 ≠ s.et / 64) →
      ∃ t, exec (.capLoRead ini n) s = .next t ∧ t.out = .readData (BitVec.ofNat 32 c) :: s.out ∧ t.rd GT_STAT_PEND n = 0 ∧
        mget t.shadows none (initNum ini) = some (2 * n.val + 1, c / 2 ^ 32 % 2 ^ 32, due) ∧ sameRegs s t [(GT_STAT_PEND, n)]) ∧
    ∀ old, (s.timer n).capWas = some (s.et / 64, old) →
      ∃ t, exec (.capLoRead ini n) s = .next t ∧ t.out = .readData (BitVec.ofNat 32 old) :: s.out ∧ t.regs = s.regs ∧
        mget t.shadows none (initNum ini) = some (2 * n.val + 1, old / 2 ^ 32 % 2 ^ 32, due)) ∧
  (∀ (ini : Initiator) (s : State), s.supply.up = true → ∃ t v, exec (.dtimeLoRead ini) s = .next t ∧ t.out = .readData (BitVec.ofNat 32 v) :: s.out ∧
    mget s.dtSeen 0 (iniDom (initNum ini)) ≤ v ∧ s.tick ≤ v + 4 ∧ (mget s.dtSeen 0 (iniDom (initNum ini)) ≤ s.tick → v ≤ s.tick) ∧
    mget t.dtSeen 0 (iniDom (initNum ini)) = v ∧ mget t.shadows none (initNum ini) = some (128, v / 2 ^ 32 % 2 ^ 32, clockTime 2 (clockEdges 2 s.et + 17) - 1) ∧ t.regs = s.regs) ∧
  (∀ (ini : Initiator) (reg : Fin 129) (v d : Nat) (s : State), s.supply.up = true → mget s.shadows none (initNum ini) = some (reg.val, v, d) → s.et ≤ d →
    ∃ t, exec (.shadowHiRead ini reg) s = .next t ∧ t = { s with shadows := t.shadows, out := .readData (BitVec.ofNat 32 v) :: s.out } ∧
      mget t.shadows none (initNum ini) = none) ∧
  ∀ (ini : Initiator) (reg v d : Nat) (s : State), s.supply.up = true → mget s.shadows none (initNum ini) = some (reg, v, d) →
    ∃ t, exec (.shadowExpiry ini) s = .next t ∧ t = { s with shadows := t.shadows, et := max s.et d } ∧ mget t.shadows none (initNum ini) = none) ∧
  ((∀ (ini : Initiator) (n : Fin 64) (w : BitVec 32) (s : State), s.supply.up = true →
    (∃ t, exec (.cmpLoWrite ini n w) s = .next t ∧ t = { s with timers := t.timers } ∧ mget (t.timer n).cmpLo none (initNum ini) = some w.toNat ∧
      t.timer n = { s.timer n with cmpLo := (t.timer n).cmpLo }) ∧
    (∃ t, exec (.endLoWrite ini n w) s = .next t ∧ t = { s with timers := t.timers } ∧ mget (t.timer n).endLo none (initNum ini) = some w.toNat ∧
      t.timer n = { s.timer n with endLo := (t.timer n).endLo }) ∧
    (s.rd GT_STAT_STATE n ≠ 1 → (s.timer n).chg = [] →
      (∃ t d, exec (.cmpHiWrite ini n w) s = .next t ∧ t = { s with timers := t.timers } ∧ s.et < d ∧
        (t.timer n).chg = [(d, .cmp ((mget (s.timer n).cmpLo none (initNum ini)).getD (s.rd GT_CMP_LO_CMP n) + 2 ^ 32 * w.toNat))] ∧
        mget (t.timer n).cmpLo none (initNum ini) = none) ∧
      ∃ t d, exec (.endHiWrite ini n w) s = .next t ∧ t = { s with timers := t.timers } ∧ s.et < d ∧
        (t.timer n).chg = [(d, .fin ((mget (s.timer n).endLo none (initNum ini)).getD (s.rd GT_END_LO_END n) + 2 ^ 32 * w.toNat))] ∧
        mget (t.timer n).endLo none (initNum ini) = none)) ∧
  (∀ (n : Fin 64) (d : Nat) (rest : List Nat) (s : State), s.supply.up = true → (s.timer n).caps = d :: rest → s.rd GT_STAT_STATE n ≠ 1 → (s.timer n).chg = [] →
    ∃ t, exec (.timerCapture n) s = .next t ∧ t.et = max s.et d ∧ t.rd GT_CAP_LO_CAP n = (s.timer n).count % 2 ^ 32 ∧
      t.rd GT_CAP_HI_CAP n = (s.timer n).count / 2 ^ 32 % 2 ^ GT_CAP_HI_CAP.w ∧ t.rd GT_STAT_PEND n = 1 ∧ (t.timer n).caps = rest ∧
      (s.on GT_STAT_PEND n = true → t.rd GT_STAT_OVR n = 1 ∧ bit (t.rd TG_FAULT_FLAGS (n / 16)) 0 = true) ∧
      (s.on GT_STAT_PEND n = false → sameRegs s t [(GT_CAP_LO_CAP, n), (GT_CAP_HI_CAP, n), (GT_STAT_PEND, n)])) ∧
  ∀ (m : Fin 16) (s : State), s.supply.up = true →
    (∃ t, exec (.tpinEdge m false) s = .next t ∧ mget t.pinEdges 0 m = mget s.pinEdges 0 m + 1 ∧ t.et = s.et) ∧
    ∃ t, exec (.tpinEdge m true) s = .next t ∧ t.timers = s.timers ∧ t.pinEdges = s.pinEdges ∧ ∀ n, n < 64 → s.rd GT_STAT_STATE n = 1 →
      (s.timer n).src = 3 → (s.timer n).tpin = m.val → bit (t.rd TG_FAULT_FLAGS (n / 16)) 1 = true)

/-- R281, R282, R286, R287: ARM crosses three source cycles and then starts the timer under its plan, armed; the count edge that brings COUNT to the compare value sets
MATCH and disarms; the one that brings it to END ends the count. The timer has no followers. -/
def Obligations.TimersArmMatchAndEnd : Prop :=
  (∀ (n : Fin 64) (s : State), s.supply.up = true → s.rd GT_STAT_STATE n ≠ 1 → (s.timer n).chg = [] → s.fnHeld (0xD0 + n / 16) = false →
    ∃ t d, exec (.gtArm n) s = .next t ∧ (t.timer n).chg = [(d, .arm)] ∧ (t.timer n).count = (s.timer n).count ∧ t = { s with timers := t.timers } ∧
      s.et < d ∧ (s.rd GT_CFG_N n ≠ 0 → s.rd GT_CFG_SRC n = 1 → d % 64 = 0 ∧ s.et + 192 ≤ d ∧ d < s.et + 256)) ∧
  (∀ (g : Fin 4) (mask : BitVec 16) (s : State), s.supply.up = true → s.fnHeld (0xD0 + g) = false →
    (∀ i, i < 16 → s.rd GT_STAT_STATE (16 * g + i) ≠ 1 ∧ (s.timer (16 * g + i)).chg = []) →
    ∃ t, exec (.tgArm g mask) s = .next t ∧ t = { s with timers := t.timers } ∧ ∀ i, i < 16 →
      (mask.getLsbD i = true → ∃ d, s.et < d ∧ (t.timer (16 * g + i)).chg = [(d, .arm)]) ∧ (mask.getLsbD i = false → t.timer (16 * g + i) = s.timer (16 * g + i))) ∧
  (∀ (n : Fin 64) (d : Nat) (s : State), s.supply.up = true → s.rd GT_STAT_STATE n ≠ 1 → (s.timer n).chg = [(d, .arm)] → s.et ≤ d → s.gtSlaves n = [] →
    2 ≤ s.gtCmp n → 2 ≤ s.gtEnd n → 256 ≤ 256 * (s.gtPlan n).getD 1 1 + (s.gtPlan n).getD 2 0 →
    ∃ t, exec (.armTakesEffect n) s = .next t ∧ t.et = d ∧ t.rd GT_STAT_STATE n = 1 ∧ t.rd GT_STAT_ARMED n = 1 ∧ (t.timer n).cfg = s.gtPlan n ∧
      (t.timer n).chg = [] ∧ (t.timer n).count ≤ 1 ∧ sameRegs s t [(GT_STAT_STATE, n), (GT_STAT_ARMED, n)]) ∧
  ∀ (n : Fin 64) (s : State),
    let x := s.timer n
    s.supply.up = true → s.rd GT_STAT_STATE n = 1 → x.src < 3 → x.slave = 0 → x.chg = [] → x.late = false → x.acc < x.m → 256 ≤ x.m →
    x.base = clockEdges x.src s.et → s.gtSlaves n = [] →
    (s.on GT_STAT_ARMED n = true → x.count < s.gtCmp n → s.gtCmp n ≤ s.gtEnd n → ∃ t, exec (.compareMatch n) s = .next t ∧
      t.et = clockTime x.src (x.base + ((s.gtCmp n - x.count) * x.m - x.acc + 255) / 256) ∧ t.rd GT_STAT_MATCH n = 1 ∧ t.rd GT_STAT_ARMED n = 0 ∧
      (t.timer n).count = s.gtCmp n ∧ t.rd GT_STAT_LATE n = s.rd GT_STAT_LATE n % 2) ∧
    (s.on GT_STAT_ARMED n = false → x.count < s.gtEnd n → ∃ t, exec (.endOfCount n) s = .next t ∧
      t.et = clockTime x.src (x.base + ((s.gtEnd n - x.count) * x.m - x.acc + 255) / 256) ∧ t.rd GT_STAT_STATE n = 2 ∧ t.rd GT_STAT_END n = 1 ∧
      (t.timer n).count = s.gtEnd n ∧ t.rd GT_STAT_MATCH n = s.rd GT_STAT_MATCH n)

/-! ## DMA and capture (spec/17) -/

/-- R386 to R393: a start copies the addresses and count and makes the channel READY, or halts it with BAD_CONFIG; START of a busy channel is a fault; STOP, RESUME,
ADDLVL and the control write; a ready channel takes its engine; a burst moves its unit between places of shared SRAM and advances, or completes the channel, and a
retry does the same after its wait; handles that fail halt the channel. -/
def Obligations.DmaChannelsMoveUnits : Prop :=
  (∀ (h : Fin 32) (s : State), s.supply.up = true → (s.dma h).startAt ≠ some (s.et / 64) → s.fnDrains (0xE0 + h) = false →
    (s.dmaIdle h = true → ∃ t, exec (.dmaStart h) s = .next t ∧ t.rd DMAC_REMAIN_VALUE h = s.rd DMAC_COUNT_VALUE h % 2 ^ 32 ∧
      t.rd DMAC_CURSRC_VALUE h = s.rd DMAC_SRC_VALUE h % 2 ^ 32 ∧ t.rd DMAC_CURDST_VALUE h = s.rd DMAC_DST_VALUE h % 2 ^ 32 ∧
      (s.dmaBad h = true → t.rd DMAC_STAT_STATE h = 4 ∧ t.rd DMAC_STAT_REASON h = 4 ∧ bit (t.rd DMA_FAULT_FLAGS (h / 8)) 3 = true ∧
        t.rd DMA_FINFO_CODE (h / 8) = 0xC4 ∧ t.rd DMA_FINFO_CH (h / 8) = h % 8) ∧
      (s.dmaBad h = false → s.dmaHandlesOk h = false → t.rd DMAC_STAT_STATE h = 4 ∧ t.rd DMAC_STAT_REASON h = 2 ∧
        bit (t.rd DMA_FAULT_FLAGS (h / 8)) 1 = true) ∧
      (s.dmaBad h = false → s.dmaHandlesOk h = true → t.rd DMAC_STAT_REASON h = 0 ∧ t.rd DMA_FAULT_FLAGS (h / 8) = s.rd DMA_FAULT_FLAGS (h / 8) ∧
        t.rd DMAC_STAT_STATE h = if s.rd DMAC_PACE_PSEL h = 0 ∨ s.rd DMAC_PACEMK_HIGH h ≤ s.dmaLevel h then 2 else 1)) ∧
    (s.dmaIdle h = false → ∃ t, exec (.dmaStart h) s = .next t ∧ bit (t.rd DMA_FAULT_FLAGS (h / 8)) 2 = true ∧ t.dmas = s.dmas ∧
      sameRegs s t [(DMA_FAULT_FLAGS, h / 8), (DMA_FINFO_CODE, h / 8), (DMA_FINFO_CH, h / 8)])) ∧
  (∀ (h : Fin 32) (s : State), s.supply.up = true →
    (s.dmaIdle h = false → ∃ t, exec (.dmaStop h) s = .next t ∧ t.rd DMAC_STAT_STATE h = 4 ∧ t.rd DMAC_STAT_REASON h = 3 ∧
      sameRegs s t [(DMAC_STAT_STATE, h), (DMAC_STAT_REASON, h), (DMA_STAT_BUSY, h / 8), (DMA_STAT_RUNCH, h / 8)] ∧ t.sram = s.sram) ∧
    (s.dmaIdle h = true → exec (.dmaStop h) s = .next s) ∧
    (s.rd DMAC_STAT_STATE h = 4 → s.fnDrains (0xE0 + h) = false → s.dmaBad h = false → s.dmaHandlesOk h = true → ∃ t, exec (.dmaResume h) s = .next t ∧
      t.rd DMAC_STAT_REASON h = 0 ∧ sameRegs s t [(DMAC_STAT_STATE, h), (DMAC_STAT_REASON, h)] ∧
      t.rd DMAC_STAT_STATE h = if s.rd DMAC_PACE_PSEL h = 0 ∨ s.rd DMAC_PACEMK_HIGH h ≤ s.dmaLevel h then 2 else 1) ∧
    (∀ inc : BitVec 16, ∃ t, exec (.addlvl h inc) s = .next t ∧ t.rd DMAC_SWLVL_LEVEL h = min 65535 (s.rd DMAC_SWLVL_LEVEL h + inc.toNat) ∧
      t = { s with regs := t.regs } ∧ sameRegs s t [(DMAC_SWLVL_LEVEL, h), (DMAC_CMD_INC, h)]) ∧
    (∀ (ini : Initiator) (w : BitVec 32), (s.dmaIdle h = true → ∃ t, exec (.dmaCtlWrite ini h w) s = .next t ∧
        t.rd DMAC_CTL_FREE h = (if ini = .pf0 then bits w.toNat 31 31 else 0) ∧ t.rd DMAC_CTL_USIZE h = bits w.toNat 14 8 ∧
        t.rd DMAC_CTL_SINC h = bits w.toNat 25 25 ∧ t.rd DMAC_CTL_DINC h = bits w.toNat 24 24 ∧ t.rd DMAC_CTL_SWAP h = bits w.toNat 27 26) ∧
      (s.dmaIdle h = false → ∃ t, exec (.dmaCtlWrite ini h w) s = .next t ∧ t.rd DMAC_STAT_WERR h = 1 ∧ sameRegs s t [(DMAC_STAT_WERR, h)])) ∧
    (s.rd DMAC_STAT_STATE h = 1 → s.rd DMAC_PACEMK_HIGH h ≤ s.dmaLevel h → ∃ t, exec (.dmaPaceReady h) s = .next t ∧ t.rd DMAC_STAT_STATE h = 2 ∧
      t = { s with regs := t.regs } ∧ sameRegs s t [(DMAC_STAT_STATE, h)])) ∧
  (∀ (e : Fin 4) (c : Nat) (s : State), s.supply.up = true → s.rd DMA_STAT_BUSY e = 0 → c < 8 → s.rd DMAC_STAT_STATE (8 * e + c) = 2 →
    (∀ d, d < c → s.rd DMAC_STAT_STATE (8 * e + d) ≠ 2) → ∃ t, exec (.dmaRunStart e) s = .next t ∧ t.rd DMAC_STAT_STATE (8 * e + c) = 3 ∧
      t.rd DMA_STAT_BUSY e = 1 ∧ t.rd DMA_STAT_RUNCH e = c ∧ t = { s with regs := t.regs } ∧
      sameRegs s t [(DMAC_STAT_STATE, 8 * e + c), (DMA_STAT_BUSY, e), (DMA_STAT_RUNCH, e)]) ∧
  ∀ (h : Fin 32) (data : Option (List (BitVec 8))) (s : State),
    let u := s.rd DMAC_CTL_USIZE h
    let src := s.rd DMAC_CURSRC_VALUE h
    let dst := s.rd DMAC_CURDST_VALUE h
    let l := dmaSwap (s.rd DMAC_CTL_SWAP h) (s.sram.rdL (src - 0x10000000) u)
    ∀ p ∈ ([(Instr.dmaBurst h .ok data, false), (.dmaRetry h .ok data, true)] : List (Instr × Bool)),
    s.supply.up = true → s.noStep = true → s.rd DMAC_STAT_STATE h = 3 → (s.dma h).retryAt.isSome = p.2 → s.rd DMAC_PACE_PSEL h = 0 → 1 ≤ u → u ≤ 64 →
    0x10000000 ≤ src → src + u ≤ 0x12000000 → src % 65536 + u ≤ 65536 → 0x10000000 ≤ dst → dst + u ≤ 0x12000000 → dst % 65536 + u ≤ 65536 →
    (∀ q ∈ s.badCw, q.1 ≠ 1) →
    (s.on DMAC_CTL_FREE h = true → 2 ≤ s.rd DMAC_REMAIN_VALUE h → s.rd DMAC_REMAIN_VALUE h < 2 ^ 32 → ∃ t, exec p.1 s = .next t ∧
      (∀ a, t.sram.rd a = if dst - 0x10000000 ≤ a ∧ a < dst - 0x10000000 + u then l.getD (a - (dst - 0x10000000)) 0 else s.sram.rd a) ∧
      t.rd DMAC_REMAIN_VALUE h = (s.rd DMAC_REMAIN_VALUE h - 1) % 2 ^ 32 ∧ t.rd DMAC_STAT_STATE h = 3 ∧
      t.rd DMAC_CURSRC_VALUE h = (src + if s.on DMAC_CTL_SINC h then u else 0) % 2 ^ 32 ∧
      t.rd DMAC_CURDST_VALUE h = (dst + if s.on DMAC_CTL_DINC h then u else 0) % 2 ^ 32 ∧ (s.sram.wf = true → t.sram.wf = true) ∧ t.nvm = s.nvm) ∧
    (s.on DMAC_CTL_FREE h = true → s.rd DMAC_REMAIN_VALUE h = 1 → ∃ t, exec p.1 s = .next t ∧ t.rd DMAC_REMAIN_VALUE h = 0 ∧
      t.rd DMAC_STAT_STATE h = 5 ∧ t.rd DMAC_STAT_DONEF h = 1) ∧
    (s.dmaHandlesOk h = false → ∃ t, exec p.1 s = .next t ∧ t.rd DMAC_STAT_STATE h = 4 ∧ t.rd DMAC_STAT_REASON h = 2 ∧
      bit (t.rd DMA_FAULT_FLAGS (h / 8)) 1 = true ∧ t.sram = s.sram)

/-- R398 to R402, R405, R441: a full block is issued at its index into its page of the host ring as eight writes of 512 bytes; a flush forms a partial block; an
acknowledged block lets WRIDX advance; RDIDX moves no further than WRIDX; EN restarts the ring; and blocks of other seats are kept, forwarded or dropped. -/
def Obligations.CaptureBlocksAreIssued : Prop :=
  (∀ (i : Fin 256) (b : CapBlock) (rest : List CapBlock) (pg : Nat) (s : State),
    let n := s.cap.next
    s.supply.up = true → (s.stream i).full = b :: rest → s.rd CAP_S_CFG_ROUTE i = 0 → s.capWaits i = false → s.capIssues = true → s.ringFull = false →
    (if n % 512 = 0 ∨ s.cap.page = none then s.pageAddr n else s.cap.page) = some pg → s.on CAP_STAT_TRIGGERED 0 = false →
    ∃ t, exec (.blockIssue ⟨i, by omega⟩ .ok) s = .next t ∧ (t.stream i).full = rest ∧ t.cap.next = (n + 1) % 2 ^ 32 ∧
      t.cap.tracked = s.cap.tracked ++ [(n, false)] ∧ t.cap.page = some pg ∧ t.regs = s.regs ∧
      t.out = ((List.range 8).reverse.map fun j => Out.hostWrite (pg + n % 512 * 4096 + 512 * j) ((({ b with snap := false } : CapBlock).image.drop (512 * j)).take 512))
        ++ s.out) ∧
  (∀ (i : Fin 256) (s : State),
    let x := s.stream i
    let f := s.rd CAP_CTL_FLUSH 0
    s.supply.up = true → f ≠ 0 → x.pay ≠ [] → x.nibs = [] → s.ownBuffered < 512 →
    ∃ t b, exec (.flushTimeout ⟨i, by omega⟩) s = .next t ∧ t.et = max s.et (x.since + usec f) ∧ (t.stream i).full = x.full ++ [b] ∧ (t.stream i).pay = [] ∧
      b.bytes = x.pay ∧ b.stream = i.val ∧ b.seq = s.rd CAP_S_SEQ_COUNT i ∧ b.kind = s.rd CAP_S_CFG_KIND i ∧ b.dropped = x.dropped ∧ b.gap = x.gap ∧
      t.rd CAP_S_SEQ_COUNT i = (s.rd CAP_S_SEQ_COUNT i + 1) % 2 ^ 32 ∧ sameRegs s t [(CAP_S_SEQ_COUNT, i)]) ∧
  (∀ (b : Nat) (rest : List (Nat × Bool)) (s : State), s.supply.up = true → s.cap.tracked = (b, false) :: rest → b = s.rd CAP_WRIDX_VALUE 0 → s.rd CAP_WBINT_VALUE 0 = 0 →
    (∀ p ∈ rest, p.1 ≠ b ∧ p.2 = false) → ∃ t, exec (.blockAck b) s = .next t ∧ t.cap = { s.cap with tracked := rest } ∧
      t.rd CAP_WRIDX_VALUE 0 = (b + 1) % 2 ^ 32 ∧ sameRegs s t [(CAP_WRIDX_VALUE, 0)]) ∧
  (∀ (w : BitVec 32) (s : State),
    let r := s.rd CAP_RDIDX_VALUE 0
    let d (a : Nat) : Nat := (a % 2 ^ 32 + 2 ^ 32 - r) % 2 ^ 32
    s.supply.up = true → (d w.toNat ≤ d (s.rd CAP_WRIDX_VALUE 0) → ∃ t, exec (.rdidxWrite w) s = .next t ∧ t = { s with regs := t.regs } ∧
        t.rd CAP_RDIDX_VALUE 0 = w.toNat ∧ sameRegs s t [(CAP_RDIDX_VALUE, 0)]) ∧
      (d (s.rd CAP_WRIDX_VALUE 0) < d w.toNat → ∃ t, exec (.rdidxWrite w) s = .next t ∧ t = { s with regs := t.regs, raised := t.raised } ∧ t.rd CAP_STAT_WERR 0 = 1 ∧
        sameRegs s t [(CAP_STAT_WERR, 0)])) ∧
  (∀ (s : State), s.supply.up = true →
    (s.on CAP_CTL_EN 0 = false → ∃ t, exec (.capEnWrite true) s = .next t ∧ t.rd CAP_CTL_EN 0 = 1 ∧ t.rd CAP_WRIDX_VALUE 0 = 0 ∧ t.rd CAP_RDIDX_VALUE 0 = 0 ∧
      t.cap.next = 0 ∧ t.cap.tracked = [] ∧ t.cap.old = s.cap.count ∧ ∀ i ∈ s.capUsed, (t.stream i).gap = true) ∧
    (s.on CAP_CTL_EN 0 = true → ∃ t, exec (.capEnWrite false) s = .next t ∧ t.rd CAP_CTL_EN 0 = 0 ∧ sameRegs s t [(CAP_CTL_EN, 0)] ∧
      ∀ i ∈ s.capUsed, s.rd CAP_S_CFG_ROUTE i = 0 → (t.stream i).pay = [] ∧ (t.stream i).full = []) ∧
    (∃ t, exec .thaw s = .next t ∧ t.rd CAP_STAT_FROZEN 0 = 0 ∧ t.rd CAP_STAT_TRIGGERED 0 = 0 ∧ sameRegs s t [(CAP_STAT_FROZEN, 0), (CAP_STAT_TRIGGERED, 0)] ∧
      ∀ i ∈ s.capUsed, (t.stream i).gap = true) ∧
    (∀ w : BitVec 32, ∃ t, exec (.snapArm w) s = .next t ∧ t = { s with regs := t.regs } ∧ t.rd CAP_SNAP_POST 0 = bits w.toNat 24 0 ∧
      (bit w.toNat 31 = true → t.rd CAP_STAT_ARMED 0 = 1) ∧ sameRegs s t [(CAP_SNAP_POST, 0), (CAP_STAT_ARMED, 0), (CAP_STAT_FROZEN, 0)] ∧
      (s.on CAP_STAT_TRIGGERED 0 = false → t.rd CAP_STAT_FROZEN 0 = s.rd CAP_STAT_FROZEN 0)) ∧
    (∀ p : Fin 2, ∃ t, exec (.captureBlockAck p) s = .next t ∧ t.cap.sent p = s.cap.sent p - 1 ∧ t = { s with cap := t.cap })) ∧
  (∀ (p : Fin 2) (kind : BitVec 4) (stream : BitVec 16) (seat : BitVec 8) (seq : BitVec 32) (bytes : List (BitVec 8)) (dt : BitVec 64) (dropped : BitVec 16)
      (gap rep snap : Bool) (s : State),
    let i : Instr := .forwardedBlockArrival p kind stream seat seq bytes dt dropped gap rep snap false
    s.supply.up = true →
    (s.linkUp = true → s.on CAP_CTL_EN 0 = true → s.on CAP_STAT_FROZEN 0 = false → s.cap.fwd.length < 512 → ∃ t b, exec i s = .next t ∧
      t = { s with cap := { s.cap with fwd := s.cap.fwd ++ [b] } } ∧ b.fwd = true ∧ b.bytes = bytes ∧ b.stream = stream.toNat ∧ b.seat = seat.toNat ∧ b.seq = seq.toNat) ∧
    (s.linkUp = true → s.on CAP_CTL_EN 0 = false → ∃ t, exec i s = .next t ∧ t.cap = s.cap ∧
      t.rd CAP_FWDDROP_COUNT seat.toNat = (s.rd CAP_FWDDROP_COUNT seat.toNat + 1) % 2 ^ 32 ∧ bit (t.rd CAP_FAULT_FLAGS 0) 3 = true)) ∧
  (∀ (i : Fin 256) (s : State), s.supply.up = true →
    (s.replayReason i true = 0 → s.rd CAP_S_STAT_RPACT i = 0 → ∃ t, exec (.rpon i) s = .next t ∧ t.rd CAP_S_STAT_RPPEND i = 1 ∧ t = { s with regs := t.regs } ∧
      sameRegs s t [(CAP_S_STAT_RPPEND, i)]) ∧
    (s.replayReason i true ≠ 0 → ∃ t, exec (.rpon i) s = .next t ∧ t.rd CAP_S_STAT_RPERR i = s.replayReason i true ∧ bit (t.rd CAP_FAULT_FLAGS 0) 6 = true ∧
      t.rd CAP_S_STAT_RPPEND i = s.rd CAP_S_STAT_RPPEND i) ∧
    (s.replayReason i false = 0 → s.rd CAP_S_STAT_RPACT i ≠ 0 → ∃ t, exec (.rpoff i) s = .next t ∧ (t.stream i).offPend = true ∧ t.regs = s.regs) ∧
    (s.replayReason i false = 0 → s.rd CAP_S_STAT_RPACT i = 0 → ∃ t, exec (.rpoff i) s = .next t ∧ t.rd CAP_S_STAT_RPPEND i = 0 ∧ t = { s with regs := t.regs } ∧
      sameRegs s t [(CAP_S_STAT_RPPEND, i)])) ∧
  ∀ (i : Fin 256) (w : BitVec 32) (s : State),
    let fill (a : Nat) : Nat := (a % 2 ^ 32 + 2 ^ 32 - s.rd CAP_S_RPRD_VALUE i) % 2 ^ 32
    s.supply.up = true →
    (fill (s.rd CAP_S_RPWR_VALUE i) ≤ fill w.toNat → fill w.toNat ≤ s.rd CAP_S_RPSIZE_VALUE i → ∃ t, exec (.rpwrWrite i w) s = .next t ∧
      t = { s with regs := t.regs } ∧ t.rd CAP_S_RPWR_VALUE i = w.toNat ∧ sameRegs s t [(CAP_S_RPWR_VALUE, i)]) ∧
    (fill w.toNat < fill (s.rd CAP_S_RPWR_VALUE i) ∨ s.rd CAP_S_RPSIZE_VALUE i < fill w.toNat → ∃ t, exec (.rpwrWrite i w) s = .next t ∧
      t = { s with regs := t.regs, raised := t.raised } ∧ t.rd CAP_S_STAT_RPWERR i = 1 ∧ sameRegs s t [(CAP_S_STAT_RPWERR, i)])

/-! ## PCI Express (spec/18) -/

/-- R241, R414, R416, R418, R419, R421, R425, R426, R489: a configuration request is retried before the boot commit and answered after it; PF0 reads and writes shared SRAM
through its BAR, where each line counts once, and the NVM through the pricking window; a refused access reads all ones; an intent doorbell is queued or refused with its reason, and published; an
outbound read ends with its data, or with PCIE_CTO. -/
def Obligations.PcieAnswersTheHost : Prop :=
  (∀ (f : Fin 64) (off : BitVec 12) (w : Option (BitVec 32 × BitVec 4)) (s : State), s.supply.up = true →
    (s.bootEnded = false → exec (.configRequest f off w) s = .next { s with out := .completion [] 1 :: s.out }) ∧
    (s.bootEnded = true → s.fnExists f = false → exec (.configRequest f off w) s = .next { s with out := .completion [] 2 :: s.out }) ∧
    (s.bootEnded = true → s.fnExists f = true → (w = none → exec (.configRequest f off w) s =
        .next { s with out := .completion [BitVec.ofNat 32 (s.cfgRead f (off.toNat / 4 * 4))] 0 :: s.out }) ∧
      (w ≠ none → ∃ t, exec (.configRequest f off w) s = .next t ∧ t.out.head? = some (.completion [] 0))) ∧
    (f.val < 2 → (s.fn f).word 0 = 0 → s.cfgRead f 0 = 0x96641C9E)) ∧
  (∀ (off n : Nat) (s : State), s.supply.up = true → s.yard = none → s.heldAcc = [] → (s.fn 0).d3 = false → s.inFlr 0 = false → 0 < n → off + n ≤ 0x2000000 → off % 65536 + n ≤ 65536 →
    (∀ q ∈ s.badCw, q.1 ≠ 1) →
    (∃ t, exec (.inboundRead 0 2 off n true .ok .ok) s = .next t ∧ t.out = .completion (dwords (s.sram.rdL off n)) 0 :: s.out ∧ t.sram = s.sram ∧
      t.rd PLW_BANKACC_COUNT 0 = (s.rd PLW_BANKACC_COUNT 0 + ((off + n - 1) / 64 - off / 64 + 1)) % 2 ^ 32) ∧
    ∀ l : List (BitVec 8), l.length = n → s.noStep = true → ∃ t, exec (.inboundWrite 0 2 off (l.map some) false .ok) s = .next t ∧
      (∀ a, t.sram.rd a = if off ≤ a ∧ a < off + n then l.getD (a - off) 0 else s.sram.rd a) ∧ (s.sram.wf = true → t.sram.wf = true) ∧ t.nvm = s.nvm ∧ t.tcm = s.tcm) ∧
  (∀ (off n : Nat) (s : State), s.supply.up = true → s.yard = none → s.heldAcc = [] → (s.fn 1).d3 = false → s.inFlr 1 = false → 0xC00000 ≤ off → off < 0x1000000 →
    ∃ t, exec (.inboundRead 1 0 off n true .ok .ok) s = .next t ∧ t.out.head? = some (.completion (dwords (List.replicate n 0xFF)) 0) ∧ t.tcm = s.tcm ∧
      bit (t.rd PCIE_FAULT_FLAGS 0) 2 = true ∧ t.rd PCIE_FINFO_FN 0 = 1 ∧ (s.rd SYS_ADDRERR_INFO_VALID 0 = 0 → t.rd SYS_ADDRERR_INFO_VALID 0 = 1 ∧
        t.rd SYS_ADDRERR_INFO_KIND 0 = 4 ∧ t.rd SYS_ADDRERR_INFO_INIT 0 = 17)) ∧
  (∀ (off : BitVec 23) (l : List (BitVec 8)) (s : State),
    let slot := s.rd NVM_PWSLOT_SLOT 0
    let a := slotBase slot + off.toNat
    s.supply.up = true → slot < 3 → l ≠ [] → off.toNat + l.length ≤ 0x800000 →
    (mget s.nv.content 0 slot < 2 → ∃ t, exec (.prickingWindowWrite off l) s = .next t ∧
      (∀ x, t.nvm.rd x = if a ≤ x ∧ x < a + l.length then l.getD (x - a) 0 else s.nvm.rd x) ∧ mget t.nv.content 0 slot = 1 ∧ (s.nvm.wf = true → t.nvm.wf = true) ∧
      t.nv.active = s.nv.active ∧ t.nv.fallback = s.nv.fallback) ∧
    (2 ≤ mget s.nv.content 0 slot → ∃ t, exec (.prickingWindowWrite off l) s = .next t ∧ t.rd NVM_STAT_PWERR 0 = 1 ∧ t = { s with regs := t.regs, raised := t.raised } ∧
      sameRegs s t [(NVM_STAT_PWERR, 0)])) ∧
  (∀ (v : Fin 63) (whole : Bool) (w0 w1 w2 w3 : BitVec 32) (s : State),
    let f := v.val + 1
    let leg := w0.toNat % 64
    let why := if whole = false then 1
      else if bits w0.toNat 7 6 ≠ 0 ∨ bits w0.toNat 31 16 ≠ 0 ∨ bits w1.toNat 31 24 ≠ 0 ∨ 48 ≤ leg then 2
      else if s.boundCheck f 4 1 [(leg, leg)] ≠ 0 then 3
      else if 4 ≤ (s.fn f).intents.length then 4
      else if s.committed = none ∨ s.rd PRK_STATE_OP 0 = 3 then 5 else 0
    s.supply.up = true → v.val ≠ 0 → s.fnExists f = true → s.inFlr f = false →
    (why = 0 → ∃ t due, exec (.intentDoorbell v whole w0 w1 w2 w3) s = .next t ∧ t = { s with fns := t.fns, regs := t.regs, fv := t.fv } ∧
      t.fn f = { s.fn f with intents := (s.fn f).intents ++ [(w1.toNat % 2 ^ 24, w2.toNat + 2 ^ 32 * w3.toNat, due)] } ∧ s.et ≤ due ∧
      due ≤ s.et + 64 * (if 4 ≤ s.rd PCIE_LINK_SPEED 0 then 206 else 334) ∧
      t.rd PCIE_ISTAT_ACCEPTED v = (s.rd PCIE_ISTAT_ACCEPTED v + 1) % 2 ^ 16 ∧ sameRegs s t [(PCIE_ISTAT_ACCEPTED, v)]) ∧
    (why ≠ 0 → ∃ t, exec (.intentDoorbell v whole w0 w1 w2 w3) s = .next t ∧ t.rd PCIE_ISTAT_REASON v = why ∧ (t.fn f).intents = (s.fn f).intents ∧
      bit (t.rd PCIE_FAULT_FLAGS 0) 3 = true ∧ t.rd PCIE_FINFO_FN 0 = f % 64 ∧
      (s.rd PCIE_ISTAT_REFUSED v < 255 → t.rd PCIE_ISTAT_REFUSED v = s.rd PCIE_ISTAT_REFUSED v + 1))) ∧
  (∀ (v : Fin 63) (step dt due : Nat) (rest : List (Nat × Nat × Nat)) (s : State),
    let x := s.fn (v + 1)
    s.supply.up = true → x.intents = (step, dt, due) :: rest → ∃ t, exec (.doorbellPublish v) s = .next t ∧ (t.fn (v + 1)).intents = rest ∧ t.et = max s.et (64 * max (max ((s.et + 63) / 64) (due / 64)) ((x.pub.map (· + 1)).getD 0)) ∧ (∀ p, x.pub = some p → 64 * p < t.et) ∧ (mget t.xslots (0, 3, 0) (0x380 + v)).1 = toS 24 step ∧ (mget t.xslots (0, 3, 0) (0x3C0 + v)).1 = toS 24 dt ∧
      (mget t.xslots (0, 3, 0) (0x380 + v)).2.1 = 0 ∧ t.regs = s.regs ∧ ∀ c ∈ s.ecUsed, s.rd EC_CFG_PROD c = 0xB00 + v.val → s.ringOut c = false → (c, t.tick + 2) ∈ t.flight) ∧
  ∀ (c : Fin 16) (l : HostLoad) (s : State), s.supply.up = true → (s.core c).wait = .host l → l.op = 0x34 → (s.core c).stepping = false →
    (∀ b : List (BitVec 8), 4 ≤ b.length → ∃ t p, exec (.outboundCompletion c (some b)) s = .next t ∧ (t.core c).wait = .none ∧ (t.core c).pload = some p ∧
      p.d = l.d ∧ p.val = ofLE (b.take 4) ∧ (t.core c).instret = (s.core c).instret + 1) ∧
    (l.probe = true → ∀ i ∈ ([Instr.outboundCompletion c none, .completionTimeout c] : List Instr),
      bit ((s.fn (s.rd PCIE_OW_LO_FN ((l.addr - 0x80000000) / 2 ^ 27))).word 0x88) 4 = false →
      ∃ t p, exec i s = .next t ∧ (t.core c).wait = .none ∧ (t.core c).pload = some p ∧ p.d = l.d ∧ p.val = 0 ∧ (t.core c).arch.pf = true ∧
        bit (t.rd PCIE_FAULT_FLAGS 0) 1 = true)

/-- R412 to R414, R422, R423, R427, R428, R431: the link trains within its limits, comes up, enters and leaves its ASPM states, and is lost with PERST or DL_Down, which
reset every function; an FLR resets its function; a software vector sends its message or stays pending while masked. No core waits for the host. -/
def Obligations.PcieLinkAndFunctionResets : Prop :=
  (∀ (width : Fin 17) (speed : Fin 6) (rev : Bool) (pol : BitVec 16) (s : State), s.supply.up = true →
    (s.linkUp = false → ∃ t, exec .linkTrainingStart s = .next t ∧ t.rd PCIE_LINK_LSTATE 0 = 1 ∧ t.perst = false ∧ sameRegs s t [(PCIE_LINK_LSTATE, 0)]) ∧
    (s.rd PCIE_LINK_LSTATE 0 ≠ 0 → ∃ t, exec (.pcieLinkUp width speed rev pol) s = .next t ∧ t.rd PCIE_LINK_LSTATE 0 = 2 ∧
      t.rd PCIE_LINK_WIDTH 0 = widthDown (min width.val s.linkLim.2) ∧ t.rd PCIE_LINK_SPEED 0 = max 1 (min speed.val s.linkLim.1) ∧ t.rd PCIE_LINK_POLINV 0 = pol.toNat ∧
      ((s.linkUp = false ∨ t.rd PCIE_LINK_WIDTH 0 ≠ s.rd PCIE_LINK_WIDTH 0 ∨ t.rd PCIE_LINK_SPEED 0 ≠ s.rd PCIE_LINK_SPEED 0) → 5 ∈ t.plwAsked)) ∧
    (s.rd PCIE_LINK_LSTATE 0 = 2 → ((s.fn 0).word 0x70) % 2 = 1 → ∃ t, exec (.aspmEntry 3) s = .next t ∧ t.rd PCIE_LINK_LSTATE 0 = 3 ∧
      t = { s with regs := t.regs } ∧ sameRegs s t [(PCIE_LINK_LSTATE, 0)]) ∧
    (3 ≤ s.rd PCIE_LINK_LSTATE 0 → s.rd PCIE_LINK_LSTATE 0 ≤ 6 → ∃ t, exec .aspmExit s = .next t ∧ t.rd PCIE_LINK_LSTATE 0 = 2 ∧ t = { s with regs := t.regs } ∧
      sameRegs s t [(PCIE_LINK_LSTATE, 0)])) ∧
  (∀ (s : State), s.supply.up = true → (∀ c, c < 16 → ∀ l, (s.core c).wait ≠ .host l) →
    (∃ t, exec .perst s = .next t ∧ t.perst = true ∧ t.rd PCIE_LINK_LSTATE 0 = 0 ∧ t.rd PCIE_LINK_WIDTH 0 = 0 ∧ t.cap.tracked = [] ∧
      ∀ f, f < 64 → (t.fn f).cfg = [] ∧ (t.fn f).tbl = [] ∧ (t.fn f).intents = [] ∧ (t.fn f).bound = (s.fn f).bound) ∧
    (s.linkUp = true → ∃ t, exec .dlDown s = .next t ∧ t.rd PCIE_LINK_LSTATE 0 = 0 ∧ bit (t.rd PCIE_FAULT_FLAGS 0) 0 = true ∧
      ∀ f, f < 64 → (t.fn f).cfg = [] ∧ (t.fn f).tbl = [] ∧ (t.fn f).intents = [] ∧ (t.fn f).bound = (s.fn f).bound) ∧
    ∀ f : Fin 64, s.fnExists f = true → ∃ t d, exec (.flr f) s = .next t ∧ (t.fn f).flr = some d ∧ t.et = s.et ∧ s.et ≤ d ∧ d ≤ s.et + usec 1000 ∧
      (t.fn f).cfg = [] ∧ (t.fn f).tbl = [] ∧ (t.fn f).intents = [] ∧ (t.fn f).bound = (s.fn f).bound ∧ bit (t.rd PCIE_FAULT_FLAGS 0) 4 = true ∧
      t.rd PCIE_FINFO_FN 0 = f ∧ bit (t.rd (if f.val < 32 then PCIE_FLR0_FLR else PCIE_FLR1_FLR) 0) (f % 32) = true) ∧
  ∀ (f : Fin 64) (v : BitVec 5) (s : State), s.supply.up = true → s.fnExists f = true →
    (if f.val = 0 then 22 ≤ v.toNat ∧ v.toNat ≤ 29 else if f.val = 1 then v.toNat ≤ 7 else v.toNat ≤ 3) →
    ((s.fn f).open v.toNat = true → exec (.swirqGo f v) s = .next { s with out := .msix f v.toNat :: s.out }) ∧
    ((s.fn f).open v.toNat = false → ∃ t, exec (.swirqGo f v) s = .next t ∧ t = { s with fns := t.fns } ∧ v.toNat ∈ (t.fn f).pend ∧ v.toNat ∈ (t.fn f).pulse ∧
      (t.fn f).cfg = (s.fn f).cfg)

/-! ## Braid (spec/19) -/

/-- R437, R440, R441, R444 to R446, R474: a port comes up with a matching neighbour, reports another one, goes down with its link, and is retrained or held down; a link
message is kept and passed on; time stamps give offset and delay, set a follower's time once and judge its alignment; items are counted, forwarded, kept or released at
their instant. -/
def Obligations.BraidPortsAndItems : Prop :=
  (∀ (b : Fin 2) (nseat nring : BitVec 4) (map pol : BitVec 32) (nlock nref : Bool) (s : State), s.supply.up = true → s.training b = true →
    (s.fnHeld (0x140 + b) = false → nseat.toNat = s.neighbour b → nring.toNat + 1 = s.ring → ∃ t, exec (.portUp b nseat nring map pol nlock nref) s = .next t ∧
      t.rd B_STAT_STATE b = 2 ∧ t.rd B_STAT_NSEAT b = nseat.toNat % 8 ∧ s.linkOf b ∈ t.linksUp ∧ t.bport b = { notrain := none, nref := nref } ∧
      4 ∈ t.plwAsked) ∧
    (¬ (nseat.toNat = s.neighbour b ∧ nring.toNat + 1 = s.ring) → ∃ t, exec (.braidSeatMismatch b nseat nring) s = .next t ∧
      t.rd B_STAT_STATE b = s.rd B_STAT_STATE b ∧ t.rd B_STAT_NSEAT b = nseat.toNat % 8 ∧ bit (t.rd B_FAULT_FLAGS b) 1 = true ∧ t.rd B_FINFO_CODE b = 0xF2 ∧
      t.linksUp = s.linksUp)) ∧
  (∀ (b : Fin 2) (reason : Fin 8) (s : State), s.supply.up = true → s.rd B_STAT_STATE b = 2 →
    ∀ p ∈ ([(Instr.portDown b reason, reason.val, 3), (.retrain b, 1, 3), (.portDownWrite b true, 4, 4)] : List (Instr × Nat × Nat)),
    (p.2.2 = 4 → s.portOn b = true) → ∃ t, exec p.1 s = .next t ∧ t.rd B_STAT_STATE b = p.2.2 ∧ bit (t.rd B_FAULT_FLAGS b) 0 = true ∧
      (s.follower = true ∨ s.rd B_STAT_REF b = 0 → t.rd B_STAT_REF b = 0) ∧ t.rd B_FWDLOST_COUNT b = (s.rd B_FWDLOST_COUNT b + s.cap.sent b) % 2 ^ 32 ∧ t.cap.sent b = 0 ∧ s.linkOf b ∉ t.linksUp ∧
      (t.bport b).notrain = (if p.2.2 = 3 then some (s.et + usec 10000) else none) ∧ (s.follower = false → t.rd B_FINFO_DETAIL b = p.2.1) ∧
      4 ∈ t.plwAsked) ∧
  (∀ (b : Fin 2) (s : State), s.supply.up = true →
    (s.portOn b = true → s.rd B_STAT_STATE b = 4 → ∃ t, exec (.portDownWrite b false) s = .next t ∧ t.rd B_CTL_DOWN b = 0 ∧ t.rd B_STAT_STATE b = 1 ∧
      (t.bport b).notrain = some (s.et + usec 10000)) ∧
    (∀ d, (s.bport b).notrain = some d → ∃ t, exec (.notrainTimeout b) s = .next t ∧ t.et = max s.et d ∧ (t.bport b).notrain = none ∧
      (s.training b = true → bit (t.rd FRST_SYSFAULT_FLAGS 0) 3 = true)) ∧
    (∀ (host : Bool) (link : Fin 8) (up : Bool),
      let known := if host then decide (link.val ∈ s.hostSeats) else decide (link.val ∈ s.linksUp)
      let own := host = true ∧ link.val = s.seat
      (own ∨ (known = up ∧ ¬ (host = true ∧ up = true)) → exec (.linkStateMessage b host link up) s = .next s) ∧
      (¬ own → known ≠ up ∨ (host = true ∧ up = true) → ∃ t, exec (.linkStateMessage b host link up) s = .next t ∧
        (host = true → decide (link.val ∈ t.hostSeats) = up) ∧ (host = false → decide (link.val ∈ t.linksUp) = up) ∧ t.regs = s.regs ∧
        (s.portUp (1 - b.val) = true → t.out = .braidLink (1 - b.val) host link up :: s.out) ∧
        (if host then 5 else 4) ∈ t.plwAsked))) ∧
  (∀ (ofs : Int) (delay : Nat) (nlock nref : Bool) (s : State), s.supply.up = true →
    (∀ b : Fin 2, s.portUp b = true → s.follower = false → ∃ t, exec (.timeStampExchange b ofs delay nlock nref) s = .next t ∧ t.rd B_TOFS_PS b = ofS 32 ofs ∧
      t.rd B_DELAY_PS b = delay % 2 ^ 32 ∧ t.on B_STAT_NLOCK b = nlock ∧ t.dt0 = s.dt0 ∧ sameRegs s t [(B_TOFS_PS, b), (B_DELAY_PS, b), (B_STAT_NLOCK, b)]) ∧
    (s.portUp 0 = true → s.portUp 1 = false → s.follower = true → s.rd B_STAT_NSEAT 0 = 0 → ∃ t, exec (.timeStampExchange 0 ofs delay nlock nref) s = .next t ∧
      (s.cpll = none → t.rd SYS_CLKSTAT_CREF 0 = 2) ∧ (∀ d, s.cpll = some d → t.cpll = some (d.1, 2)) ∧ t.aligned = true ∧ (s.aligned = true → t.dt0 = s.dt0 ∧ t.on B_STAT_ALIGNED 0 = decide (-80 ≤ ofs ∧ ofs ≤ 80) ∧
        (ofs < -1250 ∨ 1250 < ofs → bit (t.rd B_FAULT_FLAGS 0) 5 = true ∧ bit (t.rd B_FAULT_FLAGS 1) 5 = true)) ∧
      (s.aligned = false → s.committed = none → s.bootEnded = false → t.dt0 = s.dt0 - Int.fdiv (ofs + 625) 1250 ∧ t.dtSeen = []))) ∧
  (∀ (b : Fin 2) (dst src : Fin 8) (ec : Fin 1024) (ring : Bool) (value : BitVec 24) (qual : BitVec 2) (seq : BitVec 16) (per : BitVec 32) (time : BitVec 64) (s : State),
    s.supply.up = true → s.portUp b = true →
    (∃ t, exec (.latencyItemArrival b dst src ec ring true value qual seq per time) s = .next t ∧ t.rd B_CRCERR_COUNT b = (s.rd B_CRCERR_COUNT b + 1) % 2 ^ 32 ∧
      bit (t.rd B_FAULT_FLAGS b) 3 = true ∧ t.rd B_FINFO_EC b = ec ∧ t.ringItems = s.ringItems ∧ t.gItems = s.gItems) ∧
    (dst.val ≠ s.seat → s.portUp (1 - b.val) = true → exec (.latencyItemArrival b dst src ec ring false value qual seq per time) s =
      .next { s with out := .braidItem (1 - b.val) dst ec ring value.toNat qual.toNat seq.toNat per.toNat time.toNat :: s.out }) ∧
    (dst.val = s.seat → ring = true → ∀ r, s.place.paths.find? (fun r => r.ec == ec.val) = some r → s.lastRel r.idx < time.toNat →
      exec (.latencyItemArrival b dst src ec ring false value qual seq per time) s =
        .next { s with ringItems := s.ringItems ++ [⟨ec, time.toNat, value.toNat, qual.toNat, seq.toNat, per.toNat⟩] }) ∧
    (dst.val = s.seat → ring = false → ec.val ∉ s.ecUsed → exec (.latencyItemArrival b dst src ec ring false value qual seq per time) s = .next s) ∧
    (dst.val = s.seat → ring = false → ec.val ∈ s.ecUsed → s.tick ≤ time.toNat + 2 + 9 * (s.eventPath src s.seat).2.1 →
      exec (.latencyItemArrival b dst src ec ring false value qual seq per time) s =
        .next { s with gItems := s.gItems ++ [(ec.val, time.toNat + 2 + 9 * (s.eventPath src s.seat).2.1)] })) ∧
  (∀ (idx : Fin 256) (r : RPath) (s : State),
    let bnd := s.lastRel idx + r.per
    let w := r.way bnd
    let it := if s.pathUp s.ring r.seat s.seat w.1 then s.ringItems.find? (fun i => i.ec == r.ec && i.b == bnd) else none
    let slot (t : State) : Int × Nat × Nat := mget t.xslots (0, 3, 0) (0x100 + idx)
    s.supply.up = true → s.ringPathOf idx = some r → s.lastRel idx ≠ 0 → 1 ≤ r.per →
    ∃ t, exec (.ringSampleRelease idx) s = .next t ∧ t.et = max s.et (s.etOf (bnd + 9 * w.2)) ∧ t.lastRel idx = bnd ∧
      (∀ i, it = some i → i.per = r.per → slot t = (toS 24 i.value, i.qual, i.seq)) ∧ (it = none → (slot t).1 = 0 ∧ (slot t).2.1 = 3)) ∧
  ∀ (ec : Fin 1024) (g : Nat × Nat) (s : State), s.supply.up = true → s.gItems.find? (fun g => g.1 == ec.val) = some g → picotIn (s.rd EC_CFG_CONS ec) = none →
    0xF000 ≤ s.rd EC_CFG_PROD ec → (∀ m ∈ s.mutes, m.1 ≠ ec.val) →
    ∃ t, exec (.globalEventRelease ec) s = .next t ∧ t.et = max s.et (s.etOf g.2) ∧ t.gItems = s.gItems.erase g ∧
      (s.on EC_STAT_MUTED ec = false → t.rd EC_STAT_COUNT ec = (s.rd EC_STAT_COUNT ec + 1) % 2 ^ EC_STAT_COUNT.w) ∧
      (s.on EC_STAT_MUTED ec = true → t.rd EC_STAT_DROP ec = (s.rd EC_STAT_DROP ec + 1) % 2 ^ EC_STAT_DROP.w ∧ t.trigs = s.trigs ∧ t.cores = s.cores)

/-! ## Supply and power states (spec/20) -/

/-- R449 to R451, R455, R456, R498, R502, R504: power-on reset leaves every register but the cause record and the bank levels at its reset value and device time 0; a stop
makes every leg safe and is over 20 µs later; a rail out of tolerance and a hot power die stop the device, which starts again; the boot ROM reads its straps. -/
def Obligations.SupplyStartsAndStops : Prop :=
  (∀ (cold : Bool) (s : State), s.supply.up = false → s.supply.tsd = false → s.supply.railDue = none → (s.supply.stayOff = false ∨ cold = true) →
    s.nvOp = none → s.prkOp = none →
    ∃ t, exec (.supplyStart cold) s = .next t ∧ t.supply.up = true ∧ t.supply.stopAt = none ∧ t.tick = 0 ∧ t.et = s.et + usec 4480 ∧ t.pending = s.pending ∧
      t.nvm = s.nvm ∧ t.nv = s.nv ∧ t.sram = [] ∧ t.tcm = [] ∧ t.engs = [] ∧ t.cores = [] ∧ t.legs = [] ∧ t.committed = none ∧ t.bootEnded = false ∧
      t.rd PWR_AUXSTAT_PG12 0 = 1 ∧ t.rd PWR_AUXSTAT_PG5 0 = 1 ∧ (cold = true → t.rd FRST_CAUSE_COUNT 0 = 0 ∧ t.rd FRST_CAUSE_CAUSE 0 = 0 ∧ t.rd FRST_CAUSE_LEVEL 0 = 1) ∧
      ∀ (f : Field) (i : Nat), f.key ∉ ([FRST_CAUSE_COUNT, FRST_CAUSE_CAUSE, FRST_CAUSE_LEVEL, PIN_VIOSTAT_G, PIN_VIOSTAT_E, PWR_AUXSTAT_PG12, PWR_AUXSTAT_PG5] :
        List Field).map (·.key) → t.rd f i = f.rst) ∧
  (∀ (rail temp : Nat) (s : State), s.supply.up = true → s.supply.stopAt = none →
    ∀ p ∈ ([(Instr.stopSequence, 2), (.railFault rail, 0x26), (.thermalShutdown temp, 0x29)] : List (Instr × Nat)),
    ∃ t, exec p.1 s = .next t ∧ t.gated = true ∧ t.rd FRST_SYSSTAT_GATED 0 = 1 ∧ (∀ k, k < 48 → (t.leg k).st = .safe) ∧ t.supply.up = true ∧
      t.supply.stopAt = some (s.et + usec 20) ∧ t.supply.stopCause = p.2 ∧ (∀ k, (t.leg k).latch = (s.leg k).latch) ∧
      (p.2 = 0x26 → t.rd PWR_FINFO_CODE 0 = 0x26 ∧ t.rd PWR_FINFO_VALUE 0 = rail % 2 ^ 16 ∧ bit (t.rd PWR_FAULT_FLAGS 0) 5 = true ∧
        (s.supply.rails = [] → t.supply.rails = [s.et] ∧ t.supply.stayOff = false ∧ t.supply.railDue = some (s.et + usec 100000)) ∧
        (∀ a b, s.supply.rails = [a, b] → s.et < a + usec 1000000 → s.et < b + usec 1000000 → t.supply.stayOff = true ∧ t.supply.railDue = none)) ∧
      (p.2 = 0x29 → t.rd PWR_FINFO_CODE 0 = 0x29 ∧ t.rd PWR_FINFO_VALUE 0 = temp % 2 ^ 16 ∧ bit (t.rd PWR_FAULT_FLAGS 0) 8 = true ∧ t.supply.tsd = true)) ∧
  (∀ (n : Nat) (s : State), s.supply.stopAt = some n → s.nvOp = none → s.prkOp = none →
    ∃ t, exec .stopAuxOff s = .next t ∧ t.supply.up = false ∧ t.supply.stopAt = none ∧ t.et = max s.et n ∧ t.rd PWR_AUXSTAT_PG12 0 = 0 ∧ t.rd PWR_AUXSTAT_PG5 0 = 0 ∧
      t.rd FRST_CAUSE_CAUSE 0 = s.supply.stopCause % 2 ^ 8 ∧ t.rd FRST_CAUSE_LEVEL 0 = 1 ∧ t.nvm = s.nvm ∧ t.nv = s.nv ∧ t.pending = s.pending ∧
      t.supply.tsd = s.supply.tsd ∧ t.supply.railDue = s.supply.railDue) ∧
  (∀ s : State, s.supply.up = false → s.supply.stayOff = false → (s.supply.tsd = true ∨ s.supply.railDue.isSome = true) →
    ∃ t, exec .powerRestart s = .next t ∧ t.supply.up = true ∧ t.supply.tsd = false ∧ t.supply.railDue = none ∧ t.tick = 0 ∧
      t.et = max s.et (s.supply.railDue.getD s.et) + usec 4480) ∧
  ∀ (straps : BitVec 3) (cmp : List (BitVec 12)) (lost : Bool) (s : State), s.supply.up = true → s.bootEnded = false →
    ∃ t, exec (.bootRomStart straps cmp lost) s = .next t ∧ t.rd NVM_STRAP_SPLITEN 0 = bits straps.toNat 0 0 ∧ t.rd NVM_STRAP_BADMODE 0 = bits straps.toNat 2 2 ∧
      t.rd NVM_STRAP_BOOTMODE 0 = (if s.nv.straplock = true ∨ bits straps.toNat 2 1 = 0 then 0 else 1) ∧ t.on NVM_STRAP_STRAPLOCK 0 = s.nv.straplock ∧
      t.rd SYS_CFG_SPLIT 0 = (if bit straps.toNat 0 then s.nv.splitopt % 2 ^ 8 else 0) ∧ t.nv = s.nv ∧
      (∀ p, p < 8 → t.rd CP_CMPRES_DONE (2 * p) = 1 ∧ t.rd CP_CMPRES_PASS (2 * p) = (cmp.getD p 4095).toNat) ∧ (lost = false → t.nvm = s.nvm) ∧
      (lost = true → bit (t.rd NVM_FAULT_FLAGS 0) 2 = true ∧ (∀ a, 0x1C00000 ≤ a → a < 0x1D00000 → t.nvm.rd a = 0) ∧
        ∀ a, a < 0x1C00000 ∨ 0x1D00000 ≤ a → t.nvm.rd a = s.nvm.rd a)

/-- R450, R456 to R459, R470, R471: what the power die reports, the auxiliary outputs under their limits and their register, the samples of input power and energy, and
the quiet period. -/
def Obligations.SupplyIsWatched : Prop :=
  (∀ (vin vhold temp : Nat) (v : Int) (s : State), s.supply.up = true → s.supply.uv = false →
    ∀ p ∈ ([(Instr.overvoltage vin, 1, vin), (.reverseInput v, 2, ofS 16 v), (.uvwarn vhold true, 0, vhold), (.pwrHot temp, 6, temp)] : List (Instr × Nat × Nat)),
    ∃ t, exec p.1 s = .next t ∧ t.rd PWR_FINFO_CODE 0 = 0x21 + p.2.1 ∧ t.rd PWR_FINFO_VALUE 0 = p.2.2 % 2 ^ 16 ∧ bit (t.rd PWR_FAULT_FLAGS 0) p.2.1 = true ∧
      sameRegs s t [(PWR_FINFO_CODE, 0), (PWR_FINFO_VALUE, 0), (PWR_FAULT_FLAGS, 0)] ∧ t = { s with regs := t.regs, raised := t.raised, supply := t.supply, out := t.out, fns := t.fns } ∧
      t.supply.fetOpen = (s.supply.fetOpen || p.2.1 == 1 || p.2.1 == 2) ∧ t.supply.uv = (p.2.1 == 0)) ∧
  (∀ (vhold : Nat) (s : State), s.supply.up = true → s.supply.uv = true →
    exec (.uvwarn vhold false) s = .next { s with supply := { s.supply with uv := false } }) ∧
  (∀ s : State, s.supply.up = true → exec .overvoltageClear s = .next { s with supply := { s.supply with fetOpen := false } }) ∧
  (∀ (o : Fin 2) (ma n : Nat) (s : State),
    let pg := if o.val = 0 then PWR_AUXSTAT_PG12 else PWR_AUXSTAT_PG5
    let hic := if o.val = 0 then PWR_AUXSTAT_HIC12 else PWR_AUXSTAT_HIC5
    let stop := if o.val = 0 then PWR_AUXCTL_STOP12 else PWR_AUXCTL_STOP5
    let en := if o.val = 0 then PWR_AUXCTL_AUX12EN else PWR_AUXCTL_AUX5EN
    let retry (t : State) := if o.val = 0 then t.supply.retry12 else t.supply.retry5
    let ep (t : State) := if o.val = 0 then t.supply.ep12 else t.supply.ep5
    s.supply.up = true →
    (s.on pg 0 = true → ∃ t, exec (.auxLimit o ma) s = .next t ∧ t.rd pg 0 = 0 ∧ t.rd hic 0 = 1 ∧ retry t = some (s.et + usec 20000) ∧ ep t = some (s.et + usec 100000) ∧
      (s.on hic 0 = false → t.rd PWR_FINFO_CODE 0 = 0x24 + o.val ∧ t.rd PWR_FINFO_VALUE 0 = ma % 2 ^ 16 ∧ bit (t.rd PWR_FAULT_FLAGS 0) (3 + o.val) = true ∧
        (s.on stop 0 = true → ∀ k, k < 48 → (t.leg k).st = .safe)) ∧
      (s.on hic 0 = true ∨ s.on stop 0 = false → t.legs = s.legs)) ∧
    (retry s = some n → ∃ t, exec (.auxRetry o) s = .next t ∧ retry t = none ∧
      t.on pg 0 = (s.on en 0 && !(s.yard.isSome && s.on PWR_AUXCTL_YARDOFF 0 && (s.punit 9).exit.isNone)) ∧ t.et = max s.et n ∧ sameRegs s t [(pg, 0)]) ∧
    (ep s = some n → ∃ t, exec (.auxEpisodeEnd o) s = .next t ∧ ep t = none ∧ t.rd hic 0 = 0 ∧ t.et = max s.et n ∧ sameRegs s t [(hic, 0)])) ∧
  (∀ (w : BitVec 32) (s : State), s.supply.up = true →
    ((∀ k, k < 48 → (s.leg k).st = .safe) → ∃ t, exec (.auxctlWrite w) s = .next t ∧ t.on PWR_AUXCTL_AUX12EN 0 = bit w.toNat 0 ∧ t.on PWR_AUXCTL_AUX5EN 0 = bit w.toNat 1 ∧
      t.on PWR_AUXCTL_STOP12 0 = bit w.toNat 2 ∧ t.on PWR_AUXCTL_STOP5 0 = bit w.toNat 3 ∧ t.on PWR_AUXCTL_YARDOFF 0 = bit w.toNat 4 ∧
      (s.on PWR_AUXCTL_AUX12EN 0 ≠ bit w.toNat 0 → s.supply.retry12 = none → s.yard = none → t.on PWR_AUXSTAT_PG12 0 = bit w.toNat 0) ∧ t.rd PWR_AUXSTAT_WERR 0 = s.rd PWR_AUXSTAT_WERR 0) ∧
    (∀ k, k < 48 → (s.leg k).st ≠ .safe → bit w.toNat 0 = false → s.on PWR_AUXCTL_AUX12EN 0 = true → ∃ t, exec (.auxctlWrite w) s = .next t ∧
      t.rd PWR_AUXSTAT_WERR 0 = 1 ∧ t.rd PWR_AUXCTL_AUX12EN 0 = s.rd PWR_AUXCTL_AUX12EN 0 ∧ t.rd PWR_AUXSTAT_PG12 0 = s.rd PWR_AUXSTAT_PG12 0)) ∧
  (∀ (vin : Int) (iin i12 i5 : Nat) (s : State),
    let p := vin.toNat * (iin % 2 ^ 16)
    s.supply.up = true → ∃ t, exec (.inputSample vin iin i12 i5) s = .next t ∧ t.rd PWR_VIN_VIN 0 = ofS 16 vin ∧ t.rd PWR_VIN_IIN 0 = iin % 2 ^ 16 ∧
      t.rd PWR_ENERGY_LO_ENERGY 0 + 2 ^ 32 * t.rd PWR_ENERGY_HI_ENERGY 0 =
        (s.rd PWR_ENERGY_LO_ENERGY 0 + 2 ^ 32 * s.rd PWR_ENERGY_HI_ENERGY 0 + (s.supply.efrac + p) / 100000) % 2 ^ 64 ∧
      t.supply.efrac = (s.supply.efrac + p) % 100000 ∧
      (s.supply.pn = 1023 → t.rd PWR_PIN_PIN 0 = (s.supply.psum + p) / 102400 % 2 ^ 24 ∧ t.supply.psum = 0 ∧ t.supply.pn = 0) ∧
      (s.supply.pn < 1023 → t.rd PWR_PIN_PIN 0 = s.rd PWR_PIN_PIN 0 ∧ t.supply.psum = s.supply.psum + p ∧ t.supply.pn = s.supply.pn + 1)) ∧
  ∀ (ini : Initiator) (w : BitVec 32) (s : State), s.supply.up = true →
    (∃ t, exec (.quietLoWrite ini w) s = .next t ∧ t = { s with quietLo := t.quietLo } ∧ mget t.quietLo none (initNum ini) = some w.toNat) ∧
    (∀ lo, mget s.quietLo none (initNum ini) = some lo → lo < 2 ^ 32 → ∃ t, exec (.quietHiWrite ini w) s = .next t ∧ t.rd PWR_QUIET_LO_END 0 = lo ∧
      t.rd PWR_QUIET_HI_END 0 = w.toNat ∧ t.on PWR_STAT_QUIET 0 = decide (s.tick < lo + 2 ^ 32 * w.toNat) ∧ mget t.quietLo none (initNum ini) = none ∧
      sameRegs s t [(PWR_QUIET_LO_END, 0), (PWR_QUIET_HI_END, 0), (PWR_STAT_QUIET, 0)]) ∧
    (s.on PWR_STAT_QUIET 0 = true → ∃ t, exec .quietEnd s = .next t ∧ t.rd PWR_STAT_QUIET 0 = 0 ∧
      t.et = max s.et (s.etOf (s.rd PWR_QUIET_LO_END 0 + 2 ^ 32 * s.rd PWR_QUIET_HI_END 0)) ∧ sameRegs s t [(PWR_STAT_QUIET, 0)])

/-- R462 to R470, R294: a unit enters the deepest state that its conditions and its slack allow, leaves it on a schedule or for an event that needs it, holds an exit behind
an entry, and in Run lets held leg commands act; the device enters Yard, a wake source takes it out, and device time is corrected or marked. -/
def Obligations.PowerStatesAndYard : Prop :=
  (∀ (u : Fin 9) (s : State),
    let slack (st : Nat) : Prop := ∀ n, s.nextKnown u = some n → s.et + 64 * (exitTicks st + s.guardTicks st) ≤ n
    s.supply.up = true → s.yard = none → (s.punit u).exit = none → s.pstate u = 0 →
    (s.mayEnter u 2 = true → slack 2 → ∃ t e, exec (.powerStateEval u) s = .next t ∧ t.pstate u = 2 ∧ (t.punit u).entry = some e ∧ s.et ≤ e ∧ e ≤ s.et + usec 2 ∧
      (∀ v, v < 9 → v ≠ u → t.pstate v = s.pstate v) ∧ t.legs = s.legs ∧ t.engs = s.engs ∧ t.cores = s.cores) ∧
    (s.mayEnter u 2 = false → s.mayEnter u 1 = true → slack 1 → ∃ t, exec (.powerStateEval u) s = .next t ∧ t.pstate u = 1 ∧ (t.punit u).entry = some (s.et + 64) ∧
      (∀ v, v < 9 → v ≠ u → t.pstate v = s.pstate v) ∧ t.cores = s.cores) ∧
    (s.mayEnter u 2 = false → s.mayEnter u 1 = false → exec (.powerStateEval u) s = .next s)) ∧
  (∀ (u : Fin 9) (s : State), s.supply.up = true → s.yard = none → (s.punit u).exit = none → (s.pstate u = 1 ∨ s.pstate u = 2) →
    ((s.punit u).entry = none → (∃ t, exec (.unitWake u) s = .next t ∧ (t.punit u).exit = some (s.et + 64 * exitTicks (s.pstate u)) ∧ t = { s with punits := t.punits }) ∧
      ∀ n, (s.punit u).exitAt = some n → ∃ t, exec (.scheduledExit u) s = .next t ∧ t.et = max s.et (64 * n) ∧
        (t.punit u).exit = some (t.et + 64 * exitTicks (s.pstate u)) ∧ t = { s with punits := t.punits, et := t.et }) ∧
    (∀ e, (s.punit u).entry = some e → ((s.punit u).dec = s.et / 64 → ∃ t, exec (.unitWake u) s = .next t ∧ t.pstate u = 0 ∧ t.punit u = {} ∧ t.cores = s.cores) ∧
      ((s.punit u).dec ≠ s.et / 64 → ∃ t, exec (.unitWake u) s = .next t ∧ (t.punit u).wake = true ∧ (t.punit u).exit = none ∧ t = { s with punits := t.punits }) ∧
      ∃ t, exec (.stateEntryComplete u.castSucc) s = .next t ∧ (t.punit u).entry = none ∧ t.et = max s.et e ∧
        (t.punit u).exit = (if (s.punit u).wake then some (t.et + 64 * exitTicks (s.pstate u)) else none))) ∧
  (∀ (u : Fin 9) (n : Nat) (s : State), s.supply.up = true → (s.punit u).exit = some n → s.noStep = true → s.heldAcc = [] →
    ∃ t, exec (.exitComplete u) s = .next t ∧ t.pstate u = 0 ∧ t.punit u = {} ∧ (∀ h ∈ t.heldLeg, u.val < 8 → h.1 / 6 ≠ u.val) ∧
      (s.heldLeg = [] → t.et = max s.et n ∧ t.legs = s.legs)) ∧
  (∀ s : State, s.supply.up = true → s.yard = none → s.yardOk = true →
    (∀ n, s.yardNext = some n → s.et + usec 1500 + usec (s.rd PWR_GUARD1_YARD 0) ≤ n) →
    ∃ t e, exec .yardEntry s = .next t ∧ t.yard = some s.tick ∧ (t.punit 9).entry = some e ∧ s.et ≤ e ∧ e ≤ s.et + usec 200 ∧ t.rd SYS_CLKSTAT_CPLL_LOCK 0 = 0 ∧
      t.rd SYS_CLKSTAT_KPLL_LOCK 0 = 0 ∧ (s.on PWR_AUXCTL_YARDOFF 0 = true → t.rd PWR_AUXSTAT_PG12 0 = 0 ∧ t.rd PWR_AUXSTAT_PG5 0 = 0) ∧
      (s.on PWR_AUXCTL_YARDOFF 0 = false → t.on PWR_AUXSTAT_PG12 0 = (s.on PWR_AUXCTL_AUX12EN 0 && s.supply.retry12.isNone)) ∧ t.cores = s.cores) ∧
  (∀ (src : Fin 8) (s : State), s.supply.up = true → s.yard.isSome = true → (s.punit 9).exit = none → (s.punit 9).wake = false → (s.punit 9).entry = none → 1 ≤ src.val →
    (src = 1 → (s.punit 9).exitAt.isSome = true) →
    (src = 3 → s.on PWR_WAKE_WPCIE 0 = true) → (src = 4 → s.on PWR_WAKE_WB0 0 = true ∧ s.portOn 0 = true) → (src = 5 → s.on PWR_WAKE_WB1 0 = true ∧ s.portOn 1 = true) →
    (src = 6 → s.on PWR_WAKE_WPIN 0 = true) →
    ∃ t e, exec (.yardWake src) s = .next t ∧ t.rd PWR_WAKE_LAST 0 = src ∧ (t.punit 9).exit = some e ∧ t.et ≤ e ∧ e ≤ t.et + usec 1500 ∧ t.yard = s.yard ∧
      (s.on PWR_AUXCTL_YARDOFF 0 = true → t.et + usec 1000 ≤ e ∧ t.on PWR_AUXSTAT_PG12 0 = (s.on PWR_AUXCTL_AUX12EN 0 && s.supply.retry12.isNone)) ∧
      (src = 3 → s.on PWR_STAT_QUIET 0 = true → bit (t.rd PWR_FAULT_FLAGS 0) 7 = true ∧ t.rd PWR_FINFO_CODE 0 = 0x28)) ∧
  ∀ (cycles t0 n : Nat) (s : State), s.supply.up = true → s.yard = some t0 → s.pace.isSome = true → (s.punit 9).exit = some n → s.tap.wait = none → s.noStep = true → s.heldAcc = [] →
    ∃ t, exec (.yardExit cycles) s = .next t ∧ t.yard = none ∧ t.punit 9 = {} ∧ t.rd SYS_CLKSTAT_CPLL_LOCK 0 = 1 ∧ t.rd SYS_CLKSTAT_KPLL_LOCK 0 = 1 ∧ t.et = max s.et n ∧
      (s.on SYS_CLKSTAT_AON_LOCKED 0 = true → t.tick = max (s.reach n).tick (t0 + 16 * cycles) % 2 ^ 64 ∧ t.rd TG_DTSTAT_UNCORR 0 = 0 ∧
        t.rd TG_DTSTAT_STEP 0 = min (t0 + 16 * cycles - (s.reach n).tick) (2 ^ 28 - 1)) ∧
      (s.on SYS_CLKSTAT_AON_LOCKED 0 = false → t.tick = (s.reach n).tick ∧ t.rd TG_DTSTAT_UNCORR 0 = 1 ∧ t.rd TG_DTSTAT_STEP 0 = 0)

/-! ## Environment faults and resets (spec/21), core pairs (spec/16) and pins (spec/24) -/

/-- R475 to R477, R526, R527: a lost reference and a control PLL out of lock gate the legs and fall back, a core PLL out of lock stops the cores, a PLL that locks resumes
its family, CLKRET returns to the reference or is refused; and the general pins and bank levels take what is written and measured. -/
def Obligations.ClocksFallBackAndReturn : Prop :=
  (∀ s : State, s.supply.up = true →
    (∃ t, exec .xtalLost s = .next t ∧ t.rd SYS_CLKSTAT_XTAL_LOST 0 = 1 ∧ t.rd SYS_CLKSTAT_AON_LOCKED 0 = 0 ∧ t.rd FRST_SYSSTAT_REFOK 0 = 0 ∧
      bit (t.rd FRST_SYSFAULT_FLAGS 0) 0 = true ∧
      (s.rd SYS_CLKSTAT_CREF 0 < 2 → t.gated = true ∧ t.rd FRST_SYSSTAT_GATED 0 = 1 ∧ (∀ k, k < 48 → (t.leg k).st = .safe) ∧ t.rd SYS_CLKSTAT_CPLL_LOCK 0 = 0 ∧
        ∃ b, t.cpll = some (b, 3) ∧ s.et ≤ b ∧ b ≤ s.et + usec 100) ∧
      (2 ≤ s.rd SYS_CLKSTAT_CREF 0 → t.gated = s.gated ∧ t.legs = s.legs ∧ t.cpll = s.cpll) ∧
      (s.kpllAon = false → t.kpllOut = true ∧ t.rd SYS_CLKSTAT_KPLL_LOCK 0 = 0 ∧ ∃ b, t.kpll = some (b, true) ∧ s.et ≤ b ∧ b ≤ s.et + usec 100)) ∧
    (∃ t, exec .cpllUnlock s = .next t ∧ t.rd SYS_CLKSTAT_CPLL_UNLOCK 0 = 1 ∧ t.rd SYS_CLKSTAT_CPLL_LOCK 0 = 0 ∧ bit (t.rd FRST_SYSFAULT_FLAGS 0) 1 = true ∧
      t.gated = true ∧ (∀ k, k < 48 → (t.leg k).st = .safe) ∧ t.kpllOut = s.kpllOut) ∧
    (∃ t, exec .kpllUnlock s = .next t ∧ t.rd SYS_CLKSTAT_KPLL_UNLOCK 0 = 1 ∧ t.rd SYS_CLKSTAT_KPLL_LOCK 0 = 0 ∧ bit (t.rd FRST_SYSFAULT_FLAGS 0) 2 = true ∧
      t.kpllOut = true ∧ t.gated = s.gated ∧ t.legs = s.legs ∧ ∀ c, t.canIssue c = false) ∧
    (∃ t, exec .refokSet s = .next t ∧ t.rd FRST_SYSSTAT_REFOK 0 = 1 ∧ t = { s with regs := t.regs } ∧ sameRegs s t [(FRST_SYSSTAT_REFOK, 0)])) ∧
  (∀ (n c : Nat) (s : State), s.supply.up = true → s.noStep = true → s.cpll = some (n, c) → s.clkret = false →
    ∃ t, exec (.pllLock 0) s = .next t ∧ t.rd SYS_CLKSTAT_CPLL_LOCK 0 = 1 ∧ t.rd SYS_CLKSTAT_CREF 0 = c % 4 ∧ t.cpll = none ∧ t.et = max s.et n ∧ t.gated = s.gated ∧
      t.on FRST_SYSSTAT_FALLBACK 0 = (c % 4 == 3 || s.kpllAon) ∧ sameRegs s t [(SYS_CLKSTAT_CPLL_LOCK, 0), (SYS_CLKSTAT_CREF, 0), (FRST_SYSSTAT_FALLBACK, 0)]) ∧
  (∀ (n : Nat) (a : Bool) (s : State), s.supply.up = true → s.noStep = true → s.kpll = some (n, a) →
    ∃ t, exec (.pllLock 1) s = .next t ∧ t.rd SYS_CLKSTAT_KPLL_LOCK 0 = 1 ∧ t.kpllOut = false ∧ t.kpllAon = a ∧ t.kpll = none ∧ t.et = max s.et n ∧
      (s.clkret = true → s.cpll = none → t.gated = false ∧ t.rd FRST_SYSSTAT_GATED 0 = 0 ∧ t.clkret = false) ∧ (s.clkret = false → t.gated = s.gated)) ∧
  (∀ s : State, s.supply.up = true →
    (s.on FRST_SYSSTAT_REFOK 0 = true → s.on SYS_CLKSTAT_CPLL_LOCK 0 = true → s.on SYS_CLKSTAT_KPLL_LOCK 0 = true → (∀ k, k < 48 → (s.leg k).st = .safe) →
      ∃ t b, exec .clkret s = .next t ∧ t.clkret = true ∧ t.rd SYS_CLKSTAT_CPLL_LOCK 0 = 0 ∧ t.rd SYS_CLKSTAT_KPLL_LOCK 0 = 0 ∧ t.rd TG_DTSTAT_UNCORR 0 = 1 ∧
        t.kpllOut = true ∧ t.cpll = some (b, if s.rd SYS_CLKSTAT_CREF 0 = 3 then (s.committed.getD {}).clock.getD 0 0 else s.rd SYS_CLKSTAT_CREF 0) ∧
        s.et ≤ b ∧ b ≤ s.et + usec 100) ∧
    (s.on FRST_SYSSTAT_REFOK 0 = false ∨ s.on SYS_CLKSTAT_CPLL_LOCK 0 = false ∨ s.on SYS_CLKSTAT_KPLL_LOCK 0 = false ∨ (∃ k, k < 48 ∧ (s.leg k).st ≠ .safe) →
      ∃ t, exec .clkret s = .next t ∧ t.rd FRST_STAT_ERR 0 = 1 ∧ t.rd FRST_STAT_LASTERR 0 = 5 ∧ t = { s with regs := t.regs, raised := t.raised } ∧
        sameRegs s t [(FRST_STAT_ERR, 0), (FRST_STAT_LASTERR, 0)])) ∧
  ∀ (w : BitVec 32) (s : State), s.supply.up = true →
    (∃ t, exec (.gpioOutWrite w) s = .next t ∧ (∀ i, i < 32 → bit (t.rd PIN_GPIO_OUT_OUT 0) i = (bit w.toNat i && s.rd PIN_CFG_FUNC i == 0)) ∧
      t = { s with regs := t.regs, pinCh := t.pinCh, pinAt := t.pinAt, fv := t.fv } ∧ sameRegs s t [(PIN_GPIO_OUT_OUT, 0)]) ∧
    (∃ t, exec (.gpioOeWrite w) s = .next t ∧ (∀ i, i < 32 → bit (t.rd PIN_GPIO_OE_OE 0) i = (bit w.toNat i && s.rd PIN_CFG_FUNC i == 0)) ∧
      t = { s with regs := t.regs, pinCh := t.pinCh, pinAt := t.pinAt, fv := t.fv } ∧ sameRegs s t [(PIN_GPIO_OE_OE, 0)]) ∧
    ∀ (bank : Fin 9) (level : BitVec 2), ∃ t, exec (.vioBankChange bank level) s = .next t ∧ t = { s with regs := t.regs } ∧
      (bank = 8 → t.rd PIN_VIOSTAT_G 0 = level.toNat ∧ sameRegs s t [(PIN_VIOSTAT_G, 0)]) ∧
      (bank.val < 8 → t.rd PIN_VIOSTAT_E 0 / 4 ^ bank.val % 4 = level.toNat ∧ sameRegs s t [(PIN_VIOSTAT_E, 0)] ∧
        ∀ b : Fin 8, b.val ≠ bank.val → t.rd PIN_VIOSTAT_E 0 / 4 ^ b.val % 4 = s.rd PIN_VIOSTAT_E 0 / 4 ^ b.val % 4)

/-- R478 to R483, Tables 21.2 to 21.4, 21.7: a device reset takes 10 µs, keeps what Table 21.2 keeps and puts every other register at its reset value; a command of the
FRST array drains, resets, holds and releases its function, or is refused with its LASTERR and changes nothing else. -/
def Obligations.ResetsOfDeviceAndFunctions : Prop :=
  (∀ (ini : Initiator) (w : BitVec 32) (s : State), s.supply.up = true →
    (w ≠ 0x9664 → exec (.devrstWrite ini w) s = .next s) ∧
    ∀ p ∈ ([(Instr.deviceReset, 3), (.devrstWrite ini 0x9664, if initNum ini = 16 then 4 else 5)] : List (Instr × Nat)),
    ∃ t, exec p.1 s = .next t ∧ t.et = s.et + usec 10 ∧ t.dt0 = s.endPace.dt0 ∧ t.pace = none ∧ t.supply = s.supply ∧
      (s.nvOp = none → s.prkOp = none → t.nvm = s.nvm ∧ t.nv = s.nv) ∧ t.pending = s.pending ∧ t.sram = [] ∧
      t.tcm = [] ∧ t.engs = [] ∧ t.cores = [] ∧ t.legs = [] ∧ t.timers = [] ∧ t.fns = [] ∧ t.committed = none ∧ t.bootEnded = false ∧ t.gated = false ∧
      t.rd FRST_CAUSE_CAUSE 0 = p.2 ∧ t.rd FRST_CAUSE_LEVEL 0 = 2 ∧ t.rd FRST_CAUSE_COUNT 0 = satInc (s.rd FRST_CAUSE_COUNT 0) 255 % 2 ^ 8 ∧
      (∀ (f : Field) (i : Nat), f.key.val ∈ devKeeps ∨ f = PIN_VIOSTAT_G ∨ f = PIN_VIOSTAT_E → t.rd f i = s.rd f i) ∧
      ∀ (f : Field) (i : Nat), f.key.val ∉ devKeeps → f.key ∉ ([FRST_CAUSE_COUNT, FRST_CAUSE_CAUSE, FRST_CAUSE_LEVEL, PIN_VIOSTAT_G, PIN_VIOSTAT_E] :
        List Field).map (·.key) → t.rd f i = f.rst) ∧
  (∀ (ini : Initiator) (f : Fin 512) (s : State),
    let g := s.fnLead f
    let x := s.fnRst g
    let err (t : State) (code : Nat) : Prop := t.rd FRST_STAT_ERR 0 = 1 ∧ t.rd FRST_STAT_LASTERR 0 = code ∧ t = { s with regs := t.regs, raised := t.raised } ∧
      sameRegs s t [(FRST_STAT_ERR, 0), (FRST_STAT_LASTERR, 0)]
    s.supply.up = true →
    ∀ p ∈ ([(Instr.funcReset ini f, false, false), (.funcHreset ini f, true, false), (.funcHold ini f, false, true), (.funcHhold ini f, true, true)] :
      List (Instr × Bool × Bool)),
    (s.rd PRK_STATE_OP 0 = 3 → ∃ t, exec p.1 s = .next t ∧ err t 2) ∧
    (s.rd PRK_STATE_OP 0 ≠ 3 → fnValid f = false → ∃ t, exec p.1 s = .next t ∧ err t 1) ∧
    (s.rd PRK_STATE_OP 0 ≠ 3 → fnValid f = true → s.frstAt ≠ some (s.et / 64) → x.phase = 0 →
      ∃ t, exec p.1 s = .next t ∧ (t.fnRst g).keep = p.2.2 ∧ t.rd FRST_STAT_INIT 0 = initNum ini % 2 ^ 8 ∧ t.rd FRST_STAT_FUNC 0 = f ∧ t.frstAt = some (s.et / 64) ∧
        (p.2.1 = true ∨ f.val < 0x60 → (t.fnRst g).phase = 2 ∧ ∃ d, (t.fnRst g).due = some d ∧ s.et ≤ d) ∧
        (p.2.1 = false → (t.fnRst g).phase = 1 ∨ (t.fnRst g).phase = 2) ∧ (∀ h, h ≠ g → t.fnRst h = s.fnRst h) ∧
        ((t.fnRst g).phase = 2 → (0xA0 ≤ g → g < 0xD0 → (t.leg (g - 0xA0)).st = .safe) ∧ (0x150 ≤ g → (t.core (g - 0x150)).st = 0))) ∧
    (s.rd PRK_STATE_OP 0 ≠ 3 → fnValid f = true → s.frstAt ≠ some (s.et / 64) → x.phase = 2 → (x.keep = true ∨ p.2.2 = false) → ∃ t, exec p.1 s = .next t ∧ err t 3) ∧
    (s.rd PRK_STATE_OP 0 ≠ 3 → fnValid f = true → s.frstAt ≠ some (s.et / 64) → x.phase = 2 → x.keep = false → p.2.2 = true → ∃ t, exec p.1 s = .next t ∧
      t.fnRst g = { x with keep := true } ∧ t = { s with regs := t.regs, frst := t.frst, frstAt := some (s.et / 64) } ∧ t.rd FRST_STAT_FUNC 0 = f) ∧
    (s.rd PRK_STATE_OP 0 ≠ 3 → fnValid f = true → s.frstAt ≠ some (s.et / 64) → x.phase = 3 → x.keep = true → (f.val < 0x60) →
      ∃ t, exec p.1 s = .next t ∧ (t.fnRst g).phase = 2 ∧ (t.fnRst g).keep = true)) ∧
  (∀ (ini : Initiator) (f : Fin 512) (s : State), s.supply.up = true → s.rd PRK_STATE_OP 0 ≠ 3 → fnValid f = true → s.frstAt ≠ some (s.et / 64) →
    ((s.fnRst (s.fnLead f)).phase = 3 → ∃ t, exec (.funcRelease ini f) s = .next t ∧ t.fnRst (s.fnLead f) = {} ∧ t.rd FRST_STAT_INIT 0 = initNum ini % 2 ^ 8 ∧
      t.rd FRST_STAT_FUNC 0 = f) ∧
    ((s.fnRst (s.fnLead f)).phase = 0 → ∃ t, exec (.funcRelease ini f) s = .next t ∧ t.rd FRST_STAT_ERR 0 = 1 ∧ t.rd FRST_STAT_LASTERR 0 = 4 ∧
      sameRegs s t [(FRST_STAT_ERR, 0), (FRST_STAT_LASTERR, 0)])) ∧
  ∀ (f : Fin 512) (pass : BitVec 12) (n : Nat) (s : State),
    let g := s.fnLead f
    let x := s.fnRst g
    s.supply.up = true →
    (x.phase = 1 → s.fnDrained g = true → ∃ t, exec (.funcDrainEnd f) s = .next t ∧ (t.fnRst g).phase = 2 ∧ (t.fnRst g).keep = x.keep) ∧
    (x.phase = 2 → x.due = some n → (g < 0x60 ∨ 0x90 ≤ g) → ∃ t, exec (.funcResetEnd f pass) s = .next t ∧ n ≤ t.et ∧
      (x.keep = true → t.fnRst g = { phase := 3, keep := true }) ∧ (x.keep = false → t.fnRst g = {}) ∧
      (0x150 ≤ g → s.lockstep (g - 0x150) = true → t.on CP_STAT_CMPFAIL ((g - 0x150) / 2 * 2) = decide (pass.toNat ≠ 4095))) ∧
    (x.phase = 2 → 0x60 ≤ g → g < 0x90 → (x.keep = true → (s.eng (g - 0x60)).reload.isSome = true → ∃ t, exec (.funcResetEnd f pass) s = .next t ∧
        t.fnRst g = { phase := 3, keep := true } ∧ t = { s with frst := t.frst }) ∧
      (x.keep = false → (s.eng (g - 0x60)).reload = none → (s.eng (g - 0x60)).rst = false → ∃ t, exec (.funcResetEnd f pass) s = .next t ∧
        t.fnRst g = {} ∧ t = { s with frst := t.frst }))

/-- R371, R372, R376, R378 to R381: a failed comparison counts and names its group, undoes the journal and takes the pair through EVEC from its checkpoint; a third one since
the checkpoint stops it; the comparator test runs only without a committed task, and its result sets or clears CMPFAIL. -/
def Obligations.PairsCompareAndReplay : Prop :=
  (∀ (p : Fin 8) (g : Fin 12) (s : State),
    let c := 2 * p.val
    s.supply.up = true → s.lockstep c = true → (s.core c).st = 1 → s.keptBad c = false →
    (2 ≤ s.rd CP_MMINFO_SINCE c → ∃ t, exec (.compareMismatch p g) s = .next t ∧ (t.core c).st = 3 ∧ bit (t.rd CP_FAULT_FLAGS c) 2 = true ∧
      bit (t.rd CP_FAULT_FLAGS c) 6 = true ∧ t.rd CP_MMINFO_GROUP c = g ∧ t.rd CP_MMPC_VALUE c = (s.core c).arch.pc % 2 ^ 32 ∧ t.sram = s.sram ∧ t.tcm = s.tcm ∧
      ∀ d, d ≠ c → t.core d = s.core d) ∧
    (s.rd CP_MMINFO_SINCE c < 2 → s.on CP_STAT_JVOID c = false → s.traceQuiet c = true → ((s.core c).ckpt.getD {}).frames.length < 4 →
      ∃ t, exec (.compareMismatch p g) s = .next t ∧ (t.core c).st = 1 ∧ (t.core c).arch.pc = s.rd CP_EVEC_EVEC c ∧ (t.core c).jrnl = [] ∧
        (t.core c).arch.frames.length = ((s.core c).ckpt.getD {}).frames.length + 1 ∧ (∀ r, (t.core c).arch.reg r = ((s.core c).ckpt.getD {}).reg r) ∧
        (t.core c).epc = ((s.core c).ckpt.getD {}).pc ∧ t.rd CP_MMINFO_SINCE c = s.rd CP_MMINFO_SINCE c + 1 ∧ t.rd CP_MMINFO_GROUP c = g ∧
        t.rd CP_MMPC_VALUE c = (s.core c).arch.pc % 2 ^ 32 ∧ bit (t.rd CP_FAULT_FLAGS c) 2 = true ∧
        t.rd CP_STAT_REPLAYS c = satInc (s.rd CP_STAT_REPLAYS c) 255 % 2 ^ 8 ∧ (∀ d, d ≠ c → t.core d = s.core d) ∧
        ((s.core c).jrnl = [] → t.sram = s.sram ∧ t.tcmOf c = s.tcmOf c) ∧
        (∀ (a b : Nat) (l k : List (BitVec 8)), (s.core c).jrnl = [⟨true, a, l⟩, ⟨false, b, k⟩] → t.sram = s.sram.wrL a l ∧ t.tcmOf c = (s.tcmOf c).wrL b k))) ∧
  ∀ (p : Fin 8) (pass : BitVec 12) (s : State),
    let c := 2 * p.val
    s.supply.up = true →
    ((s.core c).task = none → (s.core (c + 1)).task = none → ∃ t d, exec (.cmptest p) s = .next t ∧ t.rd CP_CMPRES_RUN c = 1 ∧ (t.core c).cmpDue = some d ∧ s.et ≤ d ∧
      d ≤ s.et + 128000 ∧ sameRegs s t [(CP_CMPRES_RUN, c)]) ∧
    ((s.core c).task.isSome = true ∨ (s.core (c + 1)).task.isSome = true → ∃ t, exec (.cmptest p) s = .next t ∧ t.rd CP_CMPRES_BUSY c = 1 ∧
      t = { s with regs := t.regs, raised := t.raised } ∧ sameRegs s t [(CP_CMPRES_BUSY, c)]) ∧
    ∀ n, (s.core c).cmpDue = some n → ∃ t, exec (.cmptestDone p pass) s = .next t ∧ t.rd CP_CMPRES_DONE c = 1 ∧ t.rd CP_CMPRES_RUN c = 0 ∧
      t.rd CP_CMPRES_PASS c = pass.toNat ∧ (t.core c).cmpDue = none ∧ t.et = max s.et n ∧ (pass.toNat = 4095 → t.rd CP_STAT_CMPFAIL c = 0) ∧
      (pass.toNat ≠ 4095 → s.lockstep c = true → t.rd CP_STAT_CMPFAIL c = 1 ∧ bit (t.rd CP_FAULT_FLAGS c) 5 = true) ∧
      (pass.toNat ≠ 4095 → s.lockstep c = false → t.rd CP_STAT_CMPFAIL c = s.rd CP_STAT_CMPFAIL c ∧ t.rd CP_FAULT_FLAGS c = s.rd CP_FAULT_FLAGS c)

/-! ## Non-volatile store (spec/22) -/

/-- R487, R490 to R495, R500, R501, Table 22.10: a command of NVM_CMD starts for the owner of the staging buffer within its limits, or ends with its code; at its end
what it writes is in place and nothing else changed, or after a failure nothing is; CLAIM, RELEASE and the staging buffer serve one owner; a scrub counts what it finds. -/
def Obligations.NvmCommandsAndScrub : Prop :=
  ((∀ (ini : Initiator) (count : BitVec 6) (s : State),
    let arg := s.rd NVM_ARG_ARG 0
    let own : Prop := s.on NVM_CLAIM_HELD 0 = true ∧ s.rd NVM_CLAIM_OWNER 0 = initNum ini
    let idle : Prop := s.nvOp = none ∧ s.rd PRK_STATE_OP 0 = 0
    let fits : Prop := 1 ≤ count.toNat ∧ count.toNat ≤ 32
    let starts (i : Instr) (op : Nat) : Prop := ∃ t o, exec i s = .next t ∧ t.nvOp = some o ∧ o.op = op ∧ o.ini = initNum ini ∧ o.arg = arg ∧ o.count = count.toNat ∧
      (op ≤ 2 → o.buf = s.stBytes (64 * count.toNat)) ∧ s.et ≤ o.due ∧ t.rd NVM_STAT_BUSY 0 = 1 ∧ t.rd NVM_STAT_OP 0 = op ∧
      t = { s with regs := t.regs, nvOp := t.nvOp, fv := t.fv } ∧ sameRegs s t [(NVM_STAT_BUSY, 0), (NVM_STAT_OP, 0), (NVM_CMD_OP, 0), (NVM_CMD_COUNT, 0)]
    let ends (i : Instr) (op code : Nat) : Prop := ∃ t, exec i s = .next t ∧ t.rd NVM_RESULT_CODE 0 = code ∧ t.rd NVM_RESULT_OP 0 = op ∧
      t.rd NVM_RESULT_INIT 0 = initNum ini ∧ t.rd NVM_STAT_DONE 0 = 1 ∧ bit (t.rd NVM_FAULT_FLAGS 0) 3 = true ∧ t.nvOp = s.nvOp ∧ t.nvm = s.nvm ∧ t.nv = s.nv
    ini.wf = true → s.supply.up = true →
    (idle → own → fits → arg + count.toNat ≤ 16384 → starts (.store ini count) 1) ∧
    (idle → own → fits → arg % 64 = 0 → 0x1800000 ≤ arg → arg + 64 * count.toNat ≤ 0x1C00000 →
      s.holdsWrite ini (0x30000000 + arg) (0x30000000 + arg + 64 * count.toNat - 1) = true → starts (.prog ini count) 2) ∧
    (idle → own → initNum ini = 16 → (∀ q ∈ s.nv.keys, q.1 ≠ arg % 4) → starts (.keyprog ini count) 3) ∧
    (idle → initNum ini = 16 → (∃ q ∈ s.nv.keys, q.1 = arg % 4) → (∃ q ∈ s.nv.keys, q.1 ≠ arg % 4 ∧ q.1 ∉ s.nv.revoked) → starts (.keyrev ini count) 4) ∧
    (idle → initNum ini = 16 → starts (.option ini count) 5) ∧
    (idle → fits → arg + count.toNat ≤ 16384 → ¬ own → ends (.store ini count) 1 5) ∧
    (∀ p ∈ ([(Instr.keyprog ini count, 3), (.keyrev ini count, 4), (.option ini count, 5)] : List (Instr × Nat)), idle → initNum ini ≠ 16 → ends p.1 p.2 3) ∧
    ∀ p ∈ ([(Instr.store ini count, 1), (.prog ini count, 2), (.keyprog ini count, 3), (.keyrev ini count, 4), (.option ini count, 5)] : List (Instr × Nat)),
      s.nvOp.isSome = true → ends p.1 p.2 1) ∧
  (∀ (o : NvOp) (s : State), s.supply.up = true → s.nvOp = some o →
    (∃ t, exec (.nvmWriteDone true) s = .next t ∧ t.nvOp = none ∧ t.rd NVM_STAT_BUSY 0 = 0 ∧ t.rd NVM_RESULT_CODE 0 = 6 ∧ t.rd NVM_RESULT_OP 0 = o.op % 2 ^ 3 ∧
      t.rd NVM_STAT_DONE 0 = 1 ∧ bit (t.rd NVM_FAULT_FLAGS 0) 1 = true ∧ t.et = max s.et o.due ∧
      (3 ≤ o.op → t.nvm = s.nvm ∧ t.nv = s.nv) ∧ (o.op = 2 → ∀ x, x < o.arg ∨ o.arg + o.buf.length ≤ x → t.nvm.rd x = s.nvm.rd x) ∧
      (o.op = 1 → let a := 0x1C00000 + 64 * o.arg
        (t.nvm = s.nvm ∧ t.nv.setGen = s.nv.setGen) ∨ ((∀ (j : Nat) (h : j < o.buf.length), t.nvm.rd (a + j) = o.buf[j]) ∧
          (∀ x, x < a ∨ a + o.buf.length ≤ x → t.nvm.rd x = s.nvm.rd x) ∧ t.nv.setGen = s.nv.setGen + 1))) ∧
    ∃ t, exec (.nvmWriteDone false) s = .next t ∧ t.nvOp = none ∧ t.rd NVM_STAT_BUSY 0 = 0 ∧ t.rd NVM_RESULT_CODE 0 = 0 ∧ t.rd NVM_RESULT_OP 0 = o.op % 2 ^ 3 ∧
      t.rd NVM_STAT_DONE 0 = 1 ∧ t.et = max s.et o.due ∧
      (o.op = 1 ∨ o.op = 2 →
        let a := if o.op = 1 then 0x1C00000 + 64 * o.arg else o.arg
        (∀ (j : Nat) (h : j < o.buf.length), t.nvm.rd (a + j) = o.buf[j]) ∧ ∀ x, x < a ∨ a + o.buf.length ≤ x → t.nvm.rd x = s.nvm.rd x) ∧
      (o.op = 1 → t.nv.setGen = s.nv.setGen + 1 ∧ t.rd NVM_SETGEN_VALUE 0 = (s.nv.setGen + 1) % 2 ^ 32) ∧
      (o.op = 3 → (o.arg % 4, ofBE o.buf) ∈ t.nv.keys ∧ t.nvm = s.nvm) ∧ (o.op = 4 → o.arg % 4 ∈ t.nv.revoked ∧ t.nvm = s.nvm) ∧
      (o.op = 5 → t.nv.splitopt = o.arg % 256 ∧ t.nv.straplock = bit o.arg 8 ∧ t.nvm = s.nvm)) ∧
  ∀ (ini : Initiator) (j : Fin 512) (w : BitVec 32) (s : State), ini.wf = true → s.supply.up = true →
    (s.on NVM_CLAIM_HELD 0 = false → ∃ t, exec (.claim ini) s = .next t ∧ t.rd NVM_CLAIM_HELD 0 = 1 ∧ t.rd NVM_CLAIM_OWNER 0 = initNum ini ∧
      sameRegs s t [(NVM_CLAIM_HELD, 0), (NVM_CLAIM_OWNER, 0)] ∧ t = { s with regs := t.regs }) ∧
    (s.on NVM_CLAIM_HELD 0 = true → exec (.claim ini) s = .next s) ∧
    ((s.on NVM_CLAIM_HELD 0 = true ∧ s.rd NVM_CLAIM_OWNER 0 = initNum ini) ∨ ini = .pf0 → ∃ t, exec (.release ini) s = .next t ∧ t.rd NVM_CLAIM_HELD 0 = 0 ∧
      sameRegs s t [(NVM_CLAIM_HELD, 0), (NVM_CLAIM_OWNER, 0)] ∧ t = { s with regs := t.regs }) ∧
    (¬ (s.on NVM_CLAIM_HELD 0 = true ∧ s.rd NVM_CLAIM_OWNER 0 = initNum ini) → exec (.stbufWrite ini j w) s = .next s ∧
      (ini ≠ .pf0 → exec (.release ini) s = .next s)) ∧
    (s.on NVM_CLAIM_HELD 0 = true → s.rd NVM_CLAIM_OWNER 0 = initNum ini → ∃ t, exec (.stbufWrite ini j w) s = .next t ∧ t.rd NVM_STBUF_DATA j = w.toNat ∧
      sameRegs s t [(NVM_STBUF_DATA, j)] ∧ t = { s with regs := t.regs })) ∧
  (∀ (cls : Fin 9) (inst addr : Nat) (s : State), s.supply.up = true → (cls.val, inst, addr / 16) ∉ s.badCw →
    exec (.eccScrub cls inst addr .ok) s = .next s ∧
    (cls.val ≠ 2 ∧ cls.val ≠ 3 → ∃ t, exec (.eccScrub cls inst addr .corr) s = .next t ∧
      t.rd NVM_ECCCNT_CORR (eccClass cls) = (s.rd NVM_ECCCNT_CORR (eccClass cls) + 1) % 2 ^ 16 ∧ sameRegs s t [(NVM_ECCCNT_CORR, eccClass cls)] ∧
      t = { s with regs := t.regs }) ∧
    (cls.val ≠ 3 → ∃ t, exec (.eccScrub cls inst addr .uncorr) s = .next t ∧ (cls.val, inst, addr / 16) ∈ t.badCw ∧ (∀ q ∈ s.badCw, q ∈ t.badCw) ∧
      t.rd NVM_ECCCNT_UNCORR (eccClass cls) = (s.rd NVM_ECCCNT_UNCORR (eccClass cls) + 1) % 2 ^ 16 ∧ bit (t.rd NVM_FAULT_FLAGS 0) 0 = true ∧
      t = { s with regs := t.regs, raised := t.raised, logs := t.logs, badCw := t.badCw, out := t.out, fns := t.fns }))
/-! ## Debug and test access (spec/23) -/

/-- R507, R508, R469: the instructions of the test access port, what they shift out, their refusal under a committed structure and under STRAPLOCK, and what DAPACC reads and
writes. -/
def Obligations.TapInstructionsAct : Prop :=
  (∀ (scan : Nat) (s : State), s.supply.up = true →
    (∃ t, exec .idcode s = .next t ∧ t.tap = { s.tap with ir := 2 } ∧ t.out = .tapData 0x1966456F :: s.out ∧ t.regs = s.regs) ∧
    (∃ t, exec .bypass s = .next t ∧ t = { s with tap := { s.tap with ir := 0xFF } }) ∧
    (∃ t, exec .tapReset s = .next t ∧ t.rd DBG_CTL_DAPEN 0 = 0 ∧ t.tap = { s.tap with ir := 2 } ∧ sameRegs s t [(DBG_CTL_DAPEN, 0)]) ∧
    (∃ t d, exec (.samplePreload scan) s = .next t ∧ t.tap = { s.tap with ir := 1, scan := scan } ∧ t.out = .tapData d :: s.out ∧ t.regs = s.regs) ∧
    (∀ p ∈ ([(Instr.extest scan, 0), (.clamp, 3), (.highz, 4)] : List (Instr × Nat)),
      (s.tapLocked = true → ∃ t, exec p.1 s = .next t ∧ t = { s with tap := { s.tap with ir := 0xFF } }) ∧
      (s.tapLocked = false → s.rd PRK_STATE_STRUCT 0 = 1 → ∃ t, exec p.1 s = .next t ∧ t.tap = { s.tap with ir := 0xFF } ∧ t.rd DBG_STAT_JREF 0 = 1 ∧
        t.tapDrives = none ∧ sameRegs s t [(DBG_STAT_JREF, 0)] ∧ t = { s with tap := t.tap, regs := t.regs, raised := t.raised }) ∧
      (s.tapLocked = false → s.rd PRK_STATE_STRUCT 0 ≠ 1 → ∃ t, exec p.1 s = .next t ∧ t.tap.ir = p.2 ∧ t.tapDrives = some p.2 ∧ t.regs = s.regs ∧
        (p.2 = 0 → t.tap.scan = scan ∧ ∃ d, t.out = .tapData d :: s.out) ∧ (p.2 ≠ 0 → t = { s with tap := { s.tap with ir := p.2 } })))) ∧
  ∀ (op : BitVec 2) (addr w : BitVec 32) (data : Option (List (BitVec 8))) (s : State),
    let captured : Out := .tapData (s.tap.res * 2 ^ 66 + s.tap.data * 2 ^ 34)
    s.supply.up = true → s.noStep = true →
    (s.tapLocked = true → ∃ t, exec (.dapacc op addr w data) s = .next t ∧ t.tap.ir = 0xFF ∧ t.tap.res = 3 ∧ t.out = .tapData (3 * 2 ^ 66) :: s.out ∧ t = { s with tap := t.tap, out := t.out }) ∧
    (s.tapLocked = false → op = 0 ∨ op = 3 → ∃ t, exec (.dapacc op addr w data) s = .next t ∧ t.tap = { s.tap with ir := 0x10 } ∧ t.out = captured :: s.out ∧ t = { s with tap := t.tap, out := t.out }) ∧
    (s.tapLocked = false → op = 1 ∨ op = 2 → s.yard = none → addr.toNat % 4 ≠ 0 → ∃ t, exec (.dapacc op addr w data) s = .next t ∧ t.tap.res = 2 ∧ t.tap.data = 0 ∧
      t.sram = s.sram ∧ t.tcm = s.tcm ∧ t.nvm = s.nvm ∧
      (addr.toNat < 0x40000000 → t.out = captured :: s.out ∧ t = { s with tap := t.tap, out := t.out }) ∧
      (0x40000000 ≤ addr.toNat → addr.toNat < 0x40780000 → s.rd SYS_ADDRERR_INFO_VALID 0 = 0 → t.rd SYS_ADDRERR_INFO_VALID 0 = 1 ∧
        t.rd SYS_ADDRERR_INFO_KIND 0 = 2 ∧ t.rd SYS_ADDRERR_INFO_INIT 0 = 24)) ∧
    (s.tapLocked = false → op = 1 ∨ op = 2 → s.yard.isSome = true → ∃ t, exec (.dapacc op addr w data) s = .next t ∧ t.tap.res = 1 ∧
      t.tap.wait = some (op.toNat, addr.toNat, w.toNat) ∧ t.out = captured :: s.out ∧
      ((s.punit 9).exit = none → (s.punit 9).wake = false → t.rd PWR_WAKE_LAST 0 = 7)) ∧
    (s.tapLocked = false → s.yard = none → s.badCw = [] → addr.toNat % 4 = 0 → 0x10000000 ≤ addr.toNat → addr.toNat < 0x12000000 →
      (op = 1 → ∃ t, exec (.dapacc op addr w data) s = .next t ∧ t.tap.res = 0 ∧ t.tap.data = s.sram.rdN (addr.toNat - 0x10000000) 4 ∧ t.sram = s.sram ∧
        t.out = captured :: s.out) ∧
      (op = 2 → ∃ t, exec (.dapacc op addr w data) s = .next t ∧ t.tap.res = 0 ∧ t.sram = s.sram.wrN (addr.toNat - 0x10000000) 4 w.toNat ∧ t.out = captured :: s.out))

/-- R510 to R513, R515 to R517: the debugger halts, steps and resumes a core and reaches its registers while it is halted; an engine is detached and attached, runs a slot
from its entry, a microword at a time or on to its end or the breakpoint; a command that does not apply is refused with WERR. -/
def Obligations.DebuggerHoldsCoresAndEngine : Prop :=
  (∀ (c : Fin 16) (s : State), s.supply.up = true →
    (s.coreOk c = true → (s.core c).st = 1 → (s.core c).haltReq = false → ∃ t n, exec (.halt c) s = .next t ∧
      t = { s.setCore c { s.core c with haltReq := true, haltFrom := n } with fv := t.fv } ∧ cycAt (s.et + 103) ≤ n ∧ n ≤ cycAt (s.et + 153)) ∧
    ((s.core c).haltReq = true → (s.core c).stepping = false → s.haltOk c = true → ∃ t, exec (.coreHalted c) s = .next t ∧ (t.core c).st = 4 ∧ (t.core c).haltReq = false ∧
      (t.core c).wait = .none ∧ (t.core c).arch = (s.core c).arch ∧ t.rd DBG_C_STAT_CAUSE c = 1 ∧ sameRegs s t [(DBG_C_STAT_CAUSE, c)] ∧ ∀ d, d ≠ c.val → t.core d = s.core d) ∧
    (s.canIssue c = true → s.bpHit c = true → ∃ t, exec (.breakpointHit c) s = .next t ∧ (t.core c).st = 4 ∧ (t.core c).arch = (s.core c).arch ∧
      t.rd DBG_C_STAT_CAUSE c = 3 ∧ sameRegs s t [(DBG_C_STAT_CAUSE, c)] ∧ ∀ d, d ≠ c.val → t.core d = s.core d) ∧
    ((s.core c).st = 4 → ∃ t, exec (.resume c) s = .next t ∧ (t.core c).st = 1 ∧ (t.core c).skipBp = true ∧ (t.core c).arch = (s.core c).arch ∧
      (∀ d, d ≠ c.val → t.core d = s.core d) ∧ t = { s with cores := t.cores }) ∧
    ((s.core c).st ≠ 4 → exec (.resume c) s = .next s ∧ (s.noStep = true → exec (.step c) s = .next s)) ∧
    ((s.core c).st = 4 → s.noStep = true → s.coreClock = true →
      let u := ((s.setCore c { s.core c with stepping := true }).unhalt c).instrAt c
      (u.core c).st = 1 → (u.core c).wait = .none → (u.core c).pload = none → (u.on DBG_C_CTL_MASKINT c = true ∨ u.irqOk c = false) → (u.coreHalt c 4).noStep = true →
      ∃ t, exec (.step c) s = .next t ∧ (t.core c).st = 4 ∧ (t.core c).stepping = false ∧ (t.core c).arch = (u.core c).arch ∧ t.rd DBG_C_STAT_CAUSE c = 4)) ∧
  (∀ (c : Fin 16) (w : BitVec 32) (s : State), s.supply.up = true →
    let k := s.core c
    let i := s.rd DBG_C_RSEL_SEL c
    (k.st ≠ 4 → (∃ t, exec (.rdataAccess c none) s = .next t ∧ t.out = .readData 0 :: s.out ∧ t.rd DBG_C_STAT_WERR c = 1 ∧ t.cores = s.cores) ∧
      ∃ t, exec (.rdataAccess c (some w)) s = .next t ∧ t.rd DBG_C_STAT_WERR c = 1 ∧ t = { s with regs := t.regs, raised := t.raised }) ∧
    (k.st = 4 → i < 32 → exec (.rdataAccess c none) s = .next (s.emit (.readData (BitVec.ofNat 32 (k.arch.reg i)))) ∧
      ∃ t, exec (.rdataAccess c (some w)) s = .next t ∧ t = s.setCore c { k with arch := k.arch.setReg i w.toNat }) ∧
    (k.st = 4 → ∀ n, n < 256 → i = 0x100 + n → (∀ q, s.srRead c n k.haltAt = some q → exec (.rdataAccess c none) s = .next (q.2.emit (.readData (BitVec.ofNat 32 q.1)))) ∧
      (∀ t, s.srWrite c n w.toNat = .ok t → exec (.rdataAccess c (some w)) s = .next t) ∧
      (∀ e, s.srWrite c n w.toNat = .error e → ∃ t, exec (.rdataAccess c (some w)) s = .next t ∧ t.rd DBG_C_STAT_WERR c = 1 ∧ t = { s with regs := t.regs, raised := t.raised })) ∧
    (k.st = 4 → ∀ n, n < 8 → i = 0x201 + 2 * n → s.handleBad (w.toNat * 2 ^ 32 + k.wlo) = 0 → ∃ t, exec (.rdataAccess c (some w)) s = .next t ∧
      (t.core c).arch = k.arch.setWreg n (s.wregOf (w.toNat * 2 ^ 32 + k.wlo)) ∧ t = { s with cores := t.cores })) ∧
  (∀ (w : BitVec 27) (s : State), s.supply.up = true →
    let e := bits w.toNat 21 16
    (e < 48 → s.dbgTile = none → (s.ltile (e / 6)).spareOk = true → (s.eng e).mode = .normal → (s.ltile (e / 6)).has e = false →
      ∃ t, exec (.detach w) s = .next t ∧ (t.ltile (e / 6)).queue = (s.ltile (e / 6)).queue ++ [⟨e, 2⟩] ∧ t.rd DBG_LCTL_LE 0 = e ∧ t.rd DBG_LSTAT_WERR 0 = s.rd DBG_LSTAT_WERR 0) ∧
    (s.dbgTile.isSome = true ∨ 48 ≤ e → ∃ t, exec (.detach w) s = .next t ∧ t.rd DBG_LSTAT_WERR 0 = 1 ∧ t.ltiles = s.ltiles) ∧
    (s.dbgTile = none → ∀ i ∈ ([.attach w, .dispatch w, .lstep w, .cont w] : List Instr), ∃ t, exec i s = .next t ∧ t.rd DBG_LSTAT_WERR 0 = 1 ∧ t = { s with regs := t.regs, raised := t.raised }) ∧
    ∀ (i : Nat) (x : LeSwap), s.dbgTile = some i → (s.ltile i).cur = some x →
      ∃ t d, exec (.attach w) s = .next t ∧ (t.ltile i).cur = some { x with phase := 3, due := d } ∧ s.et ≤ d ∧ d ≤ s.et + usec 200 ∧ t.rd DBG_LSTAT_DETACHED 0 = 0 ∧
        t.rd DBG_LSTAT_INRUN 0 = 0 ∧ (t.eng (48 + i)).run = none) ∧
  ∀ (w : BitVec 27) (i : Nat) (s : State), s.supply.up = true → s.dbgTile = some i →
    let e := 48 + i
    let slot := bits w.toNat 24 22
    (s.on DBG_LSTAT_INRUN 0 = false → bit w.toNat 26 = false → s.on LE_SLOT_JOB_VALID (8 * e + slot) = true → (s.eng e).fb = none →
      ∃ t, exec (.dispatch w) s = .next t ∧ (t.eng e).run = some { slot := slot, t0 := engCeil s.et, pc := s.rd LE_SLOT_CODE_ENTRY (8 * e + slot), at_ := s.rd LE_SLOT_CODE_ENTRY (8 * e + slot) } ∧
        t.rd DBG_LSTAT_INRUN 0 = 1 ∧ t.rd DBG_LSTAT_ADDR 0 = s.rd LE_SLOT_CODE_ENTRY (8 * e + slot) % 2 ^ 12 ∧ t.rd DBG_LSTAT_BPHIT 0 = 0 ∧ ∀ j, j ≠ e → t.eng j = s.eng j) ∧
    (s.on DBG_LSTAT_INRUN 0 = true → ∃ t, exec (.dispatch w) s = .next t ∧ t.rd DBG_LSTAT_WERR 0 = 1 ∧ t.engs = s.engs) ∧
    (s.on DBG_LSTAT_INRUN 0 = false → ∀ j ∈ ([.lstep w, .cont w] : List Instr), ∃ t, exec j s = .next t ∧ t.rd DBG_LSTAT_WERR 0 = 1 ∧ t.engs = s.engs) ∧
    (s.on DBG_LSTAT_INRUN 0 = true → (s.eng e).fb = none → ∀ r, (s.eng e).run = some r → e < 56 →
      (decodeU (mget (s.eng e).vs (2 ^ 26) r.pc) = some .nop → s.uReady e .nop = true → (s.uRun e .nop).steps < s.rd LE_SLOT_BUDGET_BUDGET (8 * e + r.slot) →
        ((r.pc + 1) % 4096 = bits w.toNat 11 0 → bit w.toNat 25 = true → ∃ t q, exec (.cont w) s = .next t ∧ (t.eng e).run = some q ∧ q.pc = (r.pc + 1) % 4096 ∧
          t.rd DBG_LSTAT_BPHIT 0 = 1 ∧ t.rd DBG_LSTAT_ADDR 0 = q.pc ∧ t.rd DBG_LSTAT_INRUN 0 = 1) ∧
        ∃ t q, exec (.lstep w) s = .next t ∧ (t.eng e).run = some q ∧ q.pc = (r.pc + 1) % 4096 ∧ q.v = (s.uRun e .nop).v ∧ t.rd DBG_LSTAT_BPHIT 0 = 0 ∧
          t.rd DBG_LSTAT_ADDR 0 = q.pc ∧ ∀ j, j ≠ e → t.eng j = s.eng j) ∧
      (decodeU (mget (s.eng e).vs (2 ^ 26) r.pc) = some .fin → s.uReady e .fin = true → ∀ j ∈ ([.lstep w, .cont w] : List Instr),
        ∃ t, exec j s = .next t ∧ (t.eng e).run = none ∧ t.rd DBG_LSTAT_INRUN 0 = 0 ∧ t.rd DBG_LSTAT_BPHIT 0 = 0 ∧ ∀ k, k ≠ e → t.eng k = s.eng k))

/-- R512: a core halts before it issues an instruction at an enabled breakpoint (five instructions stand for all); the RESUME or STEP that follows issues it without matching again;
and BRK halts the core with BRKCLAIM set and raises BRK without. -/
def Obligations.BreakpointsHaltTheCore : Prop :=
  ∀ (c : Fin 16) (pre : List (Fin 16)) (w : BitVec 16) (imm : BitVec 32) (s : State), s.supply.up = true →
    (s.canIssue c = true → s.bpHit c = true → ((s.core c).haltReq = false ∨ s.haltOk c = false) →
      ∀ i ∈ ([.nop c pre, .add c pre w, .addi c pre w imm, .brk c pre, .rfe c pre, .breakpointHit c] : List Instr),
      ∃ t, exec i s = .next t ∧ (t.core c).st = 4 ∧ (t.core c).arch = (s.core c).arch ∧ (t.core c).instret = (s.core c).instret ∧ t.rd DBG_C_STAT_CAUSE c = 3 ∧
        sameRegs s t [(DBG_C_STAT_CAUSE, c)]) ∧
    ((s.core c).st = 4 → (s.core c).wait = .none → s.coreOk c = true → s.coreClock = true →
      ((s.setCore c { s.core c with stepping := true }).unhalt c).bpHit c = false ∧
      ∃ t, exec (.resume c) s = .next t ∧ t.canIssue c = true ∧ t.bpHit c = false ∧ (t.core c).arch = (s.core c).arch) ∧
    (s.coreReady c 0x7D pre = true → s.on DBG_C_CTL_BRKCLAIM c = true → ∃ t, exec (.brk c pre) s = .next t ∧ (t.core c).st = 4 ∧
      (t.core c).arch = (s.core c).arch ∧ t.rd DBG_C_STAT_CAUSE c = 2) ∧
    (s.coreReady c 0x7D pre = true → s.on DBG_C_CTL_BRKCLAIM c = false → (s.core c).arch.frames.length < 4 → ∃ t, exec (.brk c pre) s = .next t ∧
      (t.core c).st = 1 ∧ (t.core c).ecause % 2 ^ 8 = 6 ∧ (t.core c).epc = (s.core c).arch.pc ∧ (t.core c).arch.pc = s.rd CP_EVEC_EVEC c)

/-! ## The block as a whole -/

/-- A step of a block with a command at the front of its queue is that command's effect with the queue's rest, in every state and for every command of the table, and it
always answers a next state; on an empty queue one FAB cycle passes (the model's choice, log entry 2). -/
def Obligations.StepRunsTheFrontCommand : Prop :=
  (∀ (i : Instr) (rest : List Instr) (s : State), s.pending = i :: rest → step s = exec i { s with pending := rest }) ∧
  (∀ s : State, s.pending = [] → step s = .next { s with et := s.et + 64 }) ∧ ∀ s : State, ∃ t, step s = .next t

/-- R14: after power-on reset every register field reads its reset value; every queue and memory is empty, every leg is in SAFE, no core runs, no structure is committed
and device time is 0. The queue of commands and the bytes of the memories are the model's own (log entries 2 and 13). -/
def Obligations.ResetLeavesEverythingAtItsResetValue : Prop :=
  (∀ (f : Field) (i : Nat), State.reset.rd f i = f.rst) ∧ State.reset.memOk = true ∧ State.reset.pending = [] ∧ State.reset.out = [] ∧ State.reset.flight = [] ∧
    State.reset.posts = [] ∧ State.reset.trigs = [] ∧ (∀ k, (State.reset.leg k).st = .safe) ∧ (∀ c, (State.reset.core c).st = 0 ∧ (State.reset.core c).pload = none) ∧
    (∀ e, (State.reset.eng e).run = none) ∧ State.reset.committed = none ∧ State.reset.tick = 0 ∧ State.reset.supply.up = true ∧ ∀ a, State.reset.sram.rd a = 0

/-- Every step keeps every byte memory of the part in its canonical form: addresses strictly rising, no listed byte equal to what an unlisted address reads as. -/
def Obligations.MemoriesStayCanonical : Prop :=
  ∀ s t : State, s.memOk = true → step s = .next t → t.memOk = true

/-- R451, R455: a device without power whose waiting commands leave the supply alone does nothing: each step drops its command, and once the queue is empty only time
passes, for any number of steps. -/
def Obligations.DarkDeviceDoesNothing : Prop :=
  ∀ (n : Nat) (s : State), s.dark → Host.Core.run Sys2Proof.core n s = .next { s with pending := s.pending.drop n, et := s.et + 64 * (n - s.pending.length) }

end
end

