-- ==== Sys2Proof/Laws/Banks.lean ====
section
/-!
SUPPORT. What counting an access to shared SRAM changes (R241): registers, the banks' instants and the count of fresh values, and nothing else.
-/
namespace Sys2Proof.Machine

/-- A bank takes any offset to one of sixteen (R239). -/
theorem State.bankOf_lt (s : State) (a : Nat) : s.bankOf a < 16 := by
  simp only [State.bankOf, show List.range 4 = [0, 1, 2, 3] from rfl, List.map_cons, List.map_nil, List.sum_cons, List.sum_nil]
  split <;> split <;> split <;> split <;> decide

/-- t is s but for what counting accesses changes. -/
def onlyBanks (s t : State) : Prop := t = { s with regs := t.regs, fv := t.fv, bankFree := t.bankFree, bankWait := t.bankWait }

theorem onlyBanks.trans {s t u : State} (h : onlyBanks s t) (k : onlyBanks t u) : onlyBanks s u := by
  unfold onlyBanks at *
  rw [k, h]

theorem State.bankLine_only (s : State) (a c : Nat) : onlyBanks s (s.bankLine a c) := rfl
theorem State.drawn_only (s : State) : onlyBanks s s.drawn := rfl

/-- Counting an access changes nothing else. -/
theorem State.bankCount_only (s : State) (off n : Nat) : onlyBanks s (s.bankCount off n) := by
  unfold State.bankCount
  dsimp only
  generalize List.range ((off + n - 1) / 64 - off / 64 + 1) = l
  have key : ∀ (l : List Nat) (q : State × Nat), onlyBanks s q.1 → onlyBanks s (l.foldl (fun (q : State × Nat) i =>
      let c := q.2 + q.1.fresh
      (q.1.drawn.bankLine (64 * (off / 64 + i)) c, c)) q).1 := by
    intro l
    induction l with
    | nil => exact fun q h => h
    | cons i l ih => exact fun q h => ih _ ((h.trans q.1.drawn_only).trans (State.bankLine_only _ _ _))
  exact key l _ rfl

@[simp] theorem State.bankCount_core (s : State) (off n c : Nat) : (s.bankCount off n).core c = s.core c := by
  rw [s.bankCount_only off n]; rfl

end Sys2Proof.Machine
end

