-- ==== Sys2Proof/Laws/Maps.lean ====
section
/-!
SUPPORT. The laws of sparse maps and of the register store: what a read finds after a write, and the canonical form that every write keeps.
-/
namespace Sys2Proof.Machine

theorem mget_mdel_ne {α : Type} (m : List (Nat × α)) (d : α) {k j : Nat} (h : j ≠ k) : mget (mdel m k) d j = mget m d j := by
  induction m with
  | nil => rfl
  | cons p t ih =>
    obtain ⟨a, v⟩ := p
    by_cases hk : a = k
    · subst hk
      simp only [mdel, ne_eq, not_true_eq_false, decide_false, Bool.false_eq_true, not_false_eq_true, List.filter_cons_of_neg, mget]
      rw [if_neg (Ne.symm h)]
      exact ih
    · simp only [mdel, ne_eq, hk, not_false_eq_true, decide_true, List.filter_cons_of_pos, mget]
      split
      · rfl
      · exact ih

theorem mget_mdel_self {α : Type} (m : List (Nat × α)) (d : α) (k : Nat) : mget (mdel m k) d k = d := by
  induction m with
  | nil => rfl
  | cons p t ih =>
    obtain ⟨a, v⟩ := p
    by_cases hk : a = k
    · subst hk
      simpa [mdel] using ih
    · have hd : mdel ((a, v) :: t) k = (a, v) :: mdel t k := by simp [mdel, hk]
      rw [hd]
      simp only [mget]
      rw [if_neg hk]
      exact ih

theorem mget_mins_ne {α : Type} (m : List (Nat × α)) (d v : α) {k j : Nat} (h : j ≠ k) : mget (mins m k v) d j = mget m d j := by
  induction m with
  | nil => simp [mins, mget, Ne.symm h]
  | cons p t ih =>
    obtain ⟨a, w⟩ := p
    simp only [mins]
    split
    · simp [mget, Ne.symm h]
    · simp only [mget]
      split
      · rfl
      · exact ih

theorem mget_mins_self {α : Type} (m : List (Nat × α)) (d v : α) (k : Nat) : mget (mins (mdel m k) k v) d k = v := by
  induction m with
  | nil => simp [mins, mdel, mget]
  | cons p t ih =>
    obtain ⟨a, w⟩ := p
    by_cases hk : a = k
    · subst hk
      simpa [mdel] using ih
    · have hd : mdel ((a, w) :: t) k = (a, w) :: mdel t k := by simp [mdel, hk]
      rw [hd]
      simp only [mins]
      split
      · simp [mget]
      · simp only [mget]
        rw [if_neg hk]
        exact ih

/-- What a sparse map holds after a value is set. -/
theorem mget_mset {α : Type} [DecidableEq α] (m : List (Nat × α)) (d v : α) (k j : Nat) :
    mget (mset m d k v) d j = if j = k then v else mget m d j := by
  unfold mset
  by_cases hj : j = k
  · subst hj
    rw [if_pos rfl]
    split
    · next h => rw [h]; exact mget_mdel_self m d j
    · exact mget_mins_self m d v j
  · rw [if_neg hj]
    split
    · exact mget_mdel_ne m d hj
    · rw [mget_mins_ne _ _ _ hj]; exact mget_mdel_ne m d hj

@[simp] theorem mget_mset_self {α : Type} [DecidableEq α] (m : List (Nat × α)) (d v : α) (k : Nat) : mget (mset m d k v) d k = v := by
  simp [mget_mset]

theorem mget_mset_ne {α : Type} [DecidableEq α] (m : List (Nat × α)) (d v : α) {k j : Nat} (h : j ≠ k) :
    mget (mset m d k v) d j = mget m d j := by
  simp [mget_mset, h]

theorem mdel_mdel {α : Type} (m : List (Nat × α)) (k : Nat) : mdel (mdel m k) k = mdel m k := by
  simp [mdel, List.filter_filter]

theorem mdel_mins {α : Type} (m : List (Nat × α)) (k : Nat) (v : α) : mdel (mins m k v) k = mdel m k := by
  induction m with
  | nil => simp [mins, mdel]
  | cons p t ih =>
    simp only [mins]
    split
    · simp [mdel]
    · by_cases hp : p.1 = k
      · simpa [mdel, hp] using ih
      · simpa [mdel, hp] using ih

/-- A value set twice is the last. -/
@[simp] theorem mset_mset {α : Type} [DecidableEq α] (m : List (Nat × α)) (d v w : α) (k : Nat) : mset (mset m d k v) d k w = mset m d k w := by
  have h : mdel (mset m d k v) k = mdel m k := by
    unfold mset
    split
    · exact mdel_mdel m k
    · rw [mdel_mins, mdel_mdel]
  unfold mset at h ⊢
  rw [h]

/-- The canonical form of a sparse map: keys strictly rise and the default is not listed. -/
def Sparse {α : Type} (d : α) (m : List (Nat × α)) : Prop := m.Pairwise (fun p q => p.1 < q.1) ∧ ∀ p ∈ m, p.2 ≠ d

theorem Sparse.nil {α : Type} (d : α) : Sparse d ([] : List (Nat × α)) := ⟨.nil, by simp⟩

theorem Sparse.filter {α : Type} {d : α} {m : List (Nat × α)} (h : Sparse d m) (f : Nat × α → Bool) : Sparse d (m.filter f) :=
  ⟨h.1.filter f, fun p hp => h.2 p (List.mem_of_mem_filter hp)⟩

theorem mem_mins {α : Type} {m : List (Nat × α)} {k : Nat} {v : α} {p : Nat × α} (h : p ∈ mins m k v) : p = (k, v) ∨ p ∈ m := by
  induction m with
  | nil => simpa [mins] using h
  | cons q t ih =>
    simp only [mins] at h
    split at h
    · simpa using h
    · rcases List.mem_cons.1 h with h | h
      · exact .inr (by simp [h])
      · rcases ih h with h | h
        · exact .inl h
        · exact .inr (by simp [h])

theorem Sparse.mins {α : Type} {d : α} {m : List (Nat × α)} (h : Sparse d m) {k : Nat} {v : α} (hv : v ≠ d) (hk : ∀ p ∈ m, p.1 ≠ k) :
    Sparse d (mins m k v) := by
  refine ⟨?_, fun p hp => ?_⟩
  · obtain ⟨hs, -⟩ := h
    induction m with
    | nil => simp [Machine.mins]
    | cons q t ih =>
      have hq := List.pairwise_cons.1 hs
      simp only [Machine.mins]
      split
      · next hlt =>
        refine List.pairwise_cons.2 ⟨fun p hp => ?_, hs⟩
        rcases List.mem_cons.1 hp with rfl | hp
        · exact hlt
        · exact lt_trans hlt (hq.1 p hp)
      · next hlt =>
        refine List.pairwise_cons.2 ⟨fun p hp => ?_, ih (fun p hp => hk p (by simp [hp])) hq.2⟩
        rcases mem_mins hp with rfl | hp
        · have := hk q (by simp); simp only; omega
        · exact hq.1 p hp
  · rcases mem_mins hp with rfl | hp
    · exact hv
    · exact h.2 p hp

/-- Setting a value keeps the canonical form. -/
theorem Sparse.mset {α : Type} [DecidableEq α] {d : α} {m : List (Nat × α)} (h : Sparse d m) (k : Nat) (v : α) :
    Sparse d (mset m d k v) := by
  have hd : Sparse d (mdel m k) := h.filter _
  unfold Machine.mset
  split
  · exact hd
  · next hv => exact hd.mins hv fun p hp => by simpa [mdel] using (List.mem_filter.1 hp).2

/-- Equal reads make canonical maps equal. -/
theorem mget_of_mem {α : Type} {d : α} {m : List (Nat × α)} (h : Sparse d m) {p : Nat × α} (hp : p ∈ m) : mget m d p.1 = p.2 := by
  obtain ⟨hs, -⟩ := h
  induction m with
  | nil => simp at hp
  | cons q t ih =>
    obtain ⟨a, v⟩ := q
    have hq := List.pairwise_cons.1 hs
    rcases List.mem_cons.1 hp with rfl | hp
    · simp [mget]
    · have := hq.1 p hp
      simp only [mget]
      rw [if_neg (by simp only at this; omega)]
      exact ih hp hq.2

/-! ## The register store -/

theorem regKey_inj {f g : Field} {i j : Nat} : regKey f i = regKey g j ↔ f.key = g.key ∧ i = j := by
  unfold regKey
  constructor
  · intro h
    have := f.key.isLt
    have := g.key.isLt
    have hk : f.key.val = g.key.val := by omega
    exact ⟨Fin.ext hk, by omega⟩
  · rintro ⟨h, rfl⟩; rw [h]

/-- A field that was written reads as the value cut to its width. -/
@[simp] theorem State.rd_wr_self (s : State) (f : Field) (i v : Nat) : (s.wr f i v).rd f i = v % 2 ^ f.w := by
  simp [State.rd, State.wr]

/-- Another field, or another instance, keeps its value. -/
theorem State.rd_wr_ne (s : State) {f g : Field} {i j : Nat} (v : Nat) (h : regKey g j ≠ regKey f i) : (s.wr f i v).rd g j = s.rd g j := by
  unfold State.rd State.wr
  by_cases hr : g.rst = f.rst
  · simp only [hr]; exact mget_mset_ne _ _ _ h
  · simp only [mset]
    split
    · exact mget_mdel_ne _ _ h
    · rw [mget_mins_ne _ _ _ h]; exact mget_mdel_ne _ _ h

theorem State.rd_wr_key (s : State) {f g : Field} {i j : Nat} (v : Nat) (h : g.key ≠ f.key) : (s.wr f i v).rd g j = s.rd g j :=
  s.rd_wr_ne v fun hk => h (regKey_inj.1 hk).1

theorem State.rd_wr_inst (s : State) {f g : Field} {i j : Nat} (v : Nat) (h : j ≠ i) : (s.wr f i v).rd g j = s.rd g j :=
  s.rd_wr_ne v fun hk => h (regKey_inj.1 hk).2

/-- A read of a field depends on the register store alone. -/
theorem State.rd_congr {s t : State} (h : t.regs = s.regs) (f : Field) (i : Nat) : t.rd f i = s.rd f i := by
  simp [State.rd, h]

@[simp] theorem State.wrs_nil (s : State) (i : Nat) : s.wrs i [] = s := rfl
@[simp] theorem State.wrs_cons (s : State) (i : Nat) (p : Field × Nat) (l : List (Field × Nat)) : s.wrs i (p :: l) = (s.wr p.1 i p.2).wrs i l := rfl
@[simp] theorem State.rstFields_nil (s : State) (i : Nat) : s.rstFields i [] = s := rfl
@[simp] theorem State.rstFields_cons (s : State) (i : Nat) (f : Field) (l : List Field) :
    s.rstFields i (f :: l) = (s.wr f i f.rst).rstFields i l := rfl

end Sys2Proof.Machine
end

