-- ==== Sys2Proof/Laws/State.lean ====
section
/-!
SUPPORT. One equation per field and update of State: what an update of one field leaves of the others (true by rfl).
-/
namespace Sys2Proof.Machine

/-! ## State.wr -/

@[simp] theorem State.wr_pending (s : State) (f : Field) (i v : Nat) : (s.wr f i v).pending = s.pending := rfl
@[simp] theorem State.wr_et (s : State) (f : Field) (i v : Nat) : (s.wr f i v).et = s.et := rfl
@[simp] theorem State.wr_dt0 (s : State) (f : Field) (i v : Nat) : (s.wr f i v).dt0 = s.dt0 := rfl
@[simp] theorem State.wr_pace (s : State) (f : Field) (i v : Nat) : (s.wr f i v).pace = s.pace := rfl
@[simp] theorem State.wr_fv (s : State) (f : Field) (i v : Nat) : (s.wr f i v).fv = s.fv := rfl
@[simp] theorem State.wr_raised (s : State) (f : Field) (i v : Nat) : (s.wr f i v).raised = s.raised := rfl
@[simp] theorem State.wr_logs (s : State) (f : Field) (i v : Nat) : (s.wr f i v).logs = s.logs := rfl
@[simp] theorem State.wr_wlNow (s : State) (f : Field) (i v : Nat) : (s.wr f i v).wlNow = s.wlNow := rfl
@[simp] theorem State.wr_prkCyc (s : State) (f : Field) (i v : Nat) : (s.wr f i v).prkCyc = s.prkCyc := rfl
@[simp] theorem State.wr_out (s : State) (f : Field) (i v : Nat) : (s.wr f i v).out = s.out := rfl
@[simp] theorem State.wr_munits (s : State) (f : Field) (i v : Nat) : (s.wr f i v).munits = s.munits := rfl
@[simp] theorem State.wr_mroles (s : State) (f : Field) (i v : Nat) : (s.wr f i v).mroles = s.mroles := rfl
@[simp] theorem State.wr_minputs (s : State) (f : Field) (i v : Nat) : (s.wr f i v).minputs = s.minputs := rfl
@[simp] theorem State.wr_mtiles (s : State) (f : Field) (i v : Nat) : (s.wr f i v).mtiles = s.mtiles := rfl
@[simp] theorem State.wr_mcs (s : State) (f : Field) (i v : Nat) : (s.wr f i v).mcs = s.mcs := rfl
@[simp] theorem State.wr_xcFails (s : State) (f : Field) (i v : Nat) : (s.wr f i v).xcFails = s.xcFails := rfl
@[simp] theorem State.wr_xcLate (s : State) (f : Field) (i v : Nat) : (s.wr f i v).xcLate = s.xcLate := rfl
@[simp] theorem State.wr_streams (s : State) (f : Field) (i v : Nat) : (s.wr f i v).streams = s.streams := rfl
@[simp] theorem State.wr_capUsed (s : State) (f : Field) (i v : Nat) : (s.wr f i v).capUsed = s.capUsed := rfl
@[simp] theorem State.wr_cap (s : State) (f : Field) (i v : Nat) : (s.wr f i v).cap = s.cap := rfl
@[simp] theorem State.wr_committed (s : State) (f : Field) (i v : Nat) : (s.wr f i v).committed = s.committed := rfl
@[simp] theorem State.wr_fns (s : State) (f : Field) (i v : Nat) : (s.wr f i v).fns = s.fns := rfl
@[simp] theorem State.wr_ecUsed (s : State) (f : Field) (i v : Nat) : (s.wr f i v).ecUsed = s.ecUsed := rfl
@[simp] theorem State.wr_srcSeen (s : State) (f : Field) (i v : Nat) : (s.wr f i v).srcSeen = s.srcSeen := rfl
@[simp] theorem State.wr_flight (s : State) (f : Field) (i v : Nat) : (s.wr f i v).flight = s.flight := rfl
@[simp] theorem State.wr_slotsUsed (s : State) (f : Field) (i v : Nat) : (s.wr f i v).slotsUsed = s.slotsUsed := rfl
@[simp] theorem State.wr_lanesOn (s : State) (f : Field) (i v : Nat) : (s.wr f i v).lanesOn = s.lanesOn := rfl
@[simp] theorem State.wr_laneIn (s : State) (f : Field) (i v : Nat) : (s.wr f i v).laneIn = s.laneIn := rfl
@[simp] theorem State.wr_legs (s : State) (f : Field) (i v : Nat) : (s.wr f i v).legs = s.legs := rfl
@[simp] theorem State.wr_posts (s : State) (f : Field) (i v : Nat) : (s.wr f i v).posts = s.posts := rfl
@[simp] theorem State.wr_laneReqs (s : State) (f : Field) (i v : Nat) : (s.wr f i v).laneReqs = s.laneReqs := rfl
@[simp] theorem State.wr_step12 (s : State) (f : Field) (i v : Nat) : (s.wr f i v).step12 = s.step12 := rfl
@[simp] theorem State.wr_trigs (s : State) (f : Field) (i v : Nat) : (s.wr f i v).trigs = s.trigs := rfl
@[simp] theorem State.wr_engs (s : State) (f : Field) (i v : Nat) : (s.wr f i v).engs = s.engs := rfl
@[simp] theorem State.wr_ltiles (s : State) (f : Field) (i v : Nat) : (s.wr f i v).ltiles = s.ltiles := rfl
@[simp] theorem State.wr_xslots (s : State) (f : Field) (i v : Nat) : (s.wr f i v).xslots = s.xslots := rfl
@[simp] theorem State.wr_plwAsked (s : State) (f : Field) (i v : Nat) : (s.wr f i v).plwAsked = s.plwAsked := rfl
@[simp] theorem State.wr_badCw (s : State) (f : Field) (i v : Nat) : (s.wr f i v).badCw = s.badCw := rfl
@[simp] theorem State.wr_timers (s : State) (f : Field) (i v : Nat) : (s.wr f i v).timers = s.timers := rfl
@[simp] theorem State.wr_pinEdges (s : State) (f : Field) (i v : Nat) : (s.wr f i v).pinEdges = s.pinEdges := rfl
@[simp] theorem State.wr_shadows (s : State) (f : Field) (i v : Nat) : (s.wr f i v).shadows = s.shadows := rfl
@[simp] theorem State.wr_dtSeen (s : State) (f : Field) (i v : Nat) : (s.wr f i v).dtSeen = s.dtSeen := rfl
@[simp] theorem State.wr_cores (s : State) (f : Field) (i v : Nat) : (s.wr f i v).cores = s.cores := rfl
@[simp] theorem State.wr_tcm (s : State) (f : Field) (i v : Nat) : (s.wr f i v).tcm = s.tcm := rfl
@[simp] theorem State.wr_sram (s : State) (f : Field) (i v : Nat) : (s.wr f i v).sram = s.sram := rfl
@[simp] theorem State.wr_bankKey (s : State) (f : Field) (i v : Nat) : (s.wr f i v).bankKey = s.bankKey := rfl
@[simp] theorem State.wr_bankFree (s : State) (f : Field) (i v : Nat) : (s.wr f i v).bankFree = s.bankFree := rfl
@[simp] theorem State.wr_bankWait (s : State) (f : Field) (i v : Nat) : (s.wr f i v).bankWait = s.bankWait := rfl
@[simp] theorem State.wr_wtab (s : State) (f : Field) (i v : Nat) : (s.wr f i v).wtab = s.wtab := rfl
@[simp] theorem State.wr_wgen (s : State) (f : Field) (i v : Nat) : (s.wr f i v).wgen = s.wgen := rfl
@[simp] theorem State.wr_wkey (s : State) (f : Field) (i v : Nat) : (s.wr f i v).wkey = s.wkey := rfl
@[simp] theorem State.wr_wrtFree (s : State) (f : Field) (i v : Nat) : (s.wr f i v).wrtFree = s.wrtFree := rfl
@[simp] theorem State.wr_bindLo (s : State) (f : Field) (i v : Nat) : (s.wr f i v).bindLo = s.bindLo := rfl
@[simp] theorem State.wr_nvm (s : State) (f : Field) (i v : Nat) : (s.wr f i v).nvm = s.nvm := rfl
@[simp] theorem State.wr_gated (s : State) (f : Field) (i v : Nat) : (s.wr f i v).gated = s.gated := rfl
@[simp] theorem State.wr_nv (s : State) (f : Field) (i v : Nat) : (s.wr f i v).nv = s.nv := rfl
@[simp] theorem State.wr_nvOp (s : State) (f : Field) (i v : Nat) : (s.wr f i v).nvOp = s.nvOp := rfl
@[simp] theorem State.wr_prkOp (s : State) (f : Field) (i v : Nat) : (s.wr f i v).prkOp = s.prkOp := rfl
@[simp] theorem State.wr_plwRun (s : State) (f : Field) (i v : Nat) : (s.wr f i v).plwRun = s.plwRun := rfl
@[simp] theorem State.wr_place (s : State) (f : Field) (i v : Nat) : (s.wr f i v).place = s.place := rfl
@[simp] theorem State.wr_patch (s : State) (f : Field) (i v : Nat) : (s.wr f i v).patch = s.patch := rfl
@[simp] theorem State.wr_patchLeft (s : State) (f : Field) (i v : Nat) : (s.wr f i v).patchLeft = s.patchLeft := rfl
@[simp] theorem State.wr_bootEnded (s : State) (f : Field) (i v : Nat) : (s.wr f i v).bootEnded = s.bootEnded := rfl
@[simp] theorem State.wr_loop (s : State) (f : Field) (i v : Nat) : (s.wr f i v).loop = s.loop := rfl
@[simp] theorem State.wr_linksUp (s : State) (f : Field) (i v : Nat) : (s.wr f i v).linksUp = s.linksUp := rfl
@[simp] theorem State.wr_hostSeats (s : State) (f : Field) (i v : Nat) : (s.wr f i v).hostSeats = s.hostSeats := rfl
@[simp] theorem State.wr_dmas (s : State) (f : Field) (i v : Nat) : (s.wr f i v).dmas = s.dmas := rfl
@[simp] theorem State.wr_mutes (s : State) (f : Field) (i v : Nat) : (s.wr f i v).mutes = s.mutes := rfl
@[simp] theorem State.wr_ecWin (s : State) (f : Field) (i v : Nat) : (s.wr f i v).ecWin = s.ecWin := rfl
@[simp] theorem State.wr_pfilt (s : State) (f : Field) (i v : Nat) : (s.wr f i v).pfilt = s.pfilt := rfl
@[simp] theorem State.wr_bplan (s : State) (f : Field) (i v : Nat) : (s.wr f i v).bplan = s.bplan := rfl
@[simp] theorem State.wr_bports (s : State) (f : Field) (i v : Nat) : (s.wr f i v).bports = s.bports := rfl
@[simp] theorem State.wr_aligned (s : State) (f : Field) (i v : Nat) : (s.wr f i v).aligned = s.aligned := rfl
@[simp] theorem State.wr_ringItems (s : State) (f : Field) (i v : Nat) : (s.wr f i v).ringItems = s.ringItems := rfl
@[simp] theorem State.wr_ringLast (s : State) (f : Field) (i v : Nat) : (s.wr f i v).ringLast = s.ringLast := rfl
@[simp] theorem State.wr_gItems (s : State) (f : Field) (i v : Nat) : (s.wr f i v).gItems = s.gItems := rfl
@[simp] theorem State.wr_outq (s : State) (f : Field) (i v : Nat) : (s.wr f i v).outq = s.outq := rfl
@[simp] theorem State.wr_ltr (s : State) (f : Field) (i v : Nat) : (s.wr f i v).ltr = s.ltr := rfl
@[simp] theorem State.wr_perst (s : State) (f : Field) (i v : Nat) : (s.wr f i v).perst = s.perst := rfl
@[simp] theorem State.wr_linkMax (s : State) (f : Field) (i v : Nat) : (s.wr f i v).linkMax = s.linkMax := rfl
@[simp] theorem State.wr_kpllOut (s : State) (f : Field) (i v : Nat) : (s.wr f i v).kpllOut = s.kpllOut := rfl
@[simp] theorem State.wr_punits (s : State) (f : Field) (i v : Nat) : (s.wr f i v).punits = s.punits := rfl
@[simp] theorem State.wr_yard (s : State) (f : Field) (i v : Nat) : (s.wr f i v).yard = s.yard := rfl
@[simp] theorem State.wr_quietLo (s : State) (f : Field) (i v : Nat) : (s.wr f i v).quietLo = s.quietLo := rfl
@[simp] theorem State.wr_heldLeg (s : State) (f : Field) (i v : Nat) : (s.wr f i v).heldLeg = s.heldLeg := rfl
@[simp] theorem State.wr_heldAcc (s : State) (f : Field) (i v : Nat) : (s.wr f i v).heldAcc = s.heldAcc := rfl
@[simp] theorem State.wr_supply (s : State) (f : Field) (i v : Nat) : (s.wr f i v).supply = s.supply := rfl
@[simp] theorem State.wr_frst (s : State) (f : Field) (i v : Nat) : (s.wr f i v).frst = s.frst := rfl
@[simp] theorem State.wr_frstAt (s : State) (f : Field) (i v : Nat) : (s.wr f i v).frstAt = s.frstAt := rfl
@[simp] theorem State.wr_cpll (s : State) (f : Field) (i v : Nat) : (s.wr f i v).cpll = s.cpll := rfl
@[simp] theorem State.wr_kpll (s : State) (f : Field) (i v : Nat) : (s.wr f i v).kpll = s.kpll := rfl
@[simp] theorem State.wr_kpllAon (s : State) (f : Field) (i v : Nat) : (s.wr f i v).kpllAon = s.kpllAon := rfl
@[simp] theorem State.wr_clkret (s : State) (f : Field) (i v : Nat) : (s.wr f i v).clkret = s.clkret := rfl
@[simp] theorem State.wr_tracer (s : State) (f : Field) (i v : Nat) : (s.wr f i v).tracer = s.tracer := rfl
@[simp] theorem State.wr_pinCh (s : State) (f : Field) (i v : Nat) : (s.wr f i v).pinCh = s.pinCh := rfl
@[simp] theorem State.wr_pinAt (s : State) (f : Field) (i v : Nat) : (s.wr f i v).pinAt = s.pinAt := rfl
@[simp] theorem State.wr_strapLock (s : State) (f : Field) (i v : Nat) : (s.wr f i v).strapLock = s.strapLock := rfl
@[simp] theorem State.wr_tap (s : State) (f : Field) (i v : Nat) : (s.wr f i v).tap = s.tap := rfl
@[simp] theorem State.wr_dbgRun (s : State) (f : Field) (i v : Nat) : (s.wr f i v).dbgRun = s.dbgRun := rfl

/-! ## State.emit -/

@[simp] theorem State.emit_pending (s : State) (o : Out) : (s.emit o).pending = s.pending := rfl
@[simp] theorem State.emit_et (s : State) (o : Out) : (s.emit o).et = s.et := rfl
@[simp] theorem State.emit_dt0 (s : State) (o : Out) : (s.emit o).dt0 = s.dt0 := rfl
@[simp] theorem State.emit_pace (s : State) (o : Out) : (s.emit o).pace = s.pace := rfl
@[simp] theorem State.emit_fv (s : State) (o : Out) : (s.emit o).fv = s.fv := rfl
@[simp] theorem State.emit_regs (s : State) (o : Out) : (s.emit o).regs = s.regs := rfl
@[simp] theorem State.emit_raised (s : State) (o : Out) : (s.emit o).raised = s.raised := rfl
@[simp] theorem State.emit_logs (s : State) (o : Out) : (s.emit o).logs = s.logs := rfl
@[simp] theorem State.emit_wlNow (s : State) (o : Out) : (s.emit o).wlNow = s.wlNow := rfl
@[simp] theorem State.emit_prkCyc (s : State) (o : Out) : (s.emit o).prkCyc = s.prkCyc := rfl
@[simp] theorem State.emit_munits (s : State) (o : Out) : (s.emit o).munits = s.munits := rfl
@[simp] theorem State.emit_mroles (s : State) (o : Out) : (s.emit o).mroles = s.mroles := rfl
@[simp] theorem State.emit_minputs (s : State) (o : Out) : (s.emit o).minputs = s.minputs := rfl
@[simp] theorem State.emit_mtiles (s : State) (o : Out) : (s.emit o).mtiles = s.mtiles := rfl
@[simp] theorem State.emit_mcs (s : State) (o : Out) : (s.emit o).mcs = s.mcs := rfl
@[simp] theorem State.emit_xcFails (s : State) (o : Out) : (s.emit o).xcFails = s.xcFails := rfl
@[simp] theorem State.emit_xcLate (s : State) (o : Out) : (s.emit o).xcLate = s.xcLate := rfl
@[simp] theorem State.emit_streams (s : State) (o : Out) : (s.emit o).streams = s.streams := rfl
@[simp] theorem State.emit_capUsed (s : State) (o : Out) : (s.emit o).capUsed = s.capUsed := rfl
@[simp] theorem State.emit_cap (s : State) (o : Out) : (s.emit o).cap = s.cap := rfl
@[simp] theorem State.emit_committed (s : State) (o : Out) : (s.emit o).committed = s.committed := rfl
@[simp] theorem State.emit_fns (s : State) (o : Out) : (s.emit o).fns = s.fns := rfl
@[simp] theorem State.emit_ecUsed (s : State) (o : Out) : (s.emit o).ecUsed = s.ecUsed := rfl
@[simp] theorem State.emit_srcSeen (s : State) (o : Out) : (s.emit o).srcSeen = s.srcSeen := rfl
@[simp] theorem State.emit_flight (s : State) (o : Out) : (s.emit o).flight = s.flight := rfl
@[simp] theorem State.emit_slotsUsed (s : State) (o : Out) : (s.emit o).slotsUsed = s.slotsUsed := rfl
@[simp] theorem State.emit_lanesOn (s : State) (o : Out) : (s.emit o).lanesOn = s.lanesOn := rfl
@[simp] theorem State.emit_laneIn (s : State) (o : Out) : (s.emit o).laneIn = s.laneIn := rfl
@[simp] theorem State.emit_legs (s : State) (o : Out) : (s.emit o).legs = s.legs := rfl
@[simp] theorem State.emit_posts (s : State) (o : Out) : (s.emit o).posts = s.posts := rfl
@[simp] theorem State.emit_laneReqs (s : State) (o : Out) : (s.emit o).laneReqs = s.laneReqs := rfl
@[simp] theorem State.emit_step12 (s : State) (o : Out) : (s.emit o).step12 = s.step12 := rfl
@[simp] theorem State.emit_trigs (s : State) (o : Out) : (s.emit o).trigs = s.trigs := rfl
@[simp] theorem State.emit_engs (s : State) (o : Out) : (s.emit o).engs = s.engs := rfl
@[simp] theorem State.emit_ltiles (s : State) (o : Out) : (s.emit o).ltiles = s.ltiles := rfl
@[simp] theorem State.emit_xslots (s : State) (o : Out) : (s.emit o).xslots = s.xslots := rfl
@[simp] theorem State.emit_plwAsked (s : State) (o : Out) : (s.emit o).plwAsked = s.plwAsked := rfl
@[simp] theorem State.emit_badCw (s : State) (o : Out) : (s.emit o).badCw = s.badCw := rfl
@[simp] theorem State.emit_timers (s : State) (o : Out) : (s.emit o).timers = s.timers := rfl
@[simp] theorem State.emit_pinEdges (s : State) (o : Out) : (s.emit o).pinEdges = s.pinEdges := rfl
@[simp] theorem State.emit_shadows (s : State) (o : Out) : (s.emit o).shadows = s.shadows := rfl
@[simp] theorem State.emit_dtSeen (s : State) (o : Out) : (s.emit o).dtSeen = s.dtSeen := rfl
@[simp] theorem State.emit_cores (s : State) (o : Out) : (s.emit o).cores = s.cores := rfl
@[simp] theorem State.emit_tcm (s : State) (o : Out) : (s.emit o).tcm = s.tcm := rfl
@[simp] theorem State.emit_sram (s : State) (o : Out) : (s.emit o).sram = s.sram := rfl
@[simp] theorem State.emit_bankKey (s : State) (o : Out) : (s.emit o).bankKey = s.bankKey := rfl
@[simp] theorem State.emit_bankFree (s : State) (o : Out) : (s.emit o).bankFree = s.bankFree := rfl
@[simp] theorem State.emit_bankWait (s : State) (o : Out) : (s.emit o).bankWait = s.bankWait := rfl
@[simp] theorem State.emit_wtab (s : State) (o : Out) : (s.emit o).wtab = s.wtab := rfl
@[simp] theorem State.emit_wgen (s : State) (o : Out) : (s.emit o).wgen = s.wgen := rfl
@[simp] theorem State.emit_wkey (s : State) (o : Out) : (s.emit o).wkey = s.wkey := rfl
@[simp] theorem State.emit_wrtFree (s : State) (o : Out) : (s.emit o).wrtFree = s.wrtFree := rfl
@[simp] theorem State.emit_bindLo (s : State) (o : Out) : (s.emit o).bindLo = s.bindLo := rfl
@[simp] theorem State.emit_nvm (s : State) (o : Out) : (s.emit o).nvm = s.nvm := rfl
@[simp] theorem State.emit_gated (s : State) (o : Out) : (s.emit o).gated = s.gated := rfl
@[simp] theorem State.emit_nv (s : State) (o : Out) : (s.emit o).nv = s.nv := rfl
@[simp] theorem State.emit_nvOp (s : State) (o : Out) : (s.emit o).nvOp = s.nvOp := rfl
@[simp] theorem State.emit_prkOp (s : State) (o : Out) : (s.emit o).prkOp = s.prkOp := rfl
@[simp] theorem State.emit_plwRun (s : State) (o : Out) : (s.emit o).plwRun = s.plwRun := rfl
@[simp] theorem State.emit_place (s : State) (o : Out) : (s.emit o).place = s.place := rfl
@[simp] theorem State.emit_patch (s : State) (o : Out) : (s.emit o).patch = s.patch := rfl
@[simp] theorem State.emit_patchLeft (s : State) (o : Out) : (s.emit o).patchLeft = s.patchLeft := rfl
@[simp] theorem State.emit_bootEnded (s : State) (o : Out) : (s.emit o).bootEnded = s.bootEnded := rfl
@[simp] theorem State.emit_loop (s : State) (o : Out) : (s.emit o).loop = s.loop := rfl
@[simp] theorem State.emit_linksUp (s : State) (o : Out) : (s.emit o).linksUp = s.linksUp := rfl
@[simp] theorem State.emit_hostSeats (s : State) (o : Out) : (s.emit o).hostSeats = s.hostSeats := rfl
@[simp] theorem State.emit_dmas (s : State) (o : Out) : (s.emit o).dmas = s.dmas := rfl
@[simp] theorem State.emit_mutes (s : State) (o : Out) : (s.emit o).mutes = s.mutes := rfl
@[simp] theorem State.emit_ecWin (s : State) (o : Out) : (s.emit o).ecWin = s.ecWin := rfl
@[simp] theorem State.emit_pfilt (s : State) (o : Out) : (s.emit o).pfilt = s.pfilt := rfl
@[simp] theorem State.emit_bplan (s : State) (o : Out) : (s.emit o).bplan = s.bplan := rfl
@[simp] theorem State.emit_bports (s : State) (o : Out) : (s.emit o).bports = s.bports := rfl
@[simp] theorem State.emit_aligned (s : State) (o : Out) : (s.emit o).aligned = s.aligned := rfl
@[simp] theorem State.emit_ringItems (s : State) (o : Out) : (s.emit o).ringItems = s.ringItems := rfl
@[simp] theorem State.emit_ringLast (s : State) (o : Out) : (s.emit o).ringLast = s.ringLast := rfl
@[simp] theorem State.emit_gItems (s : State) (o : Out) : (s.emit o).gItems = s.gItems := rfl
@[simp] theorem State.emit_outq (s : State) (o : Out) : (s.emit o).outq = s.outq := rfl
@[simp] theorem State.emit_ltr (s : State) (o : Out) : (s.emit o).ltr = s.ltr := rfl
@[simp] theorem State.emit_perst (s : State) (o : Out) : (s.emit o).perst = s.perst := rfl
@[simp] theorem State.emit_linkMax (s : State) (o : Out) : (s.emit o).linkMax = s.linkMax := rfl
@[simp] theorem State.emit_kpllOut (s : State) (o : Out) : (s.emit o).kpllOut = s.kpllOut := rfl
@[simp] theorem State.emit_punits (s : State) (o : Out) : (s.emit o).punits = s.punits := rfl
@[simp] theorem State.emit_yard (s : State) (o : Out) : (s.emit o).yard = s.yard := rfl
@[simp] theorem State.emit_quietLo (s : State) (o : Out) : (s.emit o).quietLo = s.quietLo := rfl
@[simp] theorem State.emit_heldLeg (s : State) (o : Out) : (s.emit o).heldLeg = s.heldLeg := rfl
@[simp] theorem State.emit_heldAcc (s : State) (o : Out) : (s.emit o).heldAcc = s.heldAcc := rfl
@[simp] theorem State.emit_supply (s : State) (o : Out) : (s.emit o).supply = s.supply := rfl
@[simp] theorem State.emit_frst (s : State) (o : Out) : (s.emit o).frst = s.frst := rfl
@[simp] theorem State.emit_frstAt (s : State) (o : Out) : (s.emit o).frstAt = s.frstAt := rfl
@[simp] theorem State.emit_cpll (s : State) (o : Out) : (s.emit o).cpll = s.cpll := rfl
@[simp] theorem State.emit_kpll (s : State) (o : Out) : (s.emit o).kpll = s.kpll := rfl
@[simp] theorem State.emit_kpllAon (s : State) (o : Out) : (s.emit o).kpllAon = s.kpllAon := rfl
@[simp] theorem State.emit_clkret (s : State) (o : Out) : (s.emit o).clkret = s.clkret := rfl
@[simp] theorem State.emit_tracer (s : State) (o : Out) : (s.emit o).tracer = s.tracer := rfl
@[simp] theorem State.emit_pinCh (s : State) (o : Out) : (s.emit o).pinCh = s.pinCh := rfl
@[simp] theorem State.emit_pinAt (s : State) (o : Out) : (s.emit o).pinAt = s.pinAt := rfl
@[simp] theorem State.emit_strapLock (s : State) (o : Out) : (s.emit o).strapLock = s.strapLock := rfl
@[simp] theorem State.emit_tap (s : State) (o : Out) : (s.emit o).tap = s.tap := rfl
@[simp] theorem State.emit_dbgRun (s : State) (o : Out) : (s.emit o).dbgRun = s.dbgRun := rfl

/-! ## State.drawn -/

@[simp] theorem State.drawn_pending (s : State) : (s.drawn).pending = s.pending := rfl
@[simp] theorem State.drawn_et (s : State) : (s.drawn).et = s.et := rfl
@[simp] theorem State.drawn_dt0 (s : State) : (s.drawn).dt0 = s.dt0 := rfl
@[simp] theorem State.drawn_pace (s : State) : (s.drawn).pace = s.pace := rfl
@[simp] theorem State.drawn_regs (s : State) : (s.drawn).regs = s.regs := rfl
@[simp] theorem State.drawn_raised (s : State) : (s.drawn).raised = s.raised := rfl
@[simp] theorem State.drawn_logs (s : State) : (s.drawn).logs = s.logs := rfl
@[simp] theorem State.drawn_wlNow (s : State) : (s.drawn).wlNow = s.wlNow := rfl
@[simp] theorem State.drawn_prkCyc (s : State) : (s.drawn).prkCyc = s.prkCyc := rfl
@[simp] theorem State.drawn_out (s : State) : (s.drawn).out = s.out := rfl
@[simp] theorem State.drawn_munits (s : State) : (s.drawn).munits = s.munits := rfl
@[simp] theorem State.drawn_mroles (s : State) : (s.drawn).mroles = s.mroles := rfl
@[simp] theorem State.drawn_minputs (s : State) : (s.drawn).minputs = s.minputs := rfl
@[simp] theorem State.drawn_mtiles (s : State) : (s.drawn).mtiles = s.mtiles := rfl
@[simp] theorem State.drawn_mcs (s : State) : (s.drawn).mcs = s.mcs := rfl
@[simp] theorem State.drawn_xcFails (s : State) : (s.drawn).xcFails = s.xcFails := rfl
@[simp] theorem State.drawn_xcLate (s : State) : (s.drawn).xcLate = s.xcLate := rfl
@[simp] theorem State.drawn_streams (s : State) : (s.drawn).streams = s.streams := rfl
@[simp] theorem State.drawn_capUsed (s : State) : (s.drawn).capUsed = s.capUsed := rfl
@[simp] theorem State.drawn_cap (s : State) : (s.drawn).cap = s.cap := rfl
@[simp] theorem State.drawn_committed (s : State) : (s.drawn).committed = s.committed := rfl
@[simp] theorem State.drawn_fns (s : State) : (s.drawn).fns = s.fns := rfl
@[simp] theorem State.drawn_ecUsed (s : State) : (s.drawn).ecUsed = s.ecUsed := rfl
@[simp] theorem State.drawn_srcSeen (s : State) : (s.drawn).srcSeen = s.srcSeen := rfl
@[simp] theorem State.drawn_flight (s : State) : (s.drawn).flight = s.flight := rfl
@[simp] theorem State.drawn_slotsUsed (s : State) : (s.drawn).slotsUsed = s.slotsUsed := rfl
@[simp] theorem State.drawn_lanesOn (s : State) : (s.drawn).lanesOn = s.lanesOn := rfl
@[simp] theorem State.drawn_laneIn (s : State) : (s.drawn).laneIn = s.laneIn := rfl
@[simp] theorem State.drawn_legs (s : State) : (s.drawn).legs = s.legs := rfl
@[simp] theorem State.drawn_posts (s : State) : (s.drawn).posts = s.posts := rfl
@[simp] theorem State.drawn_laneReqs (s : State) : (s.drawn).laneReqs = s.laneReqs := rfl
@[simp] theorem State.drawn_step12 (s : State) : (s.drawn).step12 = s.step12 := rfl
@[simp] theorem State.drawn_trigs (s : State) : (s.drawn).trigs = s.trigs := rfl
@[simp] theorem State.drawn_engs (s : State) : (s.drawn).engs = s.engs := rfl
@[simp] theorem State.drawn_ltiles (s : State) : (s.drawn).ltiles = s.ltiles := rfl
@[simp] theorem State.drawn_xslots (s : State) : (s.drawn).xslots = s.xslots := rfl
@[simp] theorem State.drawn_plwAsked (s : State) : (s.drawn).plwAsked = s.plwAsked := rfl
@[simp] theorem State.drawn_badCw (s : State) : (s.drawn).badCw = s.badCw := rfl
@[simp] theorem State.drawn_timers (s : State) : (s.drawn).timers = s.timers := rfl
@[simp] theorem State.drawn_pinEdges (s : State) : (s.drawn).pinEdges = s.pinEdges := rfl
@[simp] theorem State.drawn_shadows (s : State) : (s.drawn).shadows = s.shadows := rfl
@[simp] theorem State.drawn_dtSeen (s : State) : (s.drawn).dtSeen = s.dtSeen := rfl
@[simp] theorem State.drawn_cores (s : State) : (s.drawn).cores = s.cores := rfl
@[simp] theorem State.drawn_tcm (s : State) : (s.drawn).tcm = s.tcm := rfl
@[simp] theorem State.drawn_sram (s : State) : (s.drawn).sram = s.sram := rfl
@[simp] theorem State.drawn_bankKey (s : State) : (s.drawn).bankKey = s.bankKey := rfl
@[simp] theorem State.drawn_bankFree (s : State) : (s.drawn).bankFree = s.bankFree := rfl
@[simp] theorem State.drawn_bankWait (s : State) : (s.drawn).bankWait = s.bankWait := rfl
@[simp] theorem State.drawn_wtab (s : State) : (s.drawn).wtab = s.wtab := rfl
@[simp] theorem State.drawn_wgen (s : State) : (s.drawn).wgen = s.wgen := rfl
@[simp] theorem State.drawn_wkey (s : State) : (s.drawn).wkey = s.wkey := rfl
@[simp] theorem State.drawn_wrtFree (s : State) : (s.drawn).wrtFree = s.wrtFree := rfl
@[simp] theorem State.drawn_bindLo (s : State) : (s.drawn).bindLo = s.bindLo := rfl
@[simp] theorem State.drawn_nvm (s : State) : (s.drawn).nvm = s.nvm := rfl
@[simp] theorem State.drawn_gated (s : State) : (s.drawn).gated = s.gated := rfl
@[simp] theorem State.drawn_nv (s : State) : (s.drawn).nv = s.nv := rfl
@[simp] theorem State.drawn_nvOp (s : State) : (s.drawn).nvOp = s.nvOp := rfl
@[simp] theorem State.drawn_prkOp (s : State) : (s.drawn).prkOp = s.prkOp := rfl
@[simp] theorem State.drawn_plwRun (s : State) : (s.drawn).plwRun = s.plwRun := rfl
@[simp] theorem State.drawn_place (s : State) : (s.drawn).place = s.place := rfl
@[simp] theorem State.drawn_patch (s : State) : (s.drawn).patch = s.patch := rfl
@[simp] theorem State.drawn_patchLeft (s : State) : (s.drawn).patchLeft = s.patchLeft := rfl
@[simp] theorem State.drawn_bootEnded (s : State) : (s.drawn).bootEnded = s.bootEnded := rfl
@[simp] theorem State.drawn_loop (s : State) : (s.drawn).loop = s.loop := rfl
@[simp] theorem State.drawn_linksUp (s : State) : (s.drawn).linksUp = s.linksUp := rfl
@[simp] theorem State.drawn_hostSeats (s : State) : (s.drawn).hostSeats = s.hostSeats := rfl
@[simp] theorem State.drawn_dmas (s : State) : (s.drawn).dmas = s.dmas := rfl
@[simp] theorem State.drawn_mutes (s : State) : (s.drawn).mutes = s.mutes := rfl
@[simp] theorem State.drawn_ecWin (s : State) : (s.drawn).ecWin = s.ecWin := rfl
@[simp] theorem State.drawn_pfilt (s : State) : (s.drawn).pfilt = s.pfilt := rfl
@[simp] theorem State.drawn_bplan (s : State) : (s.drawn).bplan = s.bplan := rfl
@[simp] theorem State.drawn_bports (s : State) : (s.drawn).bports = s.bports := rfl
@[simp] theorem State.drawn_aligned (s : State) : (s.drawn).aligned = s.aligned := rfl
@[simp] theorem State.drawn_ringItems (s : State) : (s.drawn).ringItems = s.ringItems := rfl
@[simp] theorem State.drawn_ringLast (s : State) : (s.drawn).ringLast = s.ringLast := rfl
@[simp] theorem State.drawn_gItems (s : State) : (s.drawn).gItems = s.gItems := rfl
@[simp] theorem State.drawn_outq (s : State) : (s.drawn).outq = s.outq := rfl
@[simp] theorem State.drawn_ltr (s : State) : (s.drawn).ltr = s.ltr := rfl
@[simp] theorem State.drawn_perst (s : State) : (s.drawn).perst = s.perst := rfl
@[simp] theorem State.drawn_linkMax (s : State) : (s.drawn).linkMax = s.linkMax := rfl
@[simp] theorem State.drawn_kpllOut (s : State) : (s.drawn).kpllOut = s.kpllOut := rfl
@[simp] theorem State.drawn_punits (s : State) : (s.drawn).punits = s.punits := rfl
@[simp] theorem State.drawn_yard (s : State) : (s.drawn).yard = s.yard := rfl
@[simp] theorem State.drawn_quietLo (s : State) : (s.drawn).quietLo = s.quietLo := rfl
@[simp] theorem State.drawn_heldLeg (s : State) : (s.drawn).heldLeg = s.heldLeg := rfl
@[simp] theorem State.drawn_heldAcc (s : State) : (s.drawn).heldAcc = s.heldAcc := rfl
@[simp] theorem State.drawn_supply (s : State) : (s.drawn).supply = s.supply := rfl
@[simp] theorem State.drawn_frst (s : State) : (s.drawn).frst = s.frst := rfl
@[simp] theorem State.drawn_frstAt (s : State) : (s.drawn).frstAt = s.frstAt := rfl
@[simp] theorem State.drawn_cpll (s : State) : (s.drawn).cpll = s.cpll := rfl
@[simp] theorem State.drawn_kpll (s : State) : (s.drawn).kpll = s.kpll := rfl
@[simp] theorem State.drawn_kpllAon (s : State) : (s.drawn).kpllAon = s.kpllAon := rfl
@[simp] theorem State.drawn_clkret (s : State) : (s.drawn).clkret = s.clkret := rfl
@[simp] theorem State.drawn_tracer (s : State) : (s.drawn).tracer = s.tracer := rfl
@[simp] theorem State.drawn_pinCh (s : State) : (s.drawn).pinCh = s.pinCh := rfl
@[simp] theorem State.drawn_pinAt (s : State) : (s.drawn).pinAt = s.pinAt := rfl
@[simp] theorem State.drawn_strapLock (s : State) : (s.drawn).strapLock = s.strapLock := rfl
@[simp] theorem State.drawn_tap (s : State) : (s.drawn).tap = s.tap := rfl
@[simp] theorem State.drawn_dbgRun (s : State) : (s.drawn).dbgRun = s.dbgRun := rfl

/-! ## State.reach -/

@[simp] theorem State.reach_pending (s : State) (t : Nat) : (s.reach t).pending = s.pending := rfl
@[simp] theorem State.reach_dt0 (s : State) (t : Nat) : (s.reach t).dt0 = s.dt0 := rfl
@[simp] theorem State.reach_pace (s : State) (t : Nat) : (s.reach t).pace = s.pace := rfl
@[simp] theorem State.reach_fv (s : State) (t : Nat) : (s.reach t).fv = s.fv := rfl
@[simp] theorem State.reach_regs (s : State) (t : Nat) : (s.reach t).regs = s.regs := rfl
@[simp] theorem State.reach_raised (s : State) (t : Nat) : (s.reach t).raised = s.raised := rfl
@[simp] theorem State.reach_logs (s : State) (t : Nat) : (s.reach t).logs = s.logs := rfl
@[simp] theorem State.reach_wlNow (s : State) (t : Nat) : (s.reach t).wlNow = s.wlNow := rfl
@[simp] theorem State.reach_prkCyc (s : State) (t : Nat) : (s.reach t).prkCyc = s.prkCyc := rfl
@[simp] theorem State.reach_out (s : State) (t : Nat) : (s.reach t).out = s.out := rfl
@[simp] theorem State.reach_munits (s : State) (t : Nat) : (s.reach t).munits = s.munits := rfl
@[simp] theorem State.reach_mroles (s : State) (t : Nat) : (s.reach t).mroles = s.mroles := rfl
@[simp] theorem State.reach_minputs (s : State) (t : Nat) : (s.reach t).minputs = s.minputs := rfl
@[simp] theorem State.reach_mtiles (s : State) (t : Nat) : (s.reach t).mtiles = s.mtiles := rfl
@[simp] theorem State.reach_mcs (s : State) (t : Nat) : (s.reach t).mcs = s.mcs := rfl
@[simp] theorem State.reach_xcFails (s : State) (t : Nat) : (s.reach t).xcFails = s.xcFails := rfl
@[simp] theorem State.reach_xcLate (s : State) (t : Nat) : (s.reach t).xcLate = s.xcLate := rfl
@[simp] theorem State.reach_streams (s : State) (t : Nat) : (s.reach t).streams = s.streams := rfl
@[simp] theorem State.reach_capUsed (s : State) (t : Nat) : (s.reach t).capUsed = s.capUsed := rfl
@[simp] theorem State.reach_cap (s : State) (t : Nat) : (s.reach t).cap = s.cap := rfl
@[simp] theorem State.reach_committed (s : State) (t : Nat) : (s.reach t).committed = s.committed := rfl
@[simp] theorem State.reach_fns (s : State) (t : Nat) : (s.reach t).fns = s.fns := rfl
@[simp] theorem State.reach_ecUsed (s : State) (t : Nat) : (s.reach t).ecUsed = s.ecUsed := rfl
@[simp] theorem State.reach_srcSeen (s : State) (t : Nat) : (s.reach t).srcSeen = s.srcSeen := rfl
@[simp] theorem State.reach_flight (s : State) (t : Nat) : (s.reach t).flight = s.flight := rfl
@[simp] theorem State.reach_slotsUsed (s : State) (t : Nat) : (s.reach t).slotsUsed = s.slotsUsed := rfl
@[simp] theorem State.reach_lanesOn (s : State) (t : Nat) : (s.reach t).lanesOn = s.lanesOn := rfl
@[simp] theorem State.reach_laneIn (s : State) (t : Nat) : (s.reach t).laneIn = s.laneIn := rfl
@[simp] theorem State.reach_legs (s : State) (t : Nat) : (s.reach t).legs = s.legs := rfl
@[simp] theorem State.reach_posts (s : State) (t : Nat) : (s.reach t).posts = s.posts := rfl
@[simp] theorem State.reach_laneReqs (s : State) (t : Nat) : (s.reach t).laneReqs = s.laneReqs := rfl
@[simp] theorem State.reach_step12 (s : State) (t : Nat) : (s.reach t).step12 = s.step12 := rfl
@[simp] theorem State.reach_trigs (s : State) (t : Nat) : (s.reach t).trigs = s.trigs := rfl
@[simp] theorem State.reach_engs (s : State) (t : Nat) : (s.reach t).engs = s.engs := rfl
@[simp] theorem State.reach_ltiles (s : State) (t : Nat) : (s.reach t).ltiles = s.ltiles := rfl
@[simp] theorem State.reach_xslots (s : State) (t : Nat) : (s.reach t).xslots = s.xslots := rfl
@[simp] theorem State.reach_plwAsked (s : State) (t : Nat) : (s.reach t).plwAsked = s.plwAsked := rfl
@[simp] theorem State.reach_badCw (s : State) (t : Nat) : (s.reach t).badCw = s.badCw := rfl
@[simp] theorem State.reach_timers (s : State) (t : Nat) : (s.reach t).timers = s.timers := rfl
@[simp] theorem State.reach_pinEdges (s : State) (t : Nat) : (s.reach t).pinEdges = s.pinEdges := rfl
@[simp] theorem State.reach_shadows (s : State) (t : Nat) : (s.reach t).shadows = s.shadows := rfl
@[simp] theorem State.reach_dtSeen (s : State) (t : Nat) : (s.reach t).dtSeen = s.dtSeen := rfl
@[simp] theorem State.reach_cores (s : State) (t : Nat) : (s.reach t).cores = s.cores := rfl
@[simp] theorem State.reach_tcm (s : State) (t : Nat) : (s.reach t).tcm = s.tcm := rfl
@[simp] theorem State.reach_sram (s : State) (t : Nat) : (s.reach t).sram = s.sram := rfl
@[simp] theorem State.reach_bankKey (s : State) (t : Nat) : (s.reach t).bankKey = s.bankKey := rfl
@[simp] theorem State.reach_bankFree (s : State) (t : Nat) : (s.reach t).bankFree = s.bankFree := rfl
@[simp] theorem State.reach_bankWait (s : State) (t : Nat) : (s.reach t).bankWait = s.bankWait := rfl
@[simp] theorem State.reach_wtab (s : State) (t : Nat) : (s.reach t).wtab = s.wtab := rfl
@[simp] theorem State.reach_wgen (s : State) (t : Nat) : (s.reach t).wgen = s.wgen := rfl
@[simp] theorem State.reach_wkey (s : State) (t : Nat) : (s.reach t).wkey = s.wkey := rfl
@[simp] theorem State.reach_wrtFree (s : State) (t : Nat) : (s.reach t).wrtFree = s.wrtFree := rfl
@[simp] theorem State.reach_bindLo (s : State) (t : Nat) : (s.reach t).bindLo = s.bindLo := rfl
@[simp] theorem State.reach_nvm (s : State) (t : Nat) : (s.reach t).nvm = s.nvm := rfl
@[simp] theorem State.reach_gated (s : State) (t : Nat) : (s.reach t).gated = s.gated := rfl
@[simp] theorem State.reach_nv (s : State) (t : Nat) : (s.reach t).nv = s.nv := rfl
@[simp] theorem State.reach_nvOp (s : State) (t : Nat) : (s.reach t).nvOp = s.nvOp := rfl
@[simp] theorem State.reach_prkOp (s : State) (t : Nat) : (s.reach t).prkOp = s.prkOp := rfl
@[simp] theorem State.reach_plwRun (s : State) (t : Nat) : (s.reach t).plwRun = s.plwRun := rfl
@[simp] theorem State.reach_place (s : State) (t : Nat) : (s.reach t).place = s.place := rfl
@[simp] theorem State.reach_patch (s : State) (t : Nat) : (s.reach t).patch = s.patch := rfl
@[simp] theorem State.reach_patchLeft (s : State) (t : Nat) : (s.reach t).patchLeft = s.patchLeft := rfl
@[simp] theorem State.reach_bootEnded (s : State) (t : Nat) : (s.reach t).bootEnded = s.bootEnded := rfl
@[simp] theorem State.reach_loop (s : State) (t : Nat) : (s.reach t).loop = s.loop := rfl
@[simp] theorem State.reach_linksUp (s : State) (t : Nat) : (s.reach t).linksUp = s.linksUp := rfl
@[simp] theorem State.reach_hostSeats (s : State) (t : Nat) : (s.reach t).hostSeats = s.hostSeats := rfl
@[simp] theorem State.reach_dmas (s : State) (t : Nat) : (s.reach t).dmas = s.dmas := rfl
@[simp] theorem State.reach_mutes (s : State) (t : Nat) : (s.reach t).mutes = s.mutes := rfl
@[simp] theorem State.reach_ecWin (s : State) (t : Nat) : (s.reach t).ecWin = s.ecWin := rfl
@[simp] theorem State.reach_pfilt (s : State) (t : Nat) : (s.reach t).pfilt = s.pfilt := rfl
@[simp] theorem State.reach_bplan (s : State) (t : Nat) : (s.reach t).bplan = s.bplan := rfl
@[simp] theorem State.reach_bports (s : State) (t : Nat) : (s.reach t).bports = s.bports := rfl
@[simp] theorem State.reach_aligned (s : State) (t : Nat) : (s.reach t).aligned = s.aligned := rfl
@[simp] theorem State.reach_ringItems (s : State) (t : Nat) : (s.reach t).ringItems = s.ringItems := rfl
@[simp] theorem State.reach_ringLast (s : State) (t : Nat) : (s.reach t).ringLast = s.ringLast := rfl
@[simp] theorem State.reach_gItems (s : State) (t : Nat) : (s.reach t).gItems = s.gItems := rfl
@[simp] theorem State.reach_outq (s : State) (t : Nat) : (s.reach t).outq = s.outq := rfl
@[simp] theorem State.reach_ltr (s : State) (t : Nat) : (s.reach t).ltr = s.ltr := rfl
@[simp] theorem State.reach_perst (s : State) (t : Nat) : (s.reach t).perst = s.perst := rfl
@[simp] theorem State.reach_linkMax (s : State) (t : Nat) : (s.reach t).linkMax = s.linkMax := rfl
@[simp] theorem State.reach_kpllOut (s : State) (t : Nat) : (s.reach t).kpllOut = s.kpllOut := rfl
@[simp] theorem State.reach_punits (s : State) (t : Nat) : (s.reach t).punits = s.punits := rfl
@[simp] theorem State.reach_yard (s : State) (t : Nat) : (s.reach t).yard = s.yard := rfl
@[simp] theorem State.reach_quietLo (s : State) (t : Nat) : (s.reach t).quietLo = s.quietLo := rfl
@[simp] theorem State.reach_heldLeg (s : State) (t : Nat) : (s.reach t).heldLeg = s.heldLeg := rfl
@[simp] theorem State.reach_heldAcc (s : State) (t : Nat) : (s.reach t).heldAcc = s.heldAcc := rfl
@[simp] theorem State.reach_supply (s : State) (t : Nat) : (s.reach t).supply = s.supply := rfl
@[simp] theorem State.reach_frst (s : State) (t : Nat) : (s.reach t).frst = s.frst := rfl
@[simp] theorem State.reach_frstAt (s : State) (t : Nat) : (s.reach t).frstAt = s.frstAt := rfl
@[simp] theorem State.reach_cpll (s : State) (t : Nat) : (s.reach t).cpll = s.cpll := rfl
@[simp] theorem State.reach_kpll (s : State) (t : Nat) : (s.reach t).kpll = s.kpll := rfl
@[simp] theorem State.reach_kpllAon (s : State) (t : Nat) : (s.reach t).kpllAon = s.kpllAon := rfl
@[simp] theorem State.reach_clkret (s : State) (t : Nat) : (s.reach t).clkret = s.clkret := rfl
@[simp] theorem State.reach_tracer (s : State) (t : Nat) : (s.reach t).tracer = s.tracer := rfl
@[simp] theorem State.reach_pinCh (s : State) (t : Nat) : (s.reach t).pinCh = s.pinCh := rfl
@[simp] theorem State.reach_pinAt (s : State) (t : Nat) : (s.reach t).pinAt = s.pinAt := rfl
@[simp] theorem State.reach_strapLock (s : State) (t : Nat) : (s.reach t).strapLock = s.strapLock := rfl
@[simp] theorem State.reach_tap (s : State) (t : Nat) : (s.reach t).tap = s.tap := rfl
@[simp] theorem State.reach_dbgRun (s : State) (t : Nat) : (s.reach t).dbgRun = s.dbgRun := rfl

/-! ## State.setFn -/

@[simp] theorem State.setFn_pending (s : State) (f : Nat) (x : PcieFn) : (s.setFn f x).pending = s.pending := rfl
@[simp] theorem State.setFn_et (s : State) (f : Nat) (x : PcieFn) : (s.setFn f x).et = s.et := rfl
@[simp] theorem State.setFn_dt0 (s : State) (f : Nat) (x : PcieFn) : (s.setFn f x).dt0 = s.dt0 := rfl
@[simp] theorem State.setFn_pace (s : State) (f : Nat) (x : PcieFn) : (s.setFn f x).pace = s.pace := rfl
@[simp] theorem State.setFn_fv (s : State) (f : Nat) (x : PcieFn) : (s.setFn f x).fv = s.fv := rfl
@[simp] theorem State.setFn_regs (s : State) (f : Nat) (x : PcieFn) : (s.setFn f x).regs = s.regs := rfl
@[simp] theorem State.setFn_raised (s : State) (f : Nat) (x : PcieFn) : (s.setFn f x).raised = s.raised := rfl
@[simp] theorem State.setFn_logs (s : State) (f : Nat) (x : PcieFn) : (s.setFn f x).logs = s.logs := rfl
@[simp] theorem State.setFn_wlNow (s : State) (f : Nat) (x : PcieFn) : (s.setFn f x).wlNow = s.wlNow := rfl
@[simp] theorem State.setFn_prkCyc (s : State) (f : Nat) (x : PcieFn) : (s.setFn f x).prkCyc = s.prkCyc := rfl
@[simp] theorem State.setFn_out (s : State) (f : Nat) (x : PcieFn) : (s.setFn f x).out = s.out := rfl
@[simp] theorem State.setFn_munits (s : State) (f : Nat) (x : PcieFn) : (s.setFn f x).munits = s.munits := rfl
@[simp] theorem State.setFn_mroles (s : State) (f : Nat) (x : PcieFn) : (s.setFn f x).mroles = s.mroles := rfl
@[simp] theorem State.setFn_minputs (s : State) (f : Nat) (x : PcieFn) : (s.setFn f x).minputs = s.minputs := rfl
@[simp] theorem State.setFn_mtiles (s : State) (f : Nat) (x : PcieFn) : (s.setFn f x).mtiles = s.mtiles := rfl
@[simp] theorem State.setFn_mcs (s : State) (f : Nat) (x : PcieFn) : (s.setFn f x).mcs = s.mcs := rfl
@[simp] theorem State.setFn_xcFails (s : State) (f : Nat) (x : PcieFn) : (s.setFn f x).xcFails = s.xcFails := rfl
@[simp] theorem State.setFn_xcLate (s : State) (f : Nat) (x : PcieFn) : (s.setFn f x).xcLate = s.xcLate := rfl
@[simp] theorem State.setFn_streams (s : State) (f : Nat) (x : PcieFn) : (s.setFn f x).streams = s.streams := rfl
@[simp] theorem State.setFn_capUsed (s : State) (f : Nat) (x : PcieFn) : (s.setFn f x).capUsed = s.capUsed := rfl
@[simp] theorem State.setFn_cap (s : State) (f : Nat) (x : PcieFn) : (s.setFn f x).cap = s.cap := rfl
@[simp] theorem State.setFn_committed (s : State) (f : Nat) (x : PcieFn) : (s.setFn f x).committed = s.committed := rfl
@[simp] theorem State.setFn_ecUsed (s : State) (f : Nat) (x : PcieFn) : (s.setFn f x).ecUsed = s.ecUsed := rfl
@[simp] theorem State.setFn_srcSeen (s : State) (f : Nat) (x : PcieFn) : (s.setFn f x).srcSeen = s.srcSeen := rfl
@[simp] theorem State.setFn_flight (s : State) (f : Nat) (x : PcieFn) : (s.setFn f x).flight = s.flight := rfl
@[simp] theorem State.setFn_slotsUsed (s : State) (f : Nat) (x : PcieFn) : (s.setFn f x).slotsUsed = s.slotsUsed := rfl
@[simp] theorem State.setFn_lanesOn (s : State) (f : Nat) (x : PcieFn) : (s.setFn f x).lanesOn = s.lanesOn := rfl
@[simp] theorem State.setFn_laneIn (s : State) (f : Nat) (x : PcieFn) : (s.setFn f x).laneIn = s.laneIn := rfl
@[simp] theorem State.setFn_legs (s : State) (f : Nat) (x : PcieFn) : (s.setFn f x).legs = s.legs := rfl
@[simp] theorem State.setFn_posts (s : State) (f : Nat) (x : PcieFn) : (s.setFn f x).posts = s.posts := rfl
@[simp] theorem State.setFn_laneReqs (s : State) (f : Nat) (x : PcieFn) : (s.setFn f x).laneReqs = s.laneReqs := rfl
@[simp] theorem State.setFn_step12 (s : State) (f : Nat) (x : PcieFn) : (s.setFn f x).step12 = s.step12 := rfl
@[simp] theorem State.setFn_trigs (s : State) (f : Nat) (x : PcieFn) : (s.setFn f x).trigs = s.trigs := rfl
@[simp] theorem State.setFn_engs (s : State) (f : Nat) (x : PcieFn) : (s.setFn f x).engs = s.engs := rfl
@[simp] theorem State.setFn_ltiles (s : State) (f : Nat) (x : PcieFn) : (s.setFn f x).ltiles = s.ltiles := rfl
@[simp] theorem State.setFn_xslots (s : State) (f : Nat) (x : PcieFn) : (s.setFn f x).xslots = s.xslots := rfl
@[simp] theorem State.setFn_plwAsked (s : State) (f : Nat) (x : PcieFn) : (s.setFn f x).plwAsked = s.plwAsked := rfl
@[simp] theorem State.setFn_badCw (s : State) (f : Nat) (x : PcieFn) : (s.setFn f x).badCw = s.badCw := rfl
@[simp] theorem State.setFn_timers (s : State) (f : Nat) (x : PcieFn) : (s.setFn f x).timers = s.timers := rfl
@[simp] theorem State.setFn_pinEdges (s : State) (f : Nat) (x : PcieFn) : (s.setFn f x).pinEdges = s.pinEdges := rfl
@[simp] theorem State.setFn_shadows (s : State) (f : Nat) (x : PcieFn) : (s.setFn f x).shadows = s.shadows := rfl
@[simp] theorem State.setFn_dtSeen (s : State) (f : Nat) (x : PcieFn) : (s.setFn f x).dtSeen = s.dtSeen := rfl
@[simp] theorem State.setFn_cores (s : State) (f : Nat) (x : PcieFn) : (s.setFn f x).cores = s.cores := rfl
@[simp] theorem State.setFn_tcm (s : State) (f : Nat) (x : PcieFn) : (s.setFn f x).tcm = s.tcm := rfl
@[simp] theorem State.setFn_sram (s : State) (f : Nat) (x : PcieFn) : (s.setFn f x).sram = s.sram := rfl
@[simp] theorem State.setFn_bankKey (s : State) (f : Nat) (x : PcieFn) : (s.setFn f x).bankKey = s.bankKey := rfl
@[simp] theorem State.setFn_bankFree (s : State) (f : Nat) (x : PcieFn) : (s.setFn f x).bankFree = s.bankFree := rfl
@[simp] theorem State.setFn_bankWait (s : State) (f : Nat) (x : PcieFn) : (s.setFn f x).bankWait = s.bankWait := rfl
@[simp] theorem State.setFn_wtab (s : State) (f : Nat) (x : PcieFn) : (s.setFn f x).wtab = s.wtab := rfl
@[simp] theorem State.setFn_wgen (s : State) (f : Nat) (x : PcieFn) : (s.setFn f x).wgen = s.wgen := rfl
@[simp] theorem State.setFn_wkey (s : State) (f : Nat) (x : PcieFn) : (s.setFn f x).wkey = s.wkey := rfl
@[simp] theorem State.setFn_wrtFree (s : State) (f : Nat) (x : PcieFn) : (s.setFn f x).wrtFree = s.wrtFree := rfl
@[simp] theorem State.setFn_bindLo (s : State) (f : Nat) (x : PcieFn) : (s.setFn f x).bindLo = s.bindLo := rfl
@[simp] theorem State.setFn_nvm (s : State) (f : Nat) (x : PcieFn) : (s.setFn f x).nvm = s.nvm := rfl
@[simp] theorem State.setFn_gated (s : State) (f : Nat) (x : PcieFn) : (s.setFn f x).gated = s.gated := rfl
@[simp] theorem State.setFn_nv (s : State) (f : Nat) (x : PcieFn) : (s.setFn f x).nv = s.nv := rfl
@[simp] theorem State.setFn_nvOp (s : State) (f : Nat) (x : PcieFn) : (s.setFn f x).nvOp = s.nvOp := rfl
@[simp] theorem State.setFn_prkOp (s : State) (f : Nat) (x : PcieFn) : (s.setFn f x).prkOp = s.prkOp := rfl
@[simp] theorem State.setFn_plwRun (s : State) (f : Nat) (x : PcieFn) : (s.setFn f x).plwRun = s.plwRun := rfl
@[simp] theorem State.setFn_place (s : State) (f : Nat) (x : PcieFn) : (s.setFn f x).place = s.place := rfl
@[simp] theorem State.setFn_patch (s : State) (f : Nat) (x : PcieFn) : (s.setFn f x).patch = s.patch := rfl
@[simp] theorem State.setFn_patchLeft (s : State) (f : Nat) (x : PcieFn) : (s.setFn f x).patchLeft = s.patchLeft := rfl
@[simp] theorem State.setFn_bootEnded (s : State) (f : Nat) (x : PcieFn) : (s.setFn f x).bootEnded = s.bootEnded := rfl
@[simp] theorem State.setFn_loop (s : State) (f : Nat) (x : PcieFn) : (s.setFn f x).loop = s.loop := rfl
@[simp] theorem State.setFn_linksUp (s : State) (f : Nat) (x : PcieFn) : (s.setFn f x).linksUp = s.linksUp := rfl
@[simp] theorem State.setFn_hostSeats (s : State) (f : Nat) (x : PcieFn) : (s.setFn f x).hostSeats = s.hostSeats := rfl
@[simp] theorem State.setFn_dmas (s : State) (f : Nat) (x : PcieFn) : (s.setFn f x).dmas = s.dmas := rfl
@[simp] theorem State.setFn_mutes (s : State) (f : Nat) (x : PcieFn) : (s.setFn f x).mutes = s.mutes := rfl
@[simp] theorem State.setFn_ecWin (s : State) (f : Nat) (x : PcieFn) : (s.setFn f x).ecWin = s.ecWin := rfl
@[simp] theorem State.setFn_pfilt (s : State) (f : Nat) (x : PcieFn) : (s.setFn f x).pfilt = s.pfilt := rfl
@[simp] theorem State.setFn_bplan (s : State) (f : Nat) (x : PcieFn) : (s.setFn f x).bplan = s.bplan := rfl
@[simp] theorem State.setFn_bports (s : State) (f : Nat) (x : PcieFn) : (s.setFn f x).bports = s.bports := rfl
@[simp] theorem State.setFn_aligned (s : State) (f : Nat) (x : PcieFn) : (s.setFn f x).aligned = s.aligned := rfl
@[simp] theorem State.setFn_ringItems (s : State) (f : Nat) (x : PcieFn) : (s.setFn f x).ringItems = s.ringItems := rfl
@[simp] theorem State.setFn_ringLast (s : State) (f : Nat) (x : PcieFn) : (s.setFn f x).ringLast = s.ringLast := rfl
@[simp] theorem State.setFn_gItems (s : State) (f : Nat) (x : PcieFn) : (s.setFn f x).gItems = s.gItems := rfl
@[simp] theorem State.setFn_outq (s : State) (f : Nat) (x : PcieFn) : (s.setFn f x).outq = s.outq := rfl
@[simp] theorem State.setFn_ltr (s : State) (f : Nat) (x : PcieFn) : (s.setFn f x).ltr = s.ltr := rfl
@[simp] theorem State.setFn_perst (s : State) (f : Nat) (x : PcieFn) : (s.setFn f x).perst = s.perst := rfl
@[simp] theorem State.setFn_linkMax (s : State) (f : Nat) (x : PcieFn) : (s.setFn f x).linkMax = s.linkMax := rfl
@[simp] theorem State.setFn_kpllOut (s : State) (f : Nat) (x : PcieFn) : (s.setFn f x).kpllOut = s.kpllOut := rfl
@[simp] theorem State.setFn_punits (s : State) (f : Nat) (x : PcieFn) : (s.setFn f x).punits = s.punits := rfl
@[simp] theorem State.setFn_yard (s : State) (f : Nat) (x : PcieFn) : (s.setFn f x).yard = s.yard := rfl
@[simp] theorem State.setFn_quietLo (s : State) (f : Nat) (x : PcieFn) : (s.setFn f x).quietLo = s.quietLo := rfl
@[simp] theorem State.setFn_heldLeg (s : State) (f : Nat) (x : PcieFn) : (s.setFn f x).heldLeg = s.heldLeg := rfl
@[simp] theorem State.setFn_heldAcc (s : State) (f : Nat) (x : PcieFn) : (s.setFn f x).heldAcc = s.heldAcc := rfl
@[simp] theorem State.setFn_supply (s : State) (f : Nat) (x : PcieFn) : (s.setFn f x).supply = s.supply := rfl
@[simp] theorem State.setFn_frst (s : State) (f : Nat) (x : PcieFn) : (s.setFn f x).frst = s.frst := rfl
@[simp] theorem State.setFn_frstAt (s : State) (f : Nat) (x : PcieFn) : (s.setFn f x).frstAt = s.frstAt := rfl
@[simp] theorem State.setFn_cpll (s : State) (f : Nat) (x : PcieFn) : (s.setFn f x).cpll = s.cpll := rfl
@[simp] theorem State.setFn_kpll (s : State) (f : Nat) (x : PcieFn) : (s.setFn f x).kpll = s.kpll := rfl
@[simp] theorem State.setFn_kpllAon (s : State) (f : Nat) (x : PcieFn) : (s.setFn f x).kpllAon = s.kpllAon := rfl
@[simp] theorem State.setFn_clkret (s : State) (f : Nat) (x : PcieFn) : (s.setFn f x).clkret = s.clkret := rfl
@[simp] theorem State.setFn_tracer (s : State) (f : Nat) (x : PcieFn) : (s.setFn f x).tracer = s.tracer := rfl
@[simp] theorem State.setFn_pinCh (s : State) (f : Nat) (x : PcieFn) : (s.setFn f x).pinCh = s.pinCh := rfl
@[simp] theorem State.setFn_pinAt (s : State) (f : Nat) (x : PcieFn) : (s.setFn f x).pinAt = s.pinAt := rfl
@[simp] theorem State.setFn_strapLock (s : State) (f : Nat) (x : PcieFn) : (s.setFn f x).strapLock = s.strapLock := rfl
@[simp] theorem State.setFn_tap (s : State) (f : Nat) (x : PcieFn) : (s.setFn f x).tap = s.tap := rfl
@[simp] theorem State.setFn_dbgRun (s : State) (f : Nat) (x : PcieFn) : (s.setFn f x).dbgRun = s.dbgRun := rfl

/-! ## State.setCore -/

@[simp] theorem State.setCore_pending (s : State) (c : Nat) (x : Core) : (s.setCore c x).pending = s.pending := rfl
@[simp] theorem State.setCore_et (s : State) (c : Nat) (x : Core) : (s.setCore c x).et = s.et := rfl
@[simp] theorem State.setCore_dt0 (s : State) (c : Nat) (x : Core) : (s.setCore c x).dt0 = s.dt0 := rfl
@[simp] theorem State.setCore_pace (s : State) (c : Nat) (x : Core) : (s.setCore c x).pace = s.pace := rfl
@[simp] theorem State.setCore_fv (s : State) (c : Nat) (x : Core) : (s.setCore c x).fv = s.fv := rfl
@[simp] theorem State.setCore_regs (s : State) (c : Nat) (x : Core) : (s.setCore c x).regs = s.regs := rfl
@[simp] theorem State.setCore_raised (s : State) (c : Nat) (x : Core) : (s.setCore c x).raised = s.raised := rfl
@[simp] theorem State.setCore_logs (s : State) (c : Nat) (x : Core) : (s.setCore c x).logs = s.logs := rfl
@[simp] theorem State.setCore_wlNow (s : State) (c : Nat) (x : Core) : (s.setCore c x).wlNow = s.wlNow := rfl
@[simp] theorem State.setCore_prkCyc (s : State) (c : Nat) (x : Core) : (s.setCore c x).prkCyc = s.prkCyc := rfl
@[simp] theorem State.setCore_out (s : State) (c : Nat) (x : Core) : (s.setCore c x).out = s.out := rfl
@[simp] theorem State.setCore_munits (s : State) (c : Nat) (x : Core) : (s.setCore c x).munits = s.munits := rfl
@[simp] theorem State.setCore_mroles (s : State) (c : Nat) (x : Core) : (s.setCore c x).mroles = s.mroles := rfl
@[simp] theorem State.setCore_minputs (s : State) (c : Nat) (x : Core) : (s.setCore c x).minputs = s.minputs := rfl
@[simp] theorem State.setCore_mtiles (s : State) (c : Nat) (x : Core) : (s.setCore c x).mtiles = s.mtiles := rfl
@[simp] theorem State.setCore_mcs (s : State) (c : Nat) (x : Core) : (s.setCore c x).mcs = s.mcs := rfl
@[simp] theorem State.setCore_xcFails (s : State) (c : Nat) (x : Core) : (s.setCore c x).xcFails = s.xcFails := rfl
@[simp] theorem State.setCore_xcLate (s : State) (c : Nat) (x : Core) : (s.setCore c x).xcLate = s.xcLate := rfl
@[simp] theorem State.setCore_streams (s : State) (c : Nat) (x : Core) : (s.setCore c x).streams = s.streams := rfl
@[simp] theorem State.setCore_capUsed (s : State) (c : Nat) (x : Core) : (s.setCore c x).capUsed = s.capUsed := rfl
@[simp] theorem State.setCore_cap (s : State) (c : Nat) (x : Core) : (s.setCore c x).cap = s.cap := rfl
@[simp] theorem State.setCore_committed (s : State) (c : Nat) (x : Core) : (s.setCore c x).committed = s.committed := rfl
@[simp] theorem State.setCore_fns (s : State) (c : Nat) (x : Core) : (s.setCore c x).fns = s.fns := rfl
@[simp] theorem State.setCore_ecUsed (s : State) (c : Nat) (x : Core) : (s.setCore c x).ecUsed = s.ecUsed := rfl
@[simp] theorem State.setCore_srcSeen (s : State) (c : Nat) (x : Core) : (s.setCore c x).srcSeen = s.srcSeen := rfl
@[simp] theorem State.setCore_flight (s : State) (c : Nat) (x : Core) : (s.setCore c x).flight = s.flight := rfl
@[simp] theorem State.setCore_slotsUsed (s : State) (c : Nat) (x : Core) : (s.setCore c x).slotsUsed = s.slotsUsed := rfl
@[simp] theorem State.setCore_lanesOn (s : State) (c : Nat) (x : Core) : (s.setCore c x).lanesOn = s.lanesOn := rfl
@[simp] theorem State.setCore_laneIn (s : State) (c : Nat) (x : Core) : (s.setCore c x).laneIn = s.laneIn := rfl
@[simp] theorem State.setCore_legs (s : State) (c : Nat) (x : Core) : (s.setCore c x).legs = s.legs := rfl
@[simp] theorem State.setCore_posts (s : State) (c : Nat) (x : Core) : (s.setCore c x).posts = s.posts := rfl
@[simp] theorem State.setCore_laneReqs (s : State) (c : Nat) (x : Core) : (s.setCore c x).laneReqs = s.laneReqs := rfl
@[simp] theorem State.setCore_step12 (s : State) (c : Nat) (x : Core) : (s.setCore c x).step12 = s.step12 := rfl
@[simp] theorem State.setCore_trigs (s : State) (c : Nat) (x : Core) : (s.setCore c x).trigs = s.trigs := rfl
@[simp] theorem State.setCore_engs (s : State) (c : Nat) (x : Core) : (s.setCore c x).engs = s.engs := rfl
@[simp] theorem State.setCore_ltiles (s : State) (c : Nat) (x : Core) : (s.setCore c x).ltiles = s.ltiles := rfl
@[simp] theorem State.setCore_xslots (s : State) (c : Nat) (x : Core) : (s.setCore c x).xslots = s.xslots := rfl
@[simp] theorem State.setCore_plwAsked (s : State) (c : Nat) (x : Core) : (s.setCore c x).plwAsked = s.plwAsked := rfl
@[simp] theorem State.setCore_badCw (s : State) (c : Nat) (x : Core) : (s.setCore c x).badCw = s.badCw := rfl
@[simp] theorem State.setCore_timers (s : State) (c : Nat) (x : Core) : (s.setCore c x).timers = s.timers := rfl
@[simp] theorem State.setCore_pinEdges (s : State) (c : Nat) (x : Core) : (s.setCore c x).pinEdges = s.pinEdges := rfl
@[simp] theorem State.setCore_shadows (s : State) (c : Nat) (x : Core) : (s.setCore c x).shadows = s.shadows := rfl
@[simp] theorem State.setCore_dtSeen (s : State) (c : Nat) (x : Core) : (s.setCore c x).dtSeen = s.dtSeen := rfl
@[simp] theorem State.setCore_tcm (s : State) (c : Nat) (x : Core) : (s.setCore c x).tcm = s.tcm := rfl
@[simp] theorem State.setCore_sram (s : State) (c : Nat) (x : Core) : (s.setCore c x).sram = s.sram := rfl
@[simp] theorem State.setCore_bankKey (s : State) (c : Nat) (x : Core) : (s.setCore c x).bankKey = s.bankKey := rfl
@[simp] theorem State.setCore_bankFree (s : State) (c : Nat) (x : Core) : (s.setCore c x).bankFree = s.bankFree := rfl
@[simp] theorem State.setCore_bankWait (s : State) (c : Nat) (x : Core) : (s.setCore c x).bankWait = s.bankWait := rfl
@[simp] theorem State.setCore_wtab (s : State) (c : Nat) (x : Core) : (s.setCore c x).wtab = s.wtab := rfl
@[simp] theorem State.setCore_wgen (s : State) (c : Nat) (x : Core) : (s.setCore c x).wgen = s.wgen := rfl
@[simp] theorem State.setCore_wkey (s : State) (c : Nat) (x : Core) : (s.setCore c x).wkey = s.wkey := rfl
@[simp] theorem State.setCore_wrtFree (s : State) (c : Nat) (x : Core) : (s.setCore c x).wrtFree = s.wrtFree := rfl
@[simp] theorem State.setCore_bindLo (s : State) (c : Nat) (x : Core) : (s.setCore c x).bindLo = s.bindLo := rfl
@[simp] theorem State.setCore_nvm (s : State) (c : Nat) (x : Core) : (s.setCore c x).nvm = s.nvm := rfl
@[simp] theorem State.setCore_gated (s : State) (c : Nat) (x : Core) : (s.setCore c x).gated = s.gated := rfl
@[simp] theorem State.setCore_nv (s : State) (c : Nat) (x : Core) : (s.setCore c x).nv = s.nv := rfl
@[simp] theorem State.setCore_nvOp (s : State) (c : Nat) (x : Core) : (s.setCore c x).nvOp = s.nvOp := rfl
@[simp] theorem State.setCore_prkOp (s : State) (c : Nat) (x : Core) : (s.setCore c x).prkOp = s.prkOp := rfl
@[simp] theorem State.setCore_plwRun (s : State) (c : Nat) (x : Core) : (s.setCore c x).plwRun = s.plwRun := rfl
@[simp] theorem State.setCore_place (s : State) (c : Nat) (x : Core) : (s.setCore c x).place = s.place := rfl
@[simp] theorem State.setCore_patch (s : State) (c : Nat) (x : Core) : (s.setCore c x).patch = s.patch := rfl
@[simp] theorem State.setCore_patchLeft (s : State) (c : Nat) (x : Core) : (s.setCore c x).patchLeft = s.patchLeft := rfl
@[simp] theorem State.setCore_bootEnded (s : State) (c : Nat) (x : Core) : (s.setCore c x).bootEnded = s.bootEnded := rfl
@[simp] theorem State.setCore_loop (s : State) (c : Nat) (x : Core) : (s.setCore c x).loop = s.loop := rfl
@[simp] theorem State.setCore_linksUp (s : State) (c : Nat) (x : Core) : (s.setCore c x).linksUp = s.linksUp := rfl
@[simp] theorem State.setCore_hostSeats (s : State) (c : Nat) (x : Core) : (s.setCore c x).hostSeats = s.hostSeats := rfl
@[simp] theorem State.setCore_dmas (s : State) (c : Nat) (x : Core) : (s.setCore c x).dmas = s.dmas := rfl
@[simp] theorem State.setCore_mutes (s : State) (c : Nat) (x : Core) : (s.setCore c x).mutes = s.mutes := rfl
@[simp] theorem State.setCore_ecWin (s : State) (c : Nat) (x : Core) : (s.setCore c x).ecWin = s.ecWin := rfl
@[simp] theorem State.setCore_pfilt (s : State) (c : Nat) (x : Core) : (s.setCore c x).pfilt = s.pfilt := rfl
@[simp] theorem State.setCore_bplan (s : State) (c : Nat) (x : Core) : (s.setCore c x).bplan = s.bplan := rfl
@[simp] theorem State.setCore_bports (s : State) (c : Nat) (x : Core) : (s.setCore c x).bports = s.bports := rfl
@[simp] theorem State.setCore_aligned (s : State) (c : Nat) (x : Core) : (s.setCore c x).aligned = s.aligned := rfl
@[simp] theorem State.setCore_ringItems (s : State) (c : Nat) (x : Core) : (s.setCore c x).ringItems = s.ringItems := rfl
@[simp] theorem State.setCore_ringLast (s : State) (c : Nat) (x : Core) : (s.setCore c x).ringLast = s.ringLast := rfl
@[simp] theorem State.setCore_gItems (s : State) (c : Nat) (x : Core) : (s.setCore c x).gItems = s.gItems := rfl
@[simp] theorem State.setCore_outq (s : State) (c : Nat) (x : Core) : (s.setCore c x).outq = s.outq := rfl
@[simp] theorem State.setCore_ltr (s : State) (c : Nat) (x : Core) : (s.setCore c x).ltr = s.ltr := rfl
@[simp] theorem State.setCore_perst (s : State) (c : Nat) (x : Core) : (s.setCore c x).perst = s.perst := rfl
@[simp] theorem State.setCore_linkMax (s : State) (c : Nat) (x : Core) : (s.setCore c x).linkMax = s.linkMax := rfl
@[simp] theorem State.setCore_kpllOut (s : State) (c : Nat) (x : Core) : (s.setCore c x).kpllOut = s.kpllOut := rfl
@[simp] theorem State.setCore_punits (s : State) (c : Nat) (x : Core) : (s.setCore c x).punits = s.punits := rfl
@[simp] theorem State.setCore_yard (s : State) (c : Nat) (x : Core) : (s.setCore c x).yard = s.yard := rfl
@[simp] theorem State.setCore_quietLo (s : State) (c : Nat) (x : Core) : (s.setCore c x).quietLo = s.quietLo := rfl
@[simp] theorem State.setCore_heldLeg (s : State) (c : Nat) (x : Core) : (s.setCore c x).heldLeg = s.heldLeg := rfl
@[simp] theorem State.setCore_heldAcc (s : State) (c : Nat) (x : Core) : (s.setCore c x).heldAcc = s.heldAcc := rfl
@[simp] theorem State.setCore_supply (s : State) (c : Nat) (x : Core) : (s.setCore c x).supply = s.supply := rfl
@[simp] theorem State.setCore_frst (s : State) (c : Nat) (x : Core) : (s.setCore c x).frst = s.frst := rfl
@[simp] theorem State.setCore_frstAt (s : State) (c : Nat) (x : Core) : (s.setCore c x).frstAt = s.frstAt := rfl
@[simp] theorem State.setCore_cpll (s : State) (c : Nat) (x : Core) : (s.setCore c x).cpll = s.cpll := rfl
@[simp] theorem State.setCore_kpll (s : State) (c : Nat) (x : Core) : (s.setCore c x).kpll = s.kpll := rfl
@[simp] theorem State.setCore_kpllAon (s : State) (c : Nat) (x : Core) : (s.setCore c x).kpllAon = s.kpllAon := rfl
@[simp] theorem State.setCore_clkret (s : State) (c : Nat) (x : Core) : (s.setCore c x).clkret = s.clkret := rfl
@[simp] theorem State.setCore_tracer (s : State) (c : Nat) (x : Core) : (s.setCore c x).tracer = s.tracer := rfl
@[simp] theorem State.setCore_pinCh (s : State) (c : Nat) (x : Core) : (s.setCore c x).pinCh = s.pinCh := rfl
@[simp] theorem State.setCore_pinAt (s : State) (c : Nat) (x : Core) : (s.setCore c x).pinAt = s.pinAt := rfl
@[simp] theorem State.setCore_strapLock (s : State) (c : Nat) (x : Core) : (s.setCore c x).strapLock = s.strapLock := rfl
@[simp] theorem State.setCore_tap (s : State) (c : Nat) (x : Core) : (s.setCore c x).tap = s.tap := rfl
@[simp] theorem State.setCore_dbgRun (s : State) (c : Nat) (x : Core) : (s.setCore c x).dbgRun = s.dbgRun := rfl

/-! ## State.setTcm -/

@[simp] theorem State.setTcm_pending (s : State) (c : Nat) (m : Mem) : (s.setTcm c m).pending = s.pending := rfl
@[simp] theorem State.setTcm_et (s : State) (c : Nat) (m : Mem) : (s.setTcm c m).et = s.et := rfl
@[simp] theorem State.setTcm_dt0 (s : State) (c : Nat) (m : Mem) : (s.setTcm c m).dt0 = s.dt0 := rfl
@[simp] theorem State.setTcm_pace (s : State) (c : Nat) (m : Mem) : (s.setTcm c m).pace = s.pace := rfl
@[simp] theorem State.setTcm_fv (s : State) (c : Nat) (m : Mem) : (s.setTcm c m).fv = s.fv := rfl
@[simp] theorem State.setTcm_regs (s : State) (c : Nat) (m : Mem) : (s.setTcm c m).regs = s.regs := rfl
@[simp] theorem State.setTcm_raised (s : State) (c : Nat) (m : Mem) : (s.setTcm c m).raised = s.raised := rfl
@[simp] theorem State.setTcm_logs (s : State) (c : Nat) (m : Mem) : (s.setTcm c m).logs = s.logs := rfl
@[simp] theorem State.setTcm_wlNow (s : State) (c : Nat) (m : Mem) : (s.setTcm c m).wlNow = s.wlNow := rfl
@[simp] theorem State.setTcm_prkCyc (s : State) (c : Nat) (m : Mem) : (s.setTcm c m).prkCyc = s.prkCyc := rfl
@[simp] theorem State.setTcm_out (s : State) (c : Nat) (m : Mem) : (s.setTcm c m).out = s.out := rfl
@[simp] theorem State.setTcm_munits (s : State) (c : Nat) (m : Mem) : (s.setTcm c m).munits = s.munits := rfl
@[simp] theorem State.setTcm_mroles (s : State) (c : Nat) (m : Mem) : (s.setTcm c m).mroles = s.mroles := rfl
@[simp] theorem State.setTcm_minputs (s : State) (c : Nat) (m : Mem) : (s.setTcm c m).minputs = s.minputs := rfl
@[simp] theorem State.setTcm_mtiles (s : State) (c : Nat) (m : Mem) : (s.setTcm c m).mtiles = s.mtiles := rfl
@[simp] theorem State.setTcm_mcs (s : State) (c : Nat) (m : Mem) : (s.setTcm c m).mcs = s.mcs := rfl
@[simp] theorem State.setTcm_xcFails (s : State) (c : Nat) (m : Mem) : (s.setTcm c m).xcFails = s.xcFails := rfl
@[simp] theorem State.setTcm_xcLate (s : State) (c : Nat) (m : Mem) : (s.setTcm c m).xcLate = s.xcLate := rfl
@[simp] theorem State.setTcm_streams (s : State) (c : Nat) (m : Mem) : (s.setTcm c m).streams = s.streams := rfl
@[simp] theorem State.setTcm_capUsed (s : State) (c : Nat) (m : Mem) : (s.setTcm c m).capUsed = s.capUsed := rfl
@[simp] theorem State.setTcm_cap (s : State) (c : Nat) (m : Mem) : (s.setTcm c m).cap = s.cap := rfl
@[simp] theorem State.setTcm_committed (s : State) (c : Nat) (m : Mem) : (s.setTcm c m).committed = s.committed := rfl
@[simp] theorem State.setTcm_fns (s : State) (c : Nat) (m : Mem) : (s.setTcm c m).fns = s.fns := rfl
@[simp] theorem State.setTcm_ecUsed (s : State) (c : Nat) (m : Mem) : (s.setTcm c m).ecUsed = s.ecUsed := rfl
@[simp] theorem State.setTcm_srcSeen (s : State) (c : Nat) (m : Mem) : (s.setTcm c m).srcSeen = s.srcSeen := rfl
@[simp] theorem State.setTcm_flight (s : State) (c : Nat) (m : Mem) : (s.setTcm c m).flight = s.flight := rfl
@[simp] theorem State.setTcm_slotsUsed (s : State) (c : Nat) (m : Mem) : (s.setTcm c m).slotsUsed = s.slotsUsed := rfl
@[simp] theorem State.setTcm_lanesOn (s : State) (c : Nat) (m : Mem) : (s.setTcm c m).lanesOn = s.lanesOn := rfl
@[simp] theorem State.setTcm_laneIn (s : State) (c : Nat) (m : Mem) : (s.setTcm c m).laneIn = s.laneIn := rfl
@[simp] theorem State.setTcm_legs (s : State) (c : Nat) (m : Mem) : (s.setTcm c m).legs = s.legs := rfl
@[simp] theorem State.setTcm_posts (s : State) (c : Nat) (m : Mem) : (s.setTcm c m).posts = s.posts := rfl
@[simp] theorem State.setTcm_laneReqs (s : State) (c : Nat) (m : Mem) : (s.setTcm c m).laneReqs = s.laneReqs := rfl
@[simp] theorem State.setTcm_step12 (s : State) (c : Nat) (m : Mem) : (s.setTcm c m).step12 = s.step12 := rfl
@[simp] theorem State.setTcm_trigs (s : State) (c : Nat) (m : Mem) : (s.setTcm c m).trigs = s.trigs := rfl
@[simp] theorem State.setTcm_engs (s : State) (c : Nat) (m : Mem) : (s.setTcm c m).engs = s.engs := rfl
@[simp] theorem State.setTcm_ltiles (s : State) (c : Nat) (m : Mem) : (s.setTcm c m).ltiles = s.ltiles := rfl
@[simp] theorem State.setTcm_xslots (s : State) (c : Nat) (m : Mem) : (s.setTcm c m).xslots = s.xslots := rfl
@[simp] theorem State.setTcm_plwAsked (s : State) (c : Nat) (m : Mem) : (s.setTcm c m).plwAsked = s.plwAsked := rfl
@[simp] theorem State.setTcm_badCw (s : State) (c : Nat) (m : Mem) : (s.setTcm c m).badCw = s.badCw := rfl
@[simp] theorem State.setTcm_timers (s : State) (c : Nat) (m : Mem) : (s.setTcm c m).timers = s.timers := rfl
@[simp] theorem State.setTcm_pinEdges (s : State) (c : Nat) (m : Mem) : (s.setTcm c m).pinEdges = s.pinEdges := rfl
@[simp] theorem State.setTcm_shadows (s : State) (c : Nat) (m : Mem) : (s.setTcm c m).shadows = s.shadows := rfl
@[simp] theorem State.setTcm_dtSeen (s : State) (c : Nat) (m : Mem) : (s.setTcm c m).dtSeen = s.dtSeen := rfl
@[simp] theorem State.setTcm_cores (s : State) (c : Nat) (m : Mem) : (s.setTcm c m).cores = s.cores := rfl
@[simp] theorem State.setTcm_sram (s : State) (c : Nat) (m : Mem) : (s.setTcm c m).sram = s.sram := rfl
@[simp] theorem State.setTcm_bankKey (s : State) (c : Nat) (m : Mem) : (s.setTcm c m).bankKey = s.bankKey := rfl
@[simp] theorem State.setTcm_bankFree (s : State) (c : Nat) (m : Mem) : (s.setTcm c m).bankFree = s.bankFree := rfl
@[simp] theorem State.setTcm_bankWait (s : State) (c : Nat) (m : Mem) : (s.setTcm c m).bankWait = s.bankWait := rfl
@[simp] theorem State.setTcm_wtab (s : State) (c : Nat) (m : Mem) : (s.setTcm c m).wtab = s.wtab := rfl
@[simp] theorem State.setTcm_wgen (s : State) (c : Nat) (m : Mem) : (s.setTcm c m).wgen = s.wgen := rfl
@[simp] theorem State.setTcm_wkey (s : State) (c : Nat) (m : Mem) : (s.setTcm c m).wkey = s.wkey := rfl
@[simp] theorem State.setTcm_wrtFree (s : State) (c : Nat) (m : Mem) : (s.setTcm c m).wrtFree = s.wrtFree := rfl
@[simp] theorem State.setTcm_bindLo (s : State) (c : Nat) (m : Mem) : (s.setTcm c m).bindLo = s.bindLo := rfl
@[simp] theorem State.setTcm_nvm (s : State) (c : Nat) (m : Mem) : (s.setTcm c m).nvm = s.nvm := rfl
@[simp] theorem State.setTcm_gated (s : State) (c : Nat) (m : Mem) : (s.setTcm c m).gated = s.gated := rfl
@[simp] theorem State.setTcm_nv (s : State) (c : Nat) (m : Mem) : (s.setTcm c m).nv = s.nv := rfl
@[simp] theorem State.setTcm_nvOp (s : State) (c : Nat) (m : Mem) : (s.setTcm c m).nvOp = s.nvOp := rfl
@[simp] theorem State.setTcm_prkOp (s : State) (c : Nat) (m : Mem) : (s.setTcm c m).prkOp = s.prkOp := rfl
@[simp] theorem State.setTcm_plwRun (s : State) (c : Nat) (m : Mem) : (s.setTcm c m).plwRun = s.plwRun := rfl
@[simp] theorem State.setTcm_place (s : State) (c : Nat) (m : Mem) : (s.setTcm c m).place = s.place := rfl
@[simp] theorem State.setTcm_patch (s : State) (c : Nat) (m : Mem) : (s.setTcm c m).patch = s.patch := rfl
@[simp] theorem State.setTcm_patchLeft (s : State) (c : Nat) (m : Mem) : (s.setTcm c m).patchLeft = s.patchLeft := rfl
@[simp] theorem State.setTcm_bootEnded (s : State) (c : Nat) (m : Mem) : (s.setTcm c m).bootEnded = s.bootEnded := rfl
@[simp] theorem State.setTcm_loop (s : State) (c : Nat) (m : Mem) : (s.setTcm c m).loop = s.loop := rfl
@[simp] theorem State.setTcm_linksUp (s : State) (c : Nat) (m : Mem) : (s.setTcm c m).linksUp = s.linksUp := rfl
@[simp] theorem State.setTcm_hostSeats (s : State) (c : Nat) (m : Mem) : (s.setTcm c m).hostSeats = s.hostSeats := rfl
@[simp] theorem State.setTcm_dmas (s : State) (c : Nat) (m : Mem) : (s.setTcm c m).dmas = s.dmas := rfl
@[simp] theorem State.setTcm_mutes (s : State) (c : Nat) (m : Mem) : (s.setTcm c m).mutes = s.mutes := rfl
@[simp] theorem State.setTcm_ecWin (s : State) (c : Nat) (m : Mem) : (s.setTcm c m).ecWin = s.ecWin := rfl
@[simp] theorem State.setTcm_pfilt (s : State) (c : Nat) (m : Mem) : (s.setTcm c m).pfilt = s.pfilt := rfl
@[simp] theorem State.setTcm_bplan (s : State) (c : Nat) (m : Mem) : (s.setTcm c m).bplan = s.bplan := rfl
@[simp] theorem State.setTcm_bports (s : State) (c : Nat) (m : Mem) : (s.setTcm c m).bports = s.bports := rfl
@[simp] theorem State.setTcm_aligned (s : State) (c : Nat) (m : Mem) : (s.setTcm c m).aligned = s.aligned := rfl
@[simp] theorem State.setTcm_ringItems (s : State) (c : Nat) (m : Mem) : (s.setTcm c m).ringItems = s.ringItems := rfl
@[simp] theorem State.setTcm_ringLast (s : State) (c : Nat) (m : Mem) : (s.setTcm c m).ringLast = s.ringLast := rfl
@[simp] theorem State.setTcm_gItems (s : State) (c : Nat) (m : Mem) : (s.setTcm c m).gItems = s.gItems := rfl
@[simp] theorem State.setTcm_outq (s : State) (c : Nat) (m : Mem) : (s.setTcm c m).outq = s.outq := rfl
@[simp] theorem State.setTcm_ltr (s : State) (c : Nat) (m : Mem) : (s.setTcm c m).ltr = s.ltr := rfl
@[simp] theorem State.setTcm_perst (s : State) (c : Nat) (m : Mem) : (s.setTcm c m).perst = s.perst := rfl
@[simp] theorem State.setTcm_linkMax (s : State) (c : Nat) (m : Mem) : (s.setTcm c m).linkMax = s.linkMax := rfl
@[simp] theorem State.setTcm_kpllOut (s : State) (c : Nat) (m : Mem) : (s.setTcm c m).kpllOut = s.kpllOut := rfl
@[simp] theorem State.setTcm_punits (s : State) (c : Nat) (m : Mem) : (s.setTcm c m).punits = s.punits := rfl
@[simp] theorem State.setTcm_yard (s : State) (c : Nat) (m : Mem) : (s.setTcm c m).yard = s.yard := rfl
@[simp] theorem State.setTcm_quietLo (s : State) (c : Nat) (m : Mem) : (s.setTcm c m).quietLo = s.quietLo := rfl
@[simp] theorem State.setTcm_heldLeg (s : State) (c : Nat) (m : Mem) : (s.setTcm c m).heldLeg = s.heldLeg := rfl
@[simp] theorem State.setTcm_heldAcc (s : State) (c : Nat) (m : Mem) : (s.setTcm c m).heldAcc = s.heldAcc := rfl
@[simp] theorem State.setTcm_supply (s : State) (c : Nat) (m : Mem) : (s.setTcm c m).supply = s.supply := rfl
@[simp] theorem State.setTcm_frst (s : State) (c : Nat) (m : Mem) : (s.setTcm c m).frst = s.frst := rfl
@[simp] theorem State.setTcm_frstAt (s : State) (c : Nat) (m : Mem) : (s.setTcm c m).frstAt = s.frstAt := rfl
@[simp] theorem State.setTcm_cpll (s : State) (c : Nat) (m : Mem) : (s.setTcm c m).cpll = s.cpll := rfl
@[simp] theorem State.setTcm_kpll (s : State) (c : Nat) (m : Mem) : (s.setTcm c m).kpll = s.kpll := rfl
@[simp] theorem State.setTcm_kpllAon (s : State) (c : Nat) (m : Mem) : (s.setTcm c m).kpllAon = s.kpllAon := rfl
@[simp] theorem State.setTcm_clkret (s : State) (c : Nat) (m : Mem) : (s.setTcm c m).clkret = s.clkret := rfl
@[simp] theorem State.setTcm_tracer (s : State) (c : Nat) (m : Mem) : (s.setTcm c m).tracer = s.tracer := rfl
@[simp] theorem State.setTcm_pinCh (s : State) (c : Nat) (m : Mem) : (s.setTcm c m).pinCh = s.pinCh := rfl
@[simp] theorem State.setTcm_pinAt (s : State) (c : Nat) (m : Mem) : (s.setTcm c m).pinAt = s.pinAt := rfl
@[simp] theorem State.setTcm_strapLock (s : State) (c : Nat) (m : Mem) : (s.setTcm c m).strapLock = s.strapLock := rfl
@[simp] theorem State.setTcm_tap (s : State) (c : Nat) (m : Mem) : (s.setTcm c m).tap = s.tap := rfl
@[simp] theorem State.setTcm_dbgRun (s : State) (c : Nat) (m : Mem) : (s.setTcm c m).dbgRun = s.dbgRun := rfl

/-! ## State.setWent -/

@[simp] theorem State.setWent_pending (s : State) (i : Nat) (x : WEntry) : (s.setWent i x).pending = s.pending := rfl
@[simp] theorem State.setWent_et (s : State) (i : Nat) (x : WEntry) : (s.setWent i x).et = s.et := rfl
@[simp] theorem State.setWent_dt0 (s : State) (i : Nat) (x : WEntry) : (s.setWent i x).dt0 = s.dt0 := rfl
@[simp] theorem State.setWent_pace (s : State) (i : Nat) (x : WEntry) : (s.setWent i x).pace = s.pace := rfl
@[simp] theorem State.setWent_fv (s : State) (i : Nat) (x : WEntry) : (s.setWent i x).fv = s.fv := rfl
@[simp] theorem State.setWent_regs (s : State) (i : Nat) (x : WEntry) : (s.setWent i x).regs = s.regs := rfl
@[simp] theorem State.setWent_raised (s : State) (i : Nat) (x : WEntry) : (s.setWent i x).raised = s.raised := rfl
@[simp] theorem State.setWent_logs (s : State) (i : Nat) (x : WEntry) : (s.setWent i x).logs = s.logs := rfl
@[simp] theorem State.setWent_wlNow (s : State) (i : Nat) (x : WEntry) : (s.setWent i x).wlNow = s.wlNow := rfl
@[simp] theorem State.setWent_prkCyc (s : State) (i : Nat) (x : WEntry) : (s.setWent i x).prkCyc = s.prkCyc := rfl
@[simp] theorem State.setWent_out (s : State) (i : Nat) (x : WEntry) : (s.setWent i x).out = s.out := rfl
@[simp] theorem State.setWent_munits (s : State) (i : Nat) (x : WEntry) : (s.setWent i x).munits = s.munits := rfl
@[simp] theorem State.setWent_mroles (s : State) (i : Nat) (x : WEntry) : (s.setWent i x).mroles = s.mroles := rfl
@[simp] theorem State.setWent_minputs (s : State) (i : Nat) (x : WEntry) : (s.setWent i x).minputs = s.minputs := rfl
@[simp] theorem State.setWent_mtiles (s : State) (i : Nat) (x : WEntry) : (s.setWent i x).mtiles = s.mtiles := rfl
@[simp] theorem State.setWent_mcs (s : State) (i : Nat) (x : WEntry) : (s.setWent i x).mcs = s.mcs := rfl
@[simp] theorem State.setWent_xcFails (s : State) (i : Nat) (x : WEntry) : (s.setWent i x).xcFails = s.xcFails := rfl
@[simp] theorem State.setWent_xcLate (s : State) (i : Nat) (x : WEntry) : (s.setWent i x).xcLate = s.xcLate := rfl
@[simp] theorem State.setWent_streams (s : State) (i : Nat) (x : WEntry) : (s.setWent i x).streams = s.streams := rfl
@[simp] theorem State.setWent_capUsed (s : State) (i : Nat) (x : WEntry) : (s.setWent i x).capUsed = s.capUsed := rfl
@[simp] theorem State.setWent_cap (s : State) (i : Nat) (x : WEntry) : (s.setWent i x).cap = s.cap := rfl
@[simp] theorem State.setWent_committed (s : State) (i : Nat) (x : WEntry) : (s.setWent i x).committed = s.committed := rfl
@[simp] theorem State.setWent_fns (s : State) (i : Nat) (x : WEntry) : (s.setWent i x).fns = s.fns := rfl
@[simp] theorem State.setWent_ecUsed (s : State) (i : Nat) (x : WEntry) : (s.setWent i x).ecUsed = s.ecUsed := rfl
@[simp] theorem State.setWent_srcSeen (s : State) (i : Nat) (x : WEntry) : (s.setWent i x).srcSeen = s.srcSeen := rfl
@[simp] theorem State.setWent_flight (s : State) (i : Nat) (x : WEntry) : (s.setWent i x).flight = s.flight := rfl
@[simp] theorem State.setWent_slotsUsed (s : State) (i : Nat) (x : WEntry) : (s.setWent i x).slotsUsed = s.slotsUsed := rfl
@[simp] theorem State.setWent_lanesOn (s : State) (i : Nat) (x : WEntry) : (s.setWent i x).lanesOn = s.lanesOn := rfl
@[simp] theorem State.setWent_laneIn (s : State) (i : Nat) (x : WEntry) : (s.setWent i x).laneIn = s.laneIn := rfl
@[simp] theorem State.setWent_legs (s : State) (i : Nat) (x : WEntry) : (s.setWent i x).legs = s.legs := rfl
@[simp] theorem State.setWent_posts (s : State) (i : Nat) (x : WEntry) : (s.setWent i x).posts = s.posts := rfl
@[simp] theorem State.setWent_laneReqs (s : State) (i : Nat) (x : WEntry) : (s.setWent i x).laneReqs = s.laneReqs := rfl
@[simp] theorem State.setWent_step12 (s : State) (i : Nat) (x : WEntry) : (s.setWent i x).step12 = s.step12 := rfl
@[simp] theorem State.setWent_trigs (s : State) (i : Nat) (x : WEntry) : (s.setWent i x).trigs = s.trigs := rfl
@[simp] theorem State.setWent_engs (s : State) (i : Nat) (x : WEntry) : (s.setWent i x).engs = s.engs := rfl
@[simp] theorem State.setWent_ltiles (s : State) (i : Nat) (x : WEntry) : (s.setWent i x).ltiles = s.ltiles := rfl
@[simp] theorem State.setWent_xslots (s : State) (i : Nat) (x : WEntry) : (s.setWent i x).xslots = s.xslots := rfl
@[simp] theorem State.setWent_plwAsked (s : State) (i : Nat) (x : WEntry) : (s.setWent i x).plwAsked = s.plwAsked := rfl
@[simp] theorem State.setWent_badCw (s : State) (i : Nat) (x : WEntry) : (s.setWent i x).badCw = s.badCw := rfl
@[simp] theorem State.setWent_timers (s : State) (i : Nat) (x : WEntry) : (s.setWent i x).timers = s.timers := rfl
@[simp] theorem State.setWent_pinEdges (s : State) (i : Nat) (x : WEntry) : (s.setWent i x).pinEdges = s.pinEdges := rfl
@[simp] theorem State.setWent_shadows (s : State) (i : Nat) (x : WEntry) : (s.setWent i x).shadows = s.shadows := rfl
@[simp] theorem State.setWent_dtSeen (s : State) (i : Nat) (x : WEntry) : (s.setWent i x).dtSeen = s.dtSeen := rfl
@[simp] theorem State.setWent_cores (s : State) (i : Nat) (x : WEntry) : (s.setWent i x).cores = s.cores := rfl
@[simp] theorem State.setWent_tcm (s : State) (i : Nat) (x : WEntry) : (s.setWent i x).tcm = s.tcm := rfl
@[simp] theorem State.setWent_sram (s : State) (i : Nat) (x : WEntry) : (s.setWent i x).sram = s.sram := rfl
@[simp] theorem State.setWent_bankKey (s : State) (i : Nat) (x : WEntry) : (s.setWent i x).bankKey = s.bankKey := rfl
@[simp] theorem State.setWent_bankFree (s : State) (i : Nat) (x : WEntry) : (s.setWent i x).bankFree = s.bankFree := rfl
@[simp] theorem State.setWent_bankWait (s : State) (i : Nat) (x : WEntry) : (s.setWent i x).bankWait = s.bankWait := rfl
@[simp] theorem State.setWent_wgen (s : State) (i : Nat) (x : WEntry) : (s.setWent i x).wgen = s.wgen := rfl
@[simp] theorem State.setWent_wkey (s : State) (i : Nat) (x : WEntry) : (s.setWent i x).wkey = s.wkey := rfl
@[simp] theorem State.setWent_wrtFree (s : State) (i : Nat) (x : WEntry) : (s.setWent i x).wrtFree = s.wrtFree := rfl
@[simp] theorem State.setWent_bindLo (s : State) (i : Nat) (x : WEntry) : (s.setWent i x).bindLo = s.bindLo := rfl
@[simp] theorem State.setWent_nvm (s : State) (i : Nat) (x : WEntry) : (s.setWent i x).nvm = s.nvm := rfl
@[simp] theorem State.setWent_gated (s : State) (i : Nat) (x : WEntry) : (s.setWent i x).gated = s.gated := rfl
@[simp] theorem State.setWent_nv (s : State) (i : Nat) (x : WEntry) : (s.setWent i x).nv = s.nv := rfl
@[simp] theorem State.setWent_nvOp (s : State) (i : Nat) (x : WEntry) : (s.setWent i x).nvOp = s.nvOp := rfl
@[simp] theorem State.setWent_prkOp (s : State) (i : Nat) (x : WEntry) : (s.setWent i x).prkOp = s.prkOp := rfl
@[simp] theorem State.setWent_plwRun (s : State) (i : Nat) (x : WEntry) : (s.setWent i x).plwRun = s.plwRun := rfl
@[simp] theorem State.setWent_place (s : State) (i : Nat) (x : WEntry) : (s.setWent i x).place = s.place := rfl
@[simp] theorem State.setWent_patch (s : State) (i : Nat) (x : WEntry) : (s.setWent i x).patch = s.patch := rfl
@[simp] theorem State.setWent_patchLeft (s : State) (i : Nat) (x : WEntry) : (s.setWent i x).patchLeft = s.patchLeft := rfl
@[simp] theorem State.setWent_bootEnded (s : State) (i : Nat) (x : WEntry) : (s.setWent i x).bootEnded = s.bootEnded := rfl
@[simp] theorem State.setWent_loop (s : State) (i : Nat) (x : WEntry) : (s.setWent i x).loop = s.loop := rfl
@[simp] theorem State.setWent_linksUp (s : State) (i : Nat) (x : WEntry) : (s.setWent i x).linksUp = s.linksUp := rfl
@[simp] theorem State.setWent_hostSeats (s : State) (i : Nat) (x : WEntry) : (s.setWent i x).hostSeats = s.hostSeats := rfl
@[simp] theorem State.setWent_dmas (s : State) (i : Nat) (x : WEntry) : (s.setWent i x).dmas = s.dmas := rfl
@[simp] theorem State.setWent_mutes (s : State) (i : Nat) (x : WEntry) : (s.setWent i x).mutes = s.mutes := rfl
@[simp] theorem State.setWent_ecWin (s : State) (i : Nat) (x : WEntry) : (s.setWent i x).ecWin = s.ecWin := rfl
@[simp] theorem State.setWent_pfilt (s : State) (i : Nat) (x : WEntry) : (s.setWent i x).pfilt = s.pfilt := rfl
@[simp] theorem State.setWent_bplan (s : State) (i : Nat) (x : WEntry) : (s.setWent i x).bplan = s.bplan := rfl
@[simp] theorem State.setWent_bports (s : State) (i : Nat) (x : WEntry) : (s.setWent i x).bports = s.bports := rfl
@[simp] theorem State.setWent_aligned (s : State) (i : Nat) (x : WEntry) : (s.setWent i x).aligned = s.aligned := rfl
@[simp] theorem State.setWent_ringItems (s : State) (i : Nat) (x : WEntry) : (s.setWent i x).ringItems = s.ringItems := rfl
@[simp] theorem State.setWent_ringLast (s : State) (i : Nat) (x : WEntry) : (s.setWent i x).ringLast = s.ringLast := rfl
@[simp] theorem State.setWent_gItems (s : State) (i : Nat) (x : WEntry) : (s.setWent i x).gItems = s.gItems := rfl
@[simp] theorem State.setWent_outq (s : State) (i : Nat) (x : WEntry) : (s.setWent i x).outq = s.outq := rfl
@[simp] theorem State.setWent_ltr (s : State) (i : Nat) (x : WEntry) : (s.setWent i x).ltr = s.ltr := rfl
@[simp] theorem State.setWent_perst (s : State) (i : Nat) (x : WEntry) : (s.setWent i x).perst = s.perst := rfl
@[simp] theorem State.setWent_linkMax (s : State) (i : Nat) (x : WEntry) : (s.setWent i x).linkMax = s.linkMax := rfl
@[simp] theorem State.setWent_kpllOut (s : State) (i : Nat) (x : WEntry) : (s.setWent i x).kpllOut = s.kpllOut := rfl
@[simp] theorem State.setWent_punits (s : State) (i : Nat) (x : WEntry) : (s.setWent i x).punits = s.punits := rfl
@[simp] theorem State.setWent_yard (s : State) (i : Nat) (x : WEntry) : (s.setWent i x).yard = s.yard := rfl
@[simp] theorem State.setWent_quietLo (s : State) (i : Nat) (x : WEntry) : (s.setWent i x).quietLo = s.quietLo := rfl
@[simp] theorem State.setWent_heldLeg (s : State) (i : Nat) (x : WEntry) : (s.setWent i x).heldLeg = s.heldLeg := rfl
@[simp] theorem State.setWent_heldAcc (s : State) (i : Nat) (x : WEntry) : (s.setWent i x).heldAcc = s.heldAcc := rfl
@[simp] theorem State.setWent_supply (s : State) (i : Nat) (x : WEntry) : (s.setWent i x).supply = s.supply := rfl
@[simp] theorem State.setWent_frst (s : State) (i : Nat) (x : WEntry) : (s.setWent i x).frst = s.frst := rfl
@[simp] theorem State.setWent_frstAt (s : State) (i : Nat) (x : WEntry) : (s.setWent i x).frstAt = s.frstAt := rfl
@[simp] theorem State.setWent_cpll (s : State) (i : Nat) (x : WEntry) : (s.setWent i x).cpll = s.cpll := rfl
@[simp] theorem State.setWent_kpll (s : State) (i : Nat) (x : WEntry) : (s.setWent i x).kpll = s.kpll := rfl
@[simp] theorem State.setWent_kpllAon (s : State) (i : Nat) (x : WEntry) : (s.setWent i x).kpllAon = s.kpllAon := rfl
@[simp] theorem State.setWent_clkret (s : State) (i : Nat) (x : WEntry) : (s.setWent i x).clkret = s.clkret := rfl
@[simp] theorem State.setWent_tracer (s : State) (i : Nat) (x : WEntry) : (s.setWent i x).tracer = s.tracer := rfl
@[simp] theorem State.setWent_pinCh (s : State) (i : Nat) (x : WEntry) : (s.setWent i x).pinCh = s.pinCh := rfl
@[simp] theorem State.setWent_pinAt (s : State) (i : Nat) (x : WEntry) : (s.setWent i x).pinAt = s.pinAt := rfl
@[simp] theorem State.setWent_strapLock (s : State) (i : Nat) (x : WEntry) : (s.setWent i x).strapLock = s.strapLock := rfl
@[simp] theorem State.setWent_tap (s : State) (i : Nat) (x : WEntry) : (s.setWent i x).tap = s.tap := rfl
@[simp] theorem State.setWent_dbgRun (s : State) (i : Nat) (x : WEntry) : (s.setWent i x).dbgRun = s.dbgRun := rfl

/-! ## State.setEng -/

@[simp] theorem State.setEng_pending (s : State) (e : Nat) (x : Engine) : (s.setEng e x).pending = s.pending := rfl
@[simp] theorem State.setEng_et (s : State) (e : Nat) (x : Engine) : (s.setEng e x).et = s.et := rfl
@[simp] theorem State.setEng_dt0 (s : State) (e : Nat) (x : Engine) : (s.setEng e x).dt0 = s.dt0 := rfl
@[simp] theorem State.setEng_pace (s : State) (e : Nat) (x : Engine) : (s.setEng e x).pace = s.pace := rfl
@[simp] theorem State.setEng_fv (s : State) (e : Nat) (x : Engine) : (s.setEng e x).fv = s.fv := rfl
@[simp] theorem State.setEng_regs (s : State) (e : Nat) (x : Engine) : (s.setEng e x).regs = s.regs := rfl
@[simp] theorem State.setEng_raised (s : State) (e : Nat) (x : Engine) : (s.setEng e x).raised = s.raised := rfl
@[simp] theorem State.setEng_logs (s : State) (e : Nat) (x : Engine) : (s.setEng e x).logs = s.logs := rfl
@[simp] theorem State.setEng_wlNow (s : State) (e : Nat) (x : Engine) : (s.setEng e x).wlNow = s.wlNow := rfl
@[simp] theorem State.setEng_prkCyc (s : State) (e : Nat) (x : Engine) : (s.setEng e x).prkCyc = s.prkCyc := rfl
@[simp] theorem State.setEng_out (s : State) (e : Nat) (x : Engine) : (s.setEng e x).out = s.out := rfl
@[simp] theorem State.setEng_munits (s : State) (e : Nat) (x : Engine) : (s.setEng e x).munits = s.munits := rfl
@[simp] theorem State.setEng_mroles (s : State) (e : Nat) (x : Engine) : (s.setEng e x).mroles = s.mroles := rfl
@[simp] theorem State.setEng_minputs (s : State) (e : Nat) (x : Engine) : (s.setEng e x).minputs = s.minputs := rfl
@[simp] theorem State.setEng_mtiles (s : State) (e : Nat) (x : Engine) : (s.setEng e x).mtiles = s.mtiles := rfl
@[simp] theorem State.setEng_mcs (s : State) (e : Nat) (x : Engine) : (s.setEng e x).mcs = s.mcs := rfl
@[simp] theorem State.setEng_xcFails (s : State) (e : Nat) (x : Engine) : (s.setEng e x).xcFails = s.xcFails := rfl
@[simp] theorem State.setEng_xcLate (s : State) (e : Nat) (x : Engine) : (s.setEng e x).xcLate = s.xcLate := rfl
@[simp] theorem State.setEng_streams (s : State) (e : Nat) (x : Engine) : (s.setEng e x).streams = s.streams := rfl
@[simp] theorem State.setEng_capUsed (s : State) (e : Nat) (x : Engine) : (s.setEng e x).capUsed = s.capUsed := rfl
@[simp] theorem State.setEng_cap (s : State) (e : Nat) (x : Engine) : (s.setEng e x).cap = s.cap := rfl
@[simp] theorem State.setEng_committed (s : State) (e : Nat) (x : Engine) : (s.setEng e x).committed = s.committed := rfl
@[simp] theorem State.setEng_fns (s : State) (e : Nat) (x : Engine) : (s.setEng e x).fns = s.fns := rfl
@[simp] theorem State.setEng_ecUsed (s : State) (e : Nat) (x : Engine) : (s.setEng e x).ecUsed = s.ecUsed := rfl
@[simp] theorem State.setEng_srcSeen (s : State) (e : Nat) (x : Engine) : (s.setEng e x).srcSeen = s.srcSeen := rfl
@[simp] theorem State.setEng_flight (s : State) (e : Nat) (x : Engine) : (s.setEng e x).flight = s.flight := rfl
@[simp] theorem State.setEng_slotsUsed (s : State) (e : Nat) (x : Engine) : (s.setEng e x).slotsUsed = s.slotsUsed := rfl
@[simp] theorem State.setEng_lanesOn (s : State) (e : Nat) (x : Engine) : (s.setEng e x).lanesOn = s.lanesOn := rfl
@[simp] theorem State.setEng_laneIn (s : State) (e : Nat) (x : Engine) : (s.setEng e x).laneIn = s.laneIn := rfl
@[simp] theorem State.setEng_legs (s : State) (e : Nat) (x : Engine) : (s.setEng e x).legs = s.legs := rfl
@[simp] theorem State.setEng_posts (s : State) (e : Nat) (x : Engine) : (s.setEng e x).posts = s.posts := rfl
@[simp] theorem State.setEng_laneReqs (s : State) (e : Nat) (x : Engine) : (s.setEng e x).laneReqs = s.laneReqs := rfl
@[simp] theorem State.setEng_step12 (s : State) (e : Nat) (x : Engine) : (s.setEng e x).step12 = s.step12 := rfl
@[simp] theorem State.setEng_trigs (s : State) (e : Nat) (x : Engine) : (s.setEng e x).trigs = s.trigs := rfl
@[simp] theorem State.setEng_ltiles (s : State) (e : Nat) (x : Engine) : (s.setEng e x).ltiles = s.ltiles := rfl
@[simp] theorem State.setEng_xslots (s : State) (e : Nat) (x : Engine) : (s.setEng e x).xslots = s.xslots := rfl
@[simp] theorem State.setEng_plwAsked (s : State) (e : Nat) (x : Engine) : (s.setEng e x).plwAsked = s.plwAsked := rfl
@[simp] theorem State.setEng_badCw (s : State) (e : Nat) (x : Engine) : (s.setEng e x).badCw = s.badCw := rfl
@[simp] theorem State.setEng_timers (s : State) (e : Nat) (x : Engine) : (s.setEng e x).timers = s.timers := rfl
@[simp] theorem State.setEng_pinEdges (s : State) (e : Nat) (x : Engine) : (s.setEng e x).pinEdges = s.pinEdges := rfl
@[simp] theorem State.setEng_shadows (s : State) (e : Nat) (x : Engine) : (s.setEng e x).shadows = s.shadows := rfl
@[simp] theorem State.setEng_dtSeen (s : State) (e : Nat) (x : Engine) : (s.setEng e x).dtSeen = s.dtSeen := rfl
@[simp] theorem State.setEng_cores (s : State) (e : Nat) (x : Engine) : (s.setEng e x).cores = s.cores := rfl
@[simp] theorem State.setEng_tcm (s : State) (e : Nat) (x : Engine) : (s.setEng e x).tcm = s.tcm := rfl
@[simp] theorem State.setEng_sram (s : State) (e : Nat) (x : Engine) : (s.setEng e x).sram = s.sram := rfl
@[simp] theorem State.setEng_bankKey (s : State) (e : Nat) (x : Engine) : (s.setEng e x).bankKey = s.bankKey := rfl
@[simp] theorem State.setEng_bankFree (s : State) (e : Nat) (x : Engine) : (s.setEng e x).bankFree = s.bankFree := rfl
@[simp] theorem State.setEng_bankWait (s : State) (e : Nat) (x : Engine) : (s.setEng e x).bankWait = s.bankWait := rfl
@[simp] theorem State.setEng_wtab (s : State) (e : Nat) (x : Engine) : (s.setEng e x).wtab = s.wtab := rfl
@[simp] theorem State.setEng_wgen (s : State) (e : Nat) (x : Engine) : (s.setEng e x).wgen = s.wgen := rfl
@[simp] theorem State.setEng_wkey (s : State) (e : Nat) (x : Engine) : (s.setEng e x).wkey = s.wkey := rfl
@[simp] theorem State.setEng_wrtFree (s : State) (e : Nat) (x : Engine) : (s.setEng e x).wrtFree = s.wrtFree := rfl
@[simp] theorem State.setEng_bindLo (s : State) (e : Nat) (x : Engine) : (s.setEng e x).bindLo = s.bindLo := rfl
@[simp] theorem State.setEng_nvm (s : State) (e : Nat) (x : Engine) : (s.setEng e x).nvm = s.nvm := rfl
@[simp] theorem State.setEng_gated (s : State) (e : Nat) (x : Engine) : (s.setEng e x).gated = s.gated := rfl
@[simp] theorem State.setEng_nv (s : State) (e : Nat) (x : Engine) : (s.setEng e x).nv = s.nv := rfl
@[simp] theorem State.setEng_nvOp (s : State) (e : Nat) (x : Engine) : (s.setEng e x).nvOp = s.nvOp := rfl
@[simp] theorem State.setEng_prkOp (s : State) (e : Nat) (x : Engine) : (s.setEng e x).prkOp = s.prkOp := rfl
@[simp] theorem State.setEng_plwRun (s : State) (e : Nat) (x : Engine) : (s.setEng e x).plwRun = s.plwRun := rfl
@[simp] theorem State.setEng_place (s : State) (e : Nat) (x : Engine) : (s.setEng e x).place = s.place := rfl
@[simp] theorem State.setEng_patch (s : State) (e : Nat) (x : Engine) : (s.setEng e x).patch = s.patch := rfl
@[simp] theorem State.setEng_patchLeft (s : State) (e : Nat) (x : Engine) : (s.setEng e x).patchLeft = s.patchLeft := rfl
@[simp] theorem State.setEng_bootEnded (s : State) (e : Nat) (x : Engine) : (s.setEng e x).bootEnded = s.bootEnded := rfl
@[simp] theorem State.setEng_loop (s : State) (e : Nat) (x : Engine) : (s.setEng e x).loop = s.loop := rfl
@[simp] theorem State.setEng_linksUp (s : State) (e : Nat) (x : Engine) : (s.setEng e x).linksUp = s.linksUp := rfl
@[simp] theorem State.setEng_hostSeats (s : State) (e : Nat) (x : Engine) : (s.setEng e x).hostSeats = s.hostSeats := rfl
@[simp] theorem State.setEng_dmas (s : State) (e : Nat) (x : Engine) : (s.setEng e x).dmas = s.dmas := rfl
@[simp] theorem State.setEng_mutes (s : State) (e : Nat) (x : Engine) : (s.setEng e x).mutes = s.mutes := rfl
@[simp] theorem State.setEng_ecWin (s : State) (e : Nat) (x : Engine) : (s.setEng e x).ecWin = s.ecWin := rfl
@[simp] theorem State.setEng_pfilt (s : State) (e : Nat) (x : Engine) : (s.setEng e x).pfilt = s.pfilt := rfl
@[simp] theorem State.setEng_bplan (s : State) (e : Nat) (x : Engine) : (s.setEng e x).bplan = s.bplan := rfl
@[simp] theorem State.setEng_bports (s : State) (e : Nat) (x : Engine) : (s.setEng e x).bports = s.bports := rfl
@[simp] theorem State.setEng_aligned (s : State) (e : Nat) (x : Engine) : (s.setEng e x).aligned = s.aligned := rfl
@[simp] theorem State.setEng_ringItems (s : State) (e : Nat) (x : Engine) : (s.setEng e x).ringItems = s.ringItems := rfl
@[simp] theorem State.setEng_ringLast (s : State) (e : Nat) (x : Engine) : (s.setEng e x).ringLast = s.ringLast := rfl
@[simp] theorem State.setEng_gItems (s : State) (e : Nat) (x : Engine) : (s.setEng e x).gItems = s.gItems := rfl
@[simp] theorem State.setEng_outq (s : State) (e : Nat) (x : Engine) : (s.setEng e x).outq = s.outq := rfl
@[simp] theorem State.setEng_ltr (s : State) (e : Nat) (x : Engine) : (s.setEng e x).ltr = s.ltr := rfl
@[simp] theorem State.setEng_perst (s : State) (e : Nat) (x : Engine) : (s.setEng e x).perst = s.perst := rfl
@[simp] theorem State.setEng_linkMax (s : State) (e : Nat) (x : Engine) : (s.setEng e x).linkMax = s.linkMax := rfl
@[simp] theorem State.setEng_kpllOut (s : State) (e : Nat) (x : Engine) : (s.setEng e x).kpllOut = s.kpllOut := rfl
@[simp] theorem State.setEng_punits (s : State) (e : Nat) (x : Engine) : (s.setEng e x).punits = s.punits := rfl
@[simp] theorem State.setEng_yard (s : State) (e : Nat) (x : Engine) : (s.setEng e x).yard = s.yard := rfl
@[simp] theorem State.setEng_quietLo (s : State) (e : Nat) (x : Engine) : (s.setEng e x).quietLo = s.quietLo := rfl
@[simp] theorem State.setEng_heldLeg (s : State) (e : Nat) (x : Engine) : (s.setEng e x).heldLeg = s.heldLeg := rfl
@[simp] theorem State.setEng_heldAcc (s : State) (e : Nat) (x : Engine) : (s.setEng e x).heldAcc = s.heldAcc := rfl
@[simp] theorem State.setEng_supply (s : State) (e : Nat) (x : Engine) : (s.setEng e x).supply = s.supply := rfl
@[simp] theorem State.setEng_frst (s : State) (e : Nat) (x : Engine) : (s.setEng e x).frst = s.frst := rfl
@[simp] theorem State.setEng_frstAt (s : State) (e : Nat) (x : Engine) : (s.setEng e x).frstAt = s.frstAt := rfl
@[simp] theorem State.setEng_cpll (s : State) (e : Nat) (x : Engine) : (s.setEng e x).cpll = s.cpll := rfl
@[simp] theorem State.setEng_kpll (s : State) (e : Nat) (x : Engine) : (s.setEng e x).kpll = s.kpll := rfl
@[simp] theorem State.setEng_kpllAon (s : State) (e : Nat) (x : Engine) : (s.setEng e x).kpllAon = s.kpllAon := rfl
@[simp] theorem State.setEng_clkret (s : State) (e : Nat) (x : Engine) : (s.setEng e x).clkret = s.clkret := rfl
@[simp] theorem State.setEng_tracer (s : State) (e : Nat) (x : Engine) : (s.setEng e x).tracer = s.tracer := rfl
@[simp] theorem State.setEng_pinCh (s : State) (e : Nat) (x : Engine) : (s.setEng e x).pinCh = s.pinCh := rfl
@[simp] theorem State.setEng_pinAt (s : State) (e : Nat) (x : Engine) : (s.setEng e x).pinAt = s.pinAt := rfl
@[simp] theorem State.setEng_strapLock (s : State) (e : Nat) (x : Engine) : (s.setEng e x).strapLock = s.strapLock := rfl
@[simp] theorem State.setEng_tap (s : State) (e : Nat) (x : Engine) : (s.setEng e x).tap = s.tap := rfl
@[simp] theorem State.setEng_dbgRun (s : State) (e : Nat) (x : Engine) : (s.setEng e x).dbgRun = s.dbgRun := rfl

/-! ## State.setLtile -/

@[simp] theorem State.setLtile_pending (s : State) (t : Nat) (x : LeTile) : (s.setLtile t x).pending = s.pending := rfl
@[simp] theorem State.setLtile_et (s : State) (t : Nat) (x : LeTile) : (s.setLtile t x).et = s.et := rfl
@[simp] theorem State.setLtile_dt0 (s : State) (t : Nat) (x : LeTile) : (s.setLtile t x).dt0 = s.dt0 := rfl
@[simp] theorem State.setLtile_pace (s : State) (t : Nat) (x : LeTile) : (s.setLtile t x).pace = s.pace := rfl
@[simp] theorem State.setLtile_fv (s : State) (t : Nat) (x : LeTile) : (s.setLtile t x).fv = s.fv := rfl
@[simp] theorem State.setLtile_regs (s : State) (t : Nat) (x : LeTile) : (s.setLtile t x).regs = s.regs := rfl
@[simp] theorem State.setLtile_raised (s : State) (t : Nat) (x : LeTile) : (s.setLtile t x).raised = s.raised := rfl
@[simp] theorem State.setLtile_logs (s : State) (t : Nat) (x : LeTile) : (s.setLtile t x).logs = s.logs := rfl
@[simp] theorem State.setLtile_wlNow (s : State) (t : Nat) (x : LeTile) : (s.setLtile t x).wlNow = s.wlNow := rfl
@[simp] theorem State.setLtile_prkCyc (s : State) (t : Nat) (x : LeTile) : (s.setLtile t x).prkCyc = s.prkCyc := rfl
@[simp] theorem State.setLtile_out (s : State) (t : Nat) (x : LeTile) : (s.setLtile t x).out = s.out := rfl
@[simp] theorem State.setLtile_munits (s : State) (t : Nat) (x : LeTile) : (s.setLtile t x).munits = s.munits := rfl
@[simp] theorem State.setLtile_mroles (s : State) (t : Nat) (x : LeTile) : (s.setLtile t x).mroles = s.mroles := rfl
@[simp] theorem State.setLtile_minputs (s : State) (t : Nat) (x : LeTile) : (s.setLtile t x).minputs = s.minputs := rfl
@[simp] theorem State.setLtile_mtiles (s : State) (t : Nat) (x : LeTile) : (s.setLtile t x).mtiles = s.mtiles := rfl
@[simp] theorem State.setLtile_mcs (s : State) (t : Nat) (x : LeTile) : (s.setLtile t x).mcs = s.mcs := rfl
@[simp] theorem State.setLtile_xcFails (s : State) (t : Nat) (x : LeTile) : (s.setLtile t x).xcFails = s.xcFails := rfl
@[simp] theorem State.setLtile_xcLate (s : State) (t : Nat) (x : LeTile) : (s.setLtile t x).xcLate = s.xcLate := rfl
@[simp] theorem State.setLtile_streams (s : State) (t : Nat) (x : LeTile) : (s.setLtile t x).streams = s.streams := rfl
@[simp] theorem State.setLtile_capUsed (s : State) (t : Nat) (x : LeTile) : (s.setLtile t x).capUsed = s.capUsed := rfl
@[simp] theorem State.setLtile_cap (s : State) (t : Nat) (x : LeTile) : (s.setLtile t x).cap = s.cap := rfl
@[simp] theorem State.setLtile_committed (s : State) (t : Nat) (x : LeTile) : (s.setLtile t x).committed = s.committed := rfl
@[simp] theorem State.setLtile_fns (s : State) (t : Nat) (x : LeTile) : (s.setLtile t x).fns = s.fns := rfl
@[simp] theorem State.setLtile_ecUsed (s : State) (t : Nat) (x : LeTile) : (s.setLtile t x).ecUsed = s.ecUsed := rfl
@[simp] theorem State.setLtile_srcSeen (s : State) (t : Nat) (x : LeTile) : (s.setLtile t x).srcSeen = s.srcSeen := rfl
@[simp] theorem State.setLtile_flight (s : State) (t : Nat) (x : LeTile) : (s.setLtile t x).flight = s.flight := rfl
@[simp] theorem State.setLtile_slotsUsed (s : State) (t : Nat) (x : LeTile) : (s.setLtile t x).slotsUsed = s.slotsUsed := rfl
@[simp] theorem State.setLtile_lanesOn (s : State) (t : Nat) (x : LeTile) : (s.setLtile t x).lanesOn = s.lanesOn := rfl
@[simp] theorem State.setLtile_laneIn (s : State) (t : Nat) (x : LeTile) : (s.setLtile t x).laneIn = s.laneIn := rfl
@[simp] theorem State.setLtile_legs (s : State) (t : Nat) (x : LeTile) : (s.setLtile t x).legs = s.legs := rfl
@[simp] theorem State.setLtile_posts (s : State) (t : Nat) (x : LeTile) : (s.setLtile t x).posts = s.posts := rfl
@[simp] theorem State.setLtile_laneReqs (s : State) (t : Nat) (x : LeTile) : (s.setLtile t x).laneReqs = s.laneReqs := rfl
@[simp] theorem State.setLtile_step12 (s : State) (t : Nat) (x : LeTile) : (s.setLtile t x).step12 = s.step12 := rfl
@[simp] theorem State.setLtile_trigs (s : State) (t : Nat) (x : LeTile) : (s.setLtile t x).trigs = s.trigs := rfl
@[simp] theorem State.setLtile_engs (s : State) (t : Nat) (x : LeTile) : (s.setLtile t x).engs = s.engs := rfl
@[simp] theorem State.setLtile_xslots (s : State) (t : Nat) (x : LeTile) : (s.setLtile t x).xslots = s.xslots := rfl
@[simp] theorem State.setLtile_plwAsked (s : State) (t : Nat) (x : LeTile) : (s.setLtile t x).plwAsked = s.plwAsked := rfl
@[simp] theorem State.setLtile_badCw (s : State) (t : Nat) (x : LeTile) : (s.setLtile t x).badCw = s.badCw := rfl
@[simp] theorem State.setLtile_timers (s : State) (t : Nat) (x : LeTile) : (s.setLtile t x).timers = s.timers := rfl
@[simp] theorem State.setLtile_pinEdges (s : State) (t : Nat) (x : LeTile) : (s.setLtile t x).pinEdges = s.pinEdges := rfl
@[simp] theorem State.setLtile_shadows (s : State) (t : Nat) (x : LeTile) : (s.setLtile t x).shadows = s.shadows := rfl
@[simp] theorem State.setLtile_dtSeen (s : State) (t : Nat) (x : LeTile) : (s.setLtile t x).dtSeen = s.dtSeen := rfl
@[simp] theorem State.setLtile_cores (s : State) (t : Nat) (x : LeTile) : (s.setLtile t x).cores = s.cores := rfl
@[simp] theorem State.setLtile_tcm (s : State) (t : Nat) (x : LeTile) : (s.setLtile t x).tcm = s.tcm := rfl
@[simp] theorem State.setLtile_sram (s : State) (t : Nat) (x : LeTile) : (s.setLtile t x).sram = s.sram := rfl
@[simp] theorem State.setLtile_bankKey (s : State) (t : Nat) (x : LeTile) : (s.setLtile t x).bankKey = s.bankKey := rfl
@[simp] theorem State.setLtile_bankFree (s : State) (t : Nat) (x : LeTile) : (s.setLtile t x).bankFree = s.bankFree := rfl
@[simp] theorem State.setLtile_bankWait (s : State) (t : Nat) (x : LeTile) : (s.setLtile t x).bankWait = s.bankWait := rfl
@[simp] theorem State.setLtile_wtab (s : State) (t : Nat) (x : LeTile) : (s.setLtile t x).wtab = s.wtab := rfl
@[simp] theorem State.setLtile_wgen (s : State) (t : Nat) (x : LeTile) : (s.setLtile t x).wgen = s.wgen := rfl
@[simp] theorem State.setLtile_wkey (s : State) (t : Nat) (x : LeTile) : (s.setLtile t x).wkey = s.wkey := rfl
@[simp] theorem State.setLtile_wrtFree (s : State) (t : Nat) (x : LeTile) : (s.setLtile t x).wrtFree = s.wrtFree := rfl
@[simp] theorem State.setLtile_bindLo (s : State) (t : Nat) (x : LeTile) : (s.setLtile t x).bindLo = s.bindLo := rfl
@[simp] theorem State.setLtile_nvm (s : State) (t : Nat) (x : LeTile) : (s.setLtile t x).nvm = s.nvm := rfl
@[simp] theorem State.setLtile_gated (s : State) (t : Nat) (x : LeTile) : (s.setLtile t x).gated = s.gated := rfl
@[simp] theorem State.setLtile_nv (s : State) (t : Nat) (x : LeTile) : (s.setLtile t x).nv = s.nv := rfl
@[simp] theorem State.setLtile_nvOp (s : State) (t : Nat) (x : LeTile) : (s.setLtile t x).nvOp = s.nvOp := rfl
@[simp] theorem State.setLtile_prkOp (s : State) (t : Nat) (x : LeTile) : (s.setLtile t x).prkOp = s.prkOp := rfl
@[simp] theorem State.setLtile_plwRun (s : State) (t : Nat) (x : LeTile) : (s.setLtile t x).plwRun = s.plwRun := rfl
@[simp] theorem State.setLtile_place (s : State) (t : Nat) (x : LeTile) : (s.setLtile t x).place = s.place := rfl
@[simp] theorem State.setLtile_patch (s : State) (t : Nat) (x : LeTile) : (s.setLtile t x).patch = s.patch := rfl
@[simp] theorem State.setLtile_patchLeft (s : State) (t : Nat) (x : LeTile) : (s.setLtile t x).patchLeft = s.patchLeft := rfl
@[simp] theorem State.setLtile_bootEnded (s : State) (t : Nat) (x : LeTile) : (s.setLtile t x).bootEnded = s.bootEnded := rfl
@[simp] theorem State.setLtile_loop (s : State) (t : Nat) (x : LeTile) : (s.setLtile t x).loop = s.loop := rfl
@[simp] theorem State.setLtile_linksUp (s : State) (t : Nat) (x : LeTile) : (s.setLtile t x).linksUp = s.linksUp := rfl
@[simp] theorem State.setLtile_hostSeats (s : State) (t : Nat) (x : LeTile) : (s.setLtile t x).hostSeats = s.hostSeats := rfl
@[simp] theorem State.setLtile_dmas (s : State) (t : Nat) (x : LeTile) : (s.setLtile t x).dmas = s.dmas := rfl
@[simp] theorem State.setLtile_mutes (s : State) (t : Nat) (x : LeTile) : (s.setLtile t x).mutes = s.mutes := rfl
@[simp] theorem State.setLtile_ecWin (s : State) (t : Nat) (x : LeTile) : (s.setLtile t x).ecWin = s.ecWin := rfl
@[simp] theorem State.setLtile_pfilt (s : State) (t : Nat) (x : LeTile) : (s.setLtile t x).pfilt = s.pfilt := rfl
@[simp] theorem State.setLtile_bplan (s : State) (t : Nat) (x : LeTile) : (s.setLtile t x).bplan = s.bplan := rfl
@[simp] theorem State.setLtile_bports (s : State) (t : Nat) (x : LeTile) : (s.setLtile t x).bports = s.bports := rfl
@[simp] theorem State.setLtile_aligned (s : State) (t : Nat) (x : LeTile) : (s.setLtile t x).aligned = s.aligned := rfl
@[simp] theorem State.setLtile_ringItems (s : State) (t : Nat) (x : LeTile) : (s.setLtile t x).ringItems = s.ringItems := rfl
@[simp] theorem State.setLtile_ringLast (s : State) (t : Nat) (x : LeTile) : (s.setLtile t x).ringLast = s.ringLast := rfl
@[simp] theorem State.setLtile_gItems (s : State) (t : Nat) (x : LeTile) : (s.setLtile t x).gItems = s.gItems := rfl
@[simp] theorem State.setLtile_outq (s : State) (t : Nat) (x : LeTile) : (s.setLtile t x).outq = s.outq := rfl
@[simp] theorem State.setLtile_ltr (s : State) (t : Nat) (x : LeTile) : (s.setLtile t x).ltr = s.ltr := rfl
@[simp] theorem State.setLtile_perst (s : State) (t : Nat) (x : LeTile) : (s.setLtile t x).perst = s.perst := rfl
@[simp] theorem State.setLtile_linkMax (s : State) (t : Nat) (x : LeTile) : (s.setLtile t x).linkMax = s.linkMax := rfl
@[simp] theorem State.setLtile_kpllOut (s : State) (t : Nat) (x : LeTile) : (s.setLtile t x).kpllOut = s.kpllOut := rfl
@[simp] theorem State.setLtile_punits (s : State) (t : Nat) (x : LeTile) : (s.setLtile t x).punits = s.punits := rfl
@[simp] theorem State.setLtile_yard (s : State) (t : Nat) (x : LeTile) : (s.setLtile t x).yard = s.yard := rfl
@[simp] theorem State.setLtile_quietLo (s : State) (t : Nat) (x : LeTile) : (s.setLtile t x).quietLo = s.quietLo := rfl
@[simp] theorem State.setLtile_heldLeg (s : State) (t : Nat) (x : LeTile) : (s.setLtile t x).heldLeg = s.heldLeg := rfl
@[simp] theorem State.setLtile_heldAcc (s : State) (t : Nat) (x : LeTile) : (s.setLtile t x).heldAcc = s.heldAcc := rfl
@[simp] theorem State.setLtile_supply (s : State) (t : Nat) (x : LeTile) : (s.setLtile t x).supply = s.supply := rfl
@[simp] theorem State.setLtile_frst (s : State) (t : Nat) (x : LeTile) : (s.setLtile t x).frst = s.frst := rfl
@[simp] theorem State.setLtile_frstAt (s : State) (t : Nat) (x : LeTile) : (s.setLtile t x).frstAt = s.frstAt := rfl
@[simp] theorem State.setLtile_cpll (s : State) (t : Nat) (x : LeTile) : (s.setLtile t x).cpll = s.cpll := rfl
@[simp] theorem State.setLtile_kpll (s : State) (t : Nat) (x : LeTile) : (s.setLtile t x).kpll = s.kpll := rfl
@[simp] theorem State.setLtile_kpllAon (s : State) (t : Nat) (x : LeTile) : (s.setLtile t x).kpllAon = s.kpllAon := rfl
@[simp] theorem State.setLtile_clkret (s : State) (t : Nat) (x : LeTile) : (s.setLtile t x).clkret = s.clkret := rfl
@[simp] theorem State.setLtile_tracer (s : State) (t : Nat) (x : LeTile) : (s.setLtile t x).tracer = s.tracer := rfl
@[simp] theorem State.setLtile_pinCh (s : State) (t : Nat) (x : LeTile) : (s.setLtile t x).pinCh = s.pinCh := rfl
@[simp] theorem State.setLtile_pinAt (s : State) (t : Nat) (x : LeTile) : (s.setLtile t x).pinAt = s.pinAt := rfl
@[simp] theorem State.setLtile_strapLock (s : State) (t : Nat) (x : LeTile) : (s.setLtile t x).strapLock = s.strapLock := rfl
@[simp] theorem State.setLtile_tap (s : State) (t : Nat) (x : LeTile) : (s.setLtile t x).tap = s.tap := rfl
@[simp] theorem State.setLtile_dbgRun (s : State) (t : Nat) (x : LeTile) : (s.setLtile t x).dbgRun = s.dbgRun := rfl

/-! ## State.setLeg -/

@[simp] theorem State.setLeg_pending (s : State) (k : Nat) (x : Leg) : (s.setLeg k x).pending = s.pending := rfl
@[simp] theorem State.setLeg_et (s : State) (k : Nat) (x : Leg) : (s.setLeg k x).et = s.et := rfl
@[simp] theorem State.setLeg_dt0 (s : State) (k : Nat) (x : Leg) : (s.setLeg k x).dt0 = s.dt0 := rfl
@[simp] theorem State.setLeg_pace (s : State) (k : Nat) (x : Leg) : (s.setLeg k x).pace = s.pace := rfl
@[simp] theorem State.setLeg_fv (s : State) (k : Nat) (x : Leg) : (s.setLeg k x).fv = s.fv := rfl
@[simp] theorem State.setLeg_regs (s : State) (k : Nat) (x : Leg) : (s.setLeg k x).regs = s.regs := rfl
@[simp] theorem State.setLeg_raised (s : State) (k : Nat) (x : Leg) : (s.setLeg k x).raised = s.raised := rfl
@[simp] theorem State.setLeg_logs (s : State) (k : Nat) (x : Leg) : (s.setLeg k x).logs = s.logs := rfl
@[simp] theorem State.setLeg_wlNow (s : State) (k : Nat) (x : Leg) : (s.setLeg k x).wlNow = s.wlNow := rfl
@[simp] theorem State.setLeg_prkCyc (s : State) (k : Nat) (x : Leg) : (s.setLeg k x).prkCyc = s.prkCyc := rfl
@[simp] theorem State.setLeg_out (s : State) (k : Nat) (x : Leg) : (s.setLeg k x).out = s.out := rfl
@[simp] theorem State.setLeg_munits (s : State) (k : Nat) (x : Leg) : (s.setLeg k x).munits = s.munits := rfl
@[simp] theorem State.setLeg_mroles (s : State) (k : Nat) (x : Leg) : (s.setLeg k x).mroles = s.mroles := rfl
@[simp] theorem State.setLeg_minputs (s : State) (k : Nat) (x : Leg) : (s.setLeg k x).minputs = s.minputs := rfl
@[simp] theorem State.setLeg_mtiles (s : State) (k : Nat) (x : Leg) : (s.setLeg k x).mtiles = s.mtiles := rfl
@[simp] theorem State.setLeg_mcs (s : State) (k : Nat) (x : Leg) : (s.setLeg k x).mcs = s.mcs := rfl
@[simp] theorem State.setLeg_xcFails (s : State) (k : Nat) (x : Leg) : (s.setLeg k x).xcFails = s.xcFails := rfl
@[simp] theorem State.setLeg_xcLate (s : State) (k : Nat) (x : Leg) : (s.setLeg k x).xcLate = s.xcLate := rfl
@[simp] theorem State.setLeg_streams (s : State) (k : Nat) (x : Leg) : (s.setLeg k x).streams = s.streams := rfl
@[simp] theorem State.setLeg_capUsed (s : State) (k : Nat) (x : Leg) : (s.setLeg k x).capUsed = s.capUsed := rfl
@[simp] theorem State.setLeg_cap (s : State) (k : Nat) (x : Leg) : (s.setLeg k x).cap = s.cap := rfl
@[simp] theorem State.setLeg_committed (s : State) (k : Nat) (x : Leg) : (s.setLeg k x).committed = s.committed := rfl
@[simp] theorem State.setLeg_fns (s : State) (k : Nat) (x : Leg) : (s.setLeg k x).fns = s.fns := rfl
@[simp] theorem State.setLeg_ecUsed (s : State) (k : Nat) (x : Leg) : (s.setLeg k x).ecUsed = s.ecUsed := rfl
@[simp] theorem State.setLeg_srcSeen (s : State) (k : Nat) (x : Leg) : (s.setLeg k x).srcSeen = s.srcSeen := rfl
@[simp] theorem State.setLeg_flight (s : State) (k : Nat) (x : Leg) : (s.setLeg k x).flight = s.flight := rfl
@[simp] theorem State.setLeg_slotsUsed (s : State) (k : Nat) (x : Leg) : (s.setLeg k x).slotsUsed = s.slotsUsed := rfl
@[simp] theorem State.setLeg_lanesOn (s : State) (k : Nat) (x : Leg) : (s.setLeg k x).lanesOn = s.lanesOn := rfl
@[simp] theorem State.setLeg_laneIn (s : State) (k : Nat) (x : Leg) : (s.setLeg k x).laneIn = s.laneIn := rfl
@[simp] theorem State.setLeg_posts (s : State) (k : Nat) (x : Leg) : (s.setLeg k x).posts = s.posts := rfl
@[simp] theorem State.setLeg_laneReqs (s : State) (k : Nat) (x : Leg) : (s.setLeg k x).laneReqs = s.laneReqs := rfl
@[simp] theorem State.setLeg_step12 (s : State) (k : Nat) (x : Leg) : (s.setLeg k x).step12 = s.step12 := rfl
@[simp] theorem State.setLeg_trigs (s : State) (k : Nat) (x : Leg) : (s.setLeg k x).trigs = s.trigs := rfl
@[simp] theorem State.setLeg_engs (s : State) (k : Nat) (x : Leg) : (s.setLeg k x).engs = s.engs := rfl
@[simp] theorem State.setLeg_ltiles (s : State) (k : Nat) (x : Leg) : (s.setLeg k x).ltiles = s.ltiles := rfl
@[simp] theorem State.setLeg_xslots (s : State) (k : Nat) (x : Leg) : (s.setLeg k x).xslots = s.xslots := rfl
@[simp] theorem State.setLeg_plwAsked (s : State) (k : Nat) (x : Leg) : (s.setLeg k x).plwAsked = s.plwAsked := rfl
@[simp] theorem State.setLeg_badCw (s : State) (k : Nat) (x : Leg) : (s.setLeg k x).badCw = s.badCw := rfl
@[simp] theorem State.setLeg_timers (s : State) (k : Nat) (x : Leg) : (s.setLeg k x).timers = s.timers := rfl
@[simp] theorem State.setLeg_pinEdges (s : State) (k : Nat) (x : Leg) : (s.setLeg k x).pinEdges = s.pinEdges := rfl
@[simp] theorem State.setLeg_shadows (s : State) (k : Nat) (x : Leg) : (s.setLeg k x).shadows = s.shadows := rfl
@[simp] theorem State.setLeg_dtSeen (s : State) (k : Nat) (x : Leg) : (s.setLeg k x).dtSeen = s.dtSeen := rfl
@[simp] theorem State.setLeg_cores (s : State) (k : Nat) (x : Leg) : (s.setLeg k x).cores = s.cores := rfl
@[simp] theorem State.setLeg_tcm (s : State) (k : Nat) (x : Leg) : (s.setLeg k x).tcm = s.tcm := rfl
@[simp] theorem State.setLeg_sram (s : State) (k : Nat) (x : Leg) : (s.setLeg k x).sram = s.sram := rfl
@[simp] theorem State.setLeg_bankKey (s : State) (k : Nat) (x : Leg) : (s.setLeg k x).bankKey = s.bankKey := rfl
@[simp] theorem State.setLeg_bankFree (s : State) (k : Nat) (x : Leg) : (s.setLeg k x).bankFree = s.bankFree := rfl
@[simp] theorem State.setLeg_bankWait (s : State) (k : Nat) (x : Leg) : (s.setLeg k x).bankWait = s.bankWait := rfl
@[simp] theorem State.setLeg_wtab (s : State) (k : Nat) (x : Leg) : (s.setLeg k x).wtab = s.wtab := rfl
@[simp] theorem State.setLeg_wgen (s : State) (k : Nat) (x : Leg) : (s.setLeg k x).wgen = s.wgen := rfl
@[simp] theorem State.setLeg_wkey (s : State) (k : Nat) (x : Leg) : (s.setLeg k x).wkey = s.wkey := rfl
@[simp] theorem State.setLeg_wrtFree (s : State) (k : Nat) (x : Leg) : (s.setLeg k x).wrtFree = s.wrtFree := rfl
@[simp] theorem State.setLeg_bindLo (s : State) (k : Nat) (x : Leg) : (s.setLeg k x).bindLo = s.bindLo := rfl
@[simp] theorem State.setLeg_nvm (s : State) (k : Nat) (x : Leg) : (s.setLeg k x).nvm = s.nvm := rfl
@[simp] theorem State.setLeg_gated (s : State) (k : Nat) (x : Leg) : (s.setLeg k x).gated = s.gated := rfl
@[simp] theorem State.setLeg_nv (s : State) (k : Nat) (x : Leg) : (s.setLeg k x).nv = s.nv := rfl
@[simp] theorem State.setLeg_nvOp (s : State) (k : Nat) (x : Leg) : (s.setLeg k x).nvOp = s.nvOp := rfl
@[simp] theorem State.setLeg_prkOp (s : State) (k : Nat) (x : Leg) : (s.setLeg k x).prkOp = s.prkOp := rfl
@[simp] theorem State.setLeg_plwRun (s : State) (k : Nat) (x : Leg) : (s.setLeg k x).plwRun = s.plwRun := rfl
@[simp] theorem State.setLeg_place (s : State) (k : Nat) (x : Leg) : (s.setLeg k x).place = s.place := rfl
@[simp] theorem State.setLeg_patch (s : State) (k : Nat) (x : Leg) : (s.setLeg k x).patch = s.patch := rfl
@[simp] theorem State.setLeg_patchLeft (s : State) (k : Nat) (x : Leg) : (s.setLeg k x).patchLeft = s.patchLeft := rfl
@[simp] theorem State.setLeg_bootEnded (s : State) (k : Nat) (x : Leg) : (s.setLeg k x).bootEnded = s.bootEnded := rfl
@[simp] theorem State.setLeg_loop (s : State) (k : Nat) (x : Leg) : (s.setLeg k x).loop = s.loop := rfl
@[simp] theorem State.setLeg_linksUp (s : State) (k : Nat) (x : Leg) : (s.setLeg k x).linksUp = s.linksUp := rfl
@[simp] theorem State.setLeg_hostSeats (s : State) (k : Nat) (x : Leg) : (s.setLeg k x).hostSeats = s.hostSeats := rfl
@[simp] theorem State.setLeg_dmas (s : State) (k : Nat) (x : Leg) : (s.setLeg k x).dmas = s.dmas := rfl
@[simp] theorem State.setLeg_mutes (s : State) (k : Nat) (x : Leg) : (s.setLeg k x).mutes = s.mutes := rfl
@[simp] theorem State.setLeg_ecWin (s : State) (k : Nat) (x : Leg) : (s.setLeg k x).ecWin = s.ecWin := rfl
@[simp] theorem State.setLeg_pfilt (s : State) (k : Nat) (x : Leg) : (s.setLeg k x).pfilt = s.pfilt := rfl
@[simp] theorem State.setLeg_bplan (s : State) (k : Nat) (x : Leg) : (s.setLeg k x).bplan = s.bplan := rfl
@[simp] theorem State.setLeg_bports (s : State) (k : Nat) (x : Leg) : (s.setLeg k x).bports = s.bports := rfl
@[simp] theorem State.setLeg_aligned (s : State) (k : Nat) (x : Leg) : (s.setLeg k x).aligned = s.aligned := rfl
@[simp] theorem State.setLeg_ringItems (s : State) (k : Nat) (x : Leg) : (s.setLeg k x).ringItems = s.ringItems := rfl
@[simp] theorem State.setLeg_ringLast (s : State) (k : Nat) (x : Leg) : (s.setLeg k x).ringLast = s.ringLast := rfl
@[simp] theorem State.setLeg_gItems (s : State) (k : Nat) (x : Leg) : (s.setLeg k x).gItems = s.gItems := rfl
@[simp] theorem State.setLeg_outq (s : State) (k : Nat) (x : Leg) : (s.setLeg k x).outq = s.outq := rfl
@[simp] theorem State.setLeg_ltr (s : State) (k : Nat) (x : Leg) : (s.setLeg k x).ltr = s.ltr := rfl
@[simp] theorem State.setLeg_perst (s : State) (k : Nat) (x : Leg) : (s.setLeg k x).perst = s.perst := rfl
@[simp] theorem State.setLeg_linkMax (s : State) (k : Nat) (x : Leg) : (s.setLeg k x).linkMax = s.linkMax := rfl
@[simp] theorem State.setLeg_kpllOut (s : State) (k : Nat) (x : Leg) : (s.setLeg k x).kpllOut = s.kpllOut := rfl
@[simp] theorem State.setLeg_punits (s : State) (k : Nat) (x : Leg) : (s.setLeg k x).punits = s.punits := rfl
@[simp] theorem State.setLeg_yard (s : State) (k : Nat) (x : Leg) : (s.setLeg k x).yard = s.yard := rfl
@[simp] theorem State.setLeg_quietLo (s : State) (k : Nat) (x : Leg) : (s.setLeg k x).quietLo = s.quietLo := rfl
@[simp] theorem State.setLeg_heldLeg (s : State) (k : Nat) (x : Leg) : (s.setLeg k x).heldLeg = s.heldLeg := rfl
@[simp] theorem State.setLeg_heldAcc (s : State) (k : Nat) (x : Leg) : (s.setLeg k x).heldAcc = s.heldAcc := rfl
@[simp] theorem State.setLeg_supply (s : State) (k : Nat) (x : Leg) : (s.setLeg k x).supply = s.supply := rfl
@[simp] theorem State.setLeg_frst (s : State) (k : Nat) (x : Leg) : (s.setLeg k x).frst = s.frst := rfl
@[simp] theorem State.setLeg_frstAt (s : State) (k : Nat) (x : Leg) : (s.setLeg k x).frstAt = s.frstAt := rfl
@[simp] theorem State.setLeg_cpll (s : State) (k : Nat) (x : Leg) : (s.setLeg k x).cpll = s.cpll := rfl
@[simp] theorem State.setLeg_kpll (s : State) (k : Nat) (x : Leg) : (s.setLeg k x).kpll = s.kpll := rfl
@[simp] theorem State.setLeg_kpllAon (s : State) (k : Nat) (x : Leg) : (s.setLeg k x).kpllAon = s.kpllAon := rfl
@[simp] theorem State.setLeg_clkret (s : State) (k : Nat) (x : Leg) : (s.setLeg k x).clkret = s.clkret := rfl
@[simp] theorem State.setLeg_tracer (s : State) (k : Nat) (x : Leg) : (s.setLeg k x).tracer = s.tracer := rfl
@[simp] theorem State.setLeg_pinCh (s : State) (k : Nat) (x : Leg) : (s.setLeg k x).pinCh = s.pinCh := rfl
@[simp] theorem State.setLeg_pinAt (s : State) (k : Nat) (x : Leg) : (s.setLeg k x).pinAt = s.pinAt := rfl
@[simp] theorem State.setLeg_strapLock (s : State) (k : Nat) (x : Leg) : (s.setLeg k x).strapLock = s.strapLock := rfl
@[simp] theorem State.setLeg_tap (s : State) (k : Nat) (x : Leg) : (s.setLeg k x).tap = s.tap := rfl
@[simp] theorem State.setLeg_dbgRun (s : State) (k : Nat) (x : Leg) : (s.setLeg k x).dbgRun = s.dbgRun := rfl

/-! ## State.setTimer -/

@[simp] theorem State.setTimer_pending (s : State) (n : Nat) (x : Timer) : (s.setTimer n x).pending = s.pending := rfl
@[simp] theorem State.setTimer_et (s : State) (n : Nat) (x : Timer) : (s.setTimer n x).et = s.et := rfl
@[simp] theorem State.setTimer_dt0 (s : State) (n : Nat) (x : Timer) : (s.setTimer n x).dt0 = s.dt0 := rfl
@[simp] theorem State.setTimer_pace (s : State) (n : Nat) (x : Timer) : (s.setTimer n x).pace = s.pace := rfl
@[simp] theorem State.setTimer_fv (s : State) (n : Nat) (x : Timer) : (s.setTimer n x).fv = s.fv := rfl
@[simp] theorem State.setTimer_regs (s : State) (n : Nat) (x : Timer) : (s.setTimer n x).regs = s.regs := rfl
@[simp] theorem State.setTimer_raised (s : State) (n : Nat) (x : Timer) : (s.setTimer n x).raised = s.raised := rfl
@[simp] theorem State.setTimer_logs (s : State) (n : Nat) (x : Timer) : (s.setTimer n x).logs = s.logs := rfl
@[simp] theorem State.setTimer_wlNow (s : State) (n : Nat) (x : Timer) : (s.setTimer n x).wlNow = s.wlNow := rfl
@[simp] theorem State.setTimer_prkCyc (s : State) (n : Nat) (x : Timer) : (s.setTimer n x).prkCyc = s.prkCyc := rfl
@[simp] theorem State.setTimer_out (s : State) (n : Nat) (x : Timer) : (s.setTimer n x).out = s.out := rfl
@[simp] theorem State.setTimer_munits (s : State) (n : Nat) (x : Timer) : (s.setTimer n x).munits = s.munits := rfl
@[simp] theorem State.setTimer_mroles (s : State) (n : Nat) (x : Timer) : (s.setTimer n x).mroles = s.mroles := rfl
@[simp] theorem State.setTimer_minputs (s : State) (n : Nat) (x : Timer) : (s.setTimer n x).minputs = s.minputs := rfl
@[simp] theorem State.setTimer_mtiles (s : State) (n : Nat) (x : Timer) : (s.setTimer n x).mtiles = s.mtiles := rfl
@[simp] theorem State.setTimer_mcs (s : State) (n : Nat) (x : Timer) : (s.setTimer n x).mcs = s.mcs := rfl
@[simp] theorem State.setTimer_xcFails (s : State) (n : Nat) (x : Timer) : (s.setTimer n x).xcFails = s.xcFails := rfl
@[simp] theorem State.setTimer_xcLate (s : State) (n : Nat) (x : Timer) : (s.setTimer n x).xcLate = s.xcLate := rfl
@[simp] theorem State.setTimer_streams (s : State) (n : Nat) (x : Timer) : (s.setTimer n x).streams = s.streams := rfl
@[simp] theorem State.setTimer_capUsed (s : State) (n : Nat) (x : Timer) : (s.setTimer n x).capUsed = s.capUsed := rfl
@[simp] theorem State.setTimer_cap (s : State) (n : Nat) (x : Timer) : (s.setTimer n x).cap = s.cap := rfl
@[simp] theorem State.setTimer_committed (s : State) (n : Nat) (x : Timer) : (s.setTimer n x).committed = s.committed := rfl
@[simp] theorem State.setTimer_fns (s : State) (n : Nat) (x : Timer) : (s.setTimer n x).fns = s.fns := rfl
@[simp] theorem State.setTimer_ecUsed (s : State) (n : Nat) (x : Timer) : (s.setTimer n x).ecUsed = s.ecUsed := rfl
@[simp] theorem State.setTimer_srcSeen (s : State) (n : Nat) (x : Timer) : (s.setTimer n x).srcSeen = s.srcSeen := rfl
@[simp] theorem State.setTimer_flight (s : State) (n : Nat) (x : Timer) : (s.setTimer n x).flight = s.flight := rfl
@[simp] theorem State.setTimer_slotsUsed (s : State) (n : Nat) (x : Timer) : (s.setTimer n x).slotsUsed = s.slotsUsed := rfl
@[simp] theorem State.setTimer_lanesOn (s : State) (n : Nat) (x : Timer) : (s.setTimer n x).lanesOn = s.lanesOn := rfl
@[simp] theorem State.setTimer_laneIn (s : State) (n : Nat) (x : Timer) : (s.setTimer n x).laneIn = s.laneIn := rfl
@[simp] theorem State.setTimer_legs (s : State) (n : Nat) (x : Timer) : (s.setTimer n x).legs = s.legs := rfl
@[simp] theorem State.setTimer_posts (s : State) (n : Nat) (x : Timer) : (s.setTimer n x).posts = s.posts := rfl
@[simp] theorem State.setTimer_laneReqs (s : State) (n : Nat) (x : Timer) : (s.setTimer n x).laneReqs = s.laneReqs := rfl
@[simp] theorem State.setTimer_step12 (s : State) (n : Nat) (x : Timer) : (s.setTimer n x).step12 = s.step12 := rfl
@[simp] theorem State.setTimer_trigs (s : State) (n : Nat) (x : Timer) : (s.setTimer n x).trigs = s.trigs := rfl
@[simp] theorem State.setTimer_engs (s : State) (n : Nat) (x : Timer) : (s.setTimer n x).engs = s.engs := rfl
@[simp] theorem State.setTimer_ltiles (s : State) (n : Nat) (x : Timer) : (s.setTimer n x).ltiles = s.ltiles := rfl
@[simp] theorem State.setTimer_xslots (s : State) (n : Nat) (x : Timer) : (s.setTimer n x).xslots = s.xslots := rfl
@[simp] theorem State.setTimer_plwAsked (s : State) (n : Nat) (x : Timer) : (s.setTimer n x).plwAsked = s.plwAsked := rfl
@[simp] theorem State.setTimer_badCw (s : State) (n : Nat) (x : Timer) : (s.setTimer n x).badCw = s.badCw := rfl
@[simp] theorem State.setTimer_pinEdges (s : State) (n : Nat) (x : Timer) : (s.setTimer n x).pinEdges = s.pinEdges := rfl
@[simp] theorem State.setTimer_shadows (s : State) (n : Nat) (x : Timer) : (s.setTimer n x).shadows = s.shadows := rfl
@[simp] theorem State.setTimer_dtSeen (s : State) (n : Nat) (x : Timer) : (s.setTimer n x).dtSeen = s.dtSeen := rfl
@[simp] theorem State.setTimer_cores (s : State) (n : Nat) (x : Timer) : (s.setTimer n x).cores = s.cores := rfl
@[simp] theorem State.setTimer_tcm (s : State) (n : Nat) (x : Timer) : (s.setTimer n x).tcm = s.tcm := rfl
@[simp] theorem State.setTimer_sram (s : State) (n : Nat) (x : Timer) : (s.setTimer n x).sram = s.sram := rfl
@[simp] theorem State.setTimer_bankKey (s : State) (n : Nat) (x : Timer) : (s.setTimer n x).bankKey = s.bankKey := rfl
@[simp] theorem State.setTimer_bankFree (s : State) (n : Nat) (x : Timer) : (s.setTimer n x).bankFree = s.bankFree := rfl
@[simp] theorem State.setTimer_bankWait (s : State) (n : Nat) (x : Timer) : (s.setTimer n x).bankWait = s.bankWait := rfl
@[simp] theorem State.setTimer_wtab (s : State) (n : Nat) (x : Timer) : (s.setTimer n x).wtab = s.wtab := rfl
@[simp] theorem State.setTimer_wgen (s : State) (n : Nat) (x : Timer) : (s.setTimer n x).wgen = s.wgen := rfl
@[simp] theorem State.setTimer_wkey (s : State) (n : Nat) (x : Timer) : (s.setTimer n x).wkey = s.wkey := rfl
@[simp] theorem State.setTimer_wrtFree (s : State) (n : Nat) (x : Timer) : (s.setTimer n x).wrtFree = s.wrtFree := rfl
@[simp] theorem State.setTimer_bindLo (s : State) (n : Nat) (x : Timer) : (s.setTimer n x).bindLo = s.bindLo := rfl
@[simp] theorem State.setTimer_nvm (s : State) (n : Nat) (x : Timer) : (s.setTimer n x).nvm = s.nvm := rfl
@[simp] theorem State.setTimer_gated (s : State) (n : Nat) (x : Timer) : (s.setTimer n x).gated = s.gated := rfl
@[simp] theorem State.setTimer_nv (s : State) (n : Nat) (x : Timer) : (s.setTimer n x).nv = s.nv := rfl
@[simp] theorem State.setTimer_nvOp (s : State) (n : Nat) (x : Timer) : (s.setTimer n x).nvOp = s.nvOp := rfl
@[simp] theorem State.setTimer_prkOp (s : State) (n : Nat) (x : Timer) : (s.setTimer n x).prkOp = s.prkOp := rfl
@[simp] theorem State.setTimer_plwRun (s : State) (n : Nat) (x : Timer) : (s.setTimer n x).plwRun = s.plwRun := rfl
@[simp] theorem State.setTimer_place (s : State) (n : Nat) (x : Timer) : (s.setTimer n x).place = s.place := rfl
@[simp] theorem State.setTimer_patch (s : State) (n : Nat) (x : Timer) : (s.setTimer n x).patch = s.patch := rfl
@[simp] theorem State.setTimer_patchLeft (s : State) (n : Nat) (x : Timer) : (s.setTimer n x).patchLeft = s.patchLeft := rfl
@[simp] theorem State.setTimer_bootEnded (s : State) (n : Nat) (x : Timer) : (s.setTimer n x).bootEnded = s.bootEnded := rfl
@[simp] theorem State.setTimer_loop (s : State) (n : Nat) (x : Timer) : (s.setTimer n x).loop = s.loop := rfl
@[simp] theorem State.setTimer_linksUp (s : State) (n : Nat) (x : Timer) : (s.setTimer n x).linksUp = s.linksUp := rfl
@[simp] theorem State.setTimer_hostSeats (s : State) (n : Nat) (x : Timer) : (s.setTimer n x).hostSeats = s.hostSeats := rfl
@[simp] theorem State.setTimer_dmas (s : State) (n : Nat) (x : Timer) : (s.setTimer n x).dmas = s.dmas := rfl
@[simp] theorem State.setTimer_mutes (s : State) (n : Nat) (x : Timer) : (s.setTimer n x).mutes = s.mutes := rfl
@[simp] theorem State.setTimer_ecWin (s : State) (n : Nat) (x : Timer) : (s.setTimer n x).ecWin = s.ecWin := rfl
@[simp] theorem State.setTimer_pfilt (s : State) (n : Nat) (x : Timer) : (s.setTimer n x).pfilt = s.pfilt := rfl
@[simp] theorem State.setTimer_bplan (s : State) (n : Nat) (x : Timer) : (s.setTimer n x).bplan = s.bplan := rfl
@[simp] theorem State.setTimer_bports (s : State) (n : Nat) (x : Timer) : (s.setTimer n x).bports = s.bports := rfl
@[simp] theorem State.setTimer_aligned (s : State) (n : Nat) (x : Timer) : (s.setTimer n x).aligned = s.aligned := rfl
@[simp] theorem State.setTimer_ringItems (s : State) (n : Nat) (x : Timer) : (s.setTimer n x).ringItems = s.ringItems := rfl
@[simp] theorem State.setTimer_ringLast (s : State) (n : Nat) (x : Timer) : (s.setTimer n x).ringLast = s.ringLast := rfl
@[simp] theorem State.setTimer_gItems (s : State) (n : Nat) (x : Timer) : (s.setTimer n x).gItems = s.gItems := rfl
@[simp] theorem State.setTimer_outq (s : State) (n : Nat) (x : Timer) : (s.setTimer n x).outq = s.outq := rfl
@[simp] theorem State.setTimer_ltr (s : State) (n : Nat) (x : Timer) : (s.setTimer n x).ltr = s.ltr := rfl
@[simp] theorem State.setTimer_perst (s : State) (n : Nat) (x : Timer) : (s.setTimer n x).perst = s.perst := rfl
@[simp] theorem State.setTimer_linkMax (s : State) (n : Nat) (x : Timer) : (s.setTimer n x).linkMax = s.linkMax := rfl
@[simp] theorem State.setTimer_kpllOut (s : State) (n : Nat) (x : Timer) : (s.setTimer n x).kpllOut = s.kpllOut := rfl
@[simp] theorem State.setTimer_punits (s : State) (n : Nat) (x : Timer) : (s.setTimer n x).punits = s.punits := rfl
@[simp] theorem State.setTimer_yard (s : State) (n : Nat) (x : Timer) : (s.setTimer n x).yard = s.yard := rfl
@[simp] theorem State.setTimer_quietLo (s : State) (n : Nat) (x : Timer) : (s.setTimer n x).quietLo = s.quietLo := rfl
@[simp] theorem State.setTimer_heldLeg (s : State) (n : Nat) (x : Timer) : (s.setTimer n x).heldLeg = s.heldLeg := rfl
@[simp] theorem State.setTimer_heldAcc (s : State) (n : Nat) (x : Timer) : (s.setTimer n x).heldAcc = s.heldAcc := rfl
@[simp] theorem State.setTimer_supply (s : State) (n : Nat) (x : Timer) : (s.setTimer n x).supply = s.supply := rfl
@[simp] theorem State.setTimer_frst (s : State) (n : Nat) (x : Timer) : (s.setTimer n x).frst = s.frst := rfl
@[simp] theorem State.setTimer_frstAt (s : State) (n : Nat) (x : Timer) : (s.setTimer n x).frstAt = s.frstAt := rfl
@[simp] theorem State.setTimer_cpll (s : State) (n : Nat) (x : Timer) : (s.setTimer n x).cpll = s.cpll := rfl
@[simp] theorem State.setTimer_kpll (s : State) (n : Nat) (x : Timer) : (s.setTimer n x).kpll = s.kpll := rfl
@[simp] theorem State.setTimer_kpllAon (s : State) (n : Nat) (x : Timer) : (s.setTimer n x).kpllAon = s.kpllAon := rfl
@[simp] theorem State.setTimer_clkret (s : State) (n : Nat) (x : Timer) : (s.setTimer n x).clkret = s.clkret := rfl
@[simp] theorem State.setTimer_tracer (s : State) (n : Nat) (x : Timer) : (s.setTimer n x).tracer = s.tracer := rfl
@[simp] theorem State.setTimer_pinCh (s : State) (n : Nat) (x : Timer) : (s.setTimer n x).pinCh = s.pinCh := rfl
@[simp] theorem State.setTimer_pinAt (s : State) (n : Nat) (x : Timer) : (s.setTimer n x).pinAt = s.pinAt := rfl
@[simp] theorem State.setTimer_strapLock (s : State) (n : Nat) (x : Timer) : (s.setTimer n x).strapLock = s.strapLock := rfl
@[simp] theorem State.setTimer_tap (s : State) (n : Nat) (x : Timer) : (s.setTimer n x).tap = s.tap := rfl
@[simp] theorem State.setTimer_dbgRun (s : State) (n : Nat) (x : Timer) : (s.setTimer n x).dbgRun = s.dbgRun := rfl

/-! ## State.setMc -/

@[simp] theorem State.setMc_pending (s : State) (k : Nat) (x : McUnit) : (s.setMc k x).pending = s.pending := rfl
@[simp] theorem State.setMc_et (s : State) (k : Nat) (x : McUnit) : (s.setMc k x).et = s.et := rfl
@[simp] theorem State.setMc_dt0 (s : State) (k : Nat) (x : McUnit) : (s.setMc k x).dt0 = s.dt0 := rfl
@[simp] theorem State.setMc_pace (s : State) (k : Nat) (x : McUnit) : (s.setMc k x).pace = s.pace := rfl
@[simp] theorem State.setMc_fv (s : State) (k : Nat) (x : McUnit) : (s.setMc k x).fv = s.fv := rfl
@[simp] theorem State.setMc_regs (s : State) (k : Nat) (x : McUnit) : (s.setMc k x).regs = s.regs := rfl
@[simp] theorem State.setMc_raised (s : State) (k : Nat) (x : McUnit) : (s.setMc k x).raised = s.raised := rfl
@[simp] theorem State.setMc_logs (s : State) (k : Nat) (x : McUnit) : (s.setMc k x).logs = s.logs := rfl
@[simp] theorem State.setMc_wlNow (s : State) (k : Nat) (x : McUnit) : (s.setMc k x).wlNow = s.wlNow := rfl
@[simp] theorem State.setMc_prkCyc (s : State) (k : Nat) (x : McUnit) : (s.setMc k x).prkCyc = s.prkCyc := rfl
@[simp] theorem State.setMc_out (s : State) (k : Nat) (x : McUnit) : (s.setMc k x).out = s.out := rfl
@[simp] theorem State.setMc_munits (s : State) (k : Nat) (x : McUnit) : (s.setMc k x).munits = s.munits := rfl
@[simp] theorem State.setMc_mroles (s : State) (k : Nat) (x : McUnit) : (s.setMc k x).mroles = s.mroles := rfl
@[simp] theorem State.setMc_minputs (s : State) (k : Nat) (x : McUnit) : (s.setMc k x).minputs = s.minputs := rfl
@[simp] theorem State.setMc_mtiles (s : State) (k : Nat) (x : McUnit) : (s.setMc k x).mtiles = s.mtiles := rfl
@[simp] theorem State.setMc_xcFails (s : State) (k : Nat) (x : McUnit) : (s.setMc k x).xcFails = s.xcFails := rfl
@[simp] theorem State.setMc_xcLate (s : State) (k : Nat) (x : McUnit) : (s.setMc k x).xcLate = s.xcLate := rfl
@[simp] theorem State.setMc_streams (s : State) (k : Nat) (x : McUnit) : (s.setMc k x).streams = s.streams := rfl
@[simp] theorem State.setMc_capUsed (s : State) (k : Nat) (x : McUnit) : (s.setMc k x).capUsed = s.capUsed := rfl
@[simp] theorem State.setMc_cap (s : State) (k : Nat) (x : McUnit) : (s.setMc k x).cap = s.cap := rfl
@[simp] theorem State.setMc_committed (s : State) (k : Nat) (x : McUnit) : (s.setMc k x).committed = s.committed := rfl
@[simp] theorem State.setMc_fns (s : State) (k : Nat) (x : McUnit) : (s.setMc k x).fns = s.fns := rfl
@[simp] theorem State.setMc_ecUsed (s : State) (k : Nat) (x : McUnit) : (s.setMc k x).ecUsed = s.ecUsed := rfl
@[simp] theorem State.setMc_srcSeen (s : State) (k : Nat) (x : McUnit) : (s.setMc k x).srcSeen = s.srcSeen := rfl
@[simp] theorem State.setMc_flight (s : State) (k : Nat) (x : McUnit) : (s.setMc k x).flight = s.flight := rfl
@[simp] theorem State.setMc_slotsUsed (s : State) (k : Nat) (x : McUnit) : (s.setMc k x).slotsUsed = s.slotsUsed := rfl
@[simp] theorem State.setMc_lanesOn (s : State) (k : Nat) (x : McUnit) : (s.setMc k x).lanesOn = s.lanesOn := rfl
@[simp] theorem State.setMc_laneIn (s : State) (k : Nat) (x : McUnit) : (s.setMc k x).laneIn = s.laneIn := rfl
@[simp] theorem State.setMc_legs (s : State) (k : Nat) (x : McUnit) : (s.setMc k x).legs = s.legs := rfl
@[simp] theorem State.setMc_posts (s : State) (k : Nat) (x : McUnit) : (s.setMc k x).posts = s.posts := rfl
@[simp] theorem State.setMc_laneReqs (s : State) (k : Nat) (x : McUnit) : (s.setMc k x).laneReqs = s.laneReqs := rfl
@[simp] theorem State.setMc_step12 (s : State) (k : Nat) (x : McUnit) : (s.setMc k x).step12 = s.step12 := rfl
@[simp] theorem State.setMc_trigs (s : State) (k : Nat) (x : McUnit) : (s.setMc k x).trigs = s.trigs := rfl
@[simp] theorem State.setMc_engs (s : State) (k : Nat) (x : McUnit) : (s.setMc k x).engs = s.engs := rfl
@[simp] theorem State.setMc_ltiles (s : State) (k : Nat) (x : McUnit) : (s.setMc k x).ltiles = s.ltiles := rfl
@[simp] theorem State.setMc_xslots (s : State) (k : Nat) (x : McUnit) : (s.setMc k x).xslots = s.xslots := rfl
@[simp] theorem State.setMc_plwAsked (s : State) (k : Nat) (x : McUnit) : (s.setMc k x).plwAsked = s.plwAsked := rfl
@[simp] theorem State.setMc_badCw (s : State) (k : Nat) (x : McUnit) : (s.setMc k x).badCw = s.badCw := rfl
@[simp] theorem State.setMc_timers (s : State) (k : Nat) (x : McUnit) : (s.setMc k x).timers = s.timers := rfl
@[simp] theorem State.setMc_pinEdges (s : State) (k : Nat) (x : McUnit) : (s.setMc k x).pinEdges = s.pinEdges := rfl
@[simp] theorem State.setMc_shadows (s : State) (k : Nat) (x : McUnit) : (s.setMc k x).shadows = s.shadows := rfl
@[simp] theorem State.setMc_dtSeen (s : State) (k : Nat) (x : McUnit) : (s.setMc k x).dtSeen = s.dtSeen := rfl
@[simp] theorem State.setMc_cores (s : State) (k : Nat) (x : McUnit) : (s.setMc k x).cores = s.cores := rfl
@[simp] theorem State.setMc_tcm (s : State) (k : Nat) (x : McUnit) : (s.setMc k x).tcm = s.tcm := rfl
@[simp] theorem State.setMc_sram (s : State) (k : Nat) (x : McUnit) : (s.setMc k x).sram = s.sram := rfl
@[simp] theorem State.setMc_bankKey (s : State) (k : Nat) (x : McUnit) : (s.setMc k x).bankKey = s.bankKey := rfl
@[simp] theorem State.setMc_bankFree (s : State) (k : Nat) (x : McUnit) : (s.setMc k x).bankFree = s.bankFree := rfl
@[simp] theorem State.setMc_bankWait (s : State) (k : Nat) (x : McUnit) : (s.setMc k x).bankWait = s.bankWait := rfl
@[simp] theorem State.setMc_wtab (s : State) (k : Nat) (x : McUnit) : (s.setMc k x).wtab = s.wtab := rfl
@[simp] theorem State.setMc_wgen (s : State) (k : Nat) (x : McUnit) : (s.setMc k x).wgen = s.wgen := rfl
@[simp] theorem State.setMc_wkey (s : State) (k : Nat) (x : McUnit) : (s.setMc k x).wkey = s.wkey := rfl
@[simp] theorem State.setMc_wrtFree (s : State) (k : Nat) (x : McUnit) : (s.setMc k x).wrtFree = s.wrtFree := rfl
@[simp] theorem State.setMc_bindLo (s : State) (k : Nat) (x : McUnit) : (s.setMc k x).bindLo = s.bindLo := rfl
@[simp] theorem State.setMc_nvm (s : State) (k : Nat) (x : McUnit) : (s.setMc k x).nvm = s.nvm := rfl
@[simp] theorem State.setMc_gated (s : State) (k : Nat) (x : McUnit) : (s.setMc k x).gated = s.gated := rfl
@[simp] theorem State.setMc_nv (s : State) (k : Nat) (x : McUnit) : (s.setMc k x).nv = s.nv := rfl
@[simp] theorem State.setMc_nvOp (s : State) (k : Nat) (x : McUnit) : (s.setMc k x).nvOp = s.nvOp := rfl
@[simp] theorem State.setMc_prkOp (s : State) (k : Nat) (x : McUnit) : (s.setMc k x).prkOp = s.prkOp := rfl
@[simp] theorem State.setMc_plwRun (s : State) (k : Nat) (x : McUnit) : (s.setMc k x).plwRun = s.plwRun := rfl
@[simp] theorem State.setMc_place (s : State) (k : Nat) (x : McUnit) : (s.setMc k x).place = s.place := rfl
@[simp] theorem State.setMc_patch (s : State) (k : Nat) (x : McUnit) : (s.setMc k x).patch = s.patch := rfl
@[simp] theorem State.setMc_patchLeft (s : State) (k : Nat) (x : McUnit) : (s.setMc k x).patchLeft = s.patchLeft := rfl
@[simp] theorem State.setMc_bootEnded (s : State) (k : Nat) (x : McUnit) : (s.setMc k x).bootEnded = s.bootEnded := rfl
@[simp] theorem State.setMc_loop (s : State) (k : Nat) (x : McUnit) : (s.setMc k x).loop = s.loop := rfl
@[simp] theorem State.setMc_linksUp (s : State) (k : Nat) (x : McUnit) : (s.setMc k x).linksUp = s.linksUp := rfl
@[simp] theorem State.setMc_hostSeats (s : State) (k : Nat) (x : McUnit) : (s.setMc k x).hostSeats = s.hostSeats := rfl
@[simp] theorem State.setMc_dmas (s : State) (k : Nat) (x : McUnit) : (s.setMc k x).dmas = s.dmas := rfl
@[simp] theorem State.setMc_mutes (s : State) (k : Nat) (x : McUnit) : (s.setMc k x).mutes = s.mutes := rfl
@[simp] theorem State.setMc_ecWin (s : State) (k : Nat) (x : McUnit) : (s.setMc k x).ecWin = s.ecWin := rfl
@[simp] theorem State.setMc_pfilt (s : State) (k : Nat) (x : McUnit) : (s.setMc k x).pfilt = s.pfilt := rfl
@[simp] theorem State.setMc_bplan (s : State) (k : Nat) (x : McUnit) : (s.setMc k x).bplan = s.bplan := rfl
@[simp] theorem State.setMc_bports (s : State) (k : Nat) (x : McUnit) : (s.setMc k x).bports = s.bports := rfl
@[simp] theorem State.setMc_aligned (s : State) (k : Nat) (x : McUnit) : (s.setMc k x).aligned = s.aligned := rfl
@[simp] theorem State.setMc_ringItems (s : State) (k : Nat) (x : McUnit) : (s.setMc k x).ringItems = s.ringItems := rfl
@[simp] theorem State.setMc_ringLast (s : State) (k : Nat) (x : McUnit) : (s.setMc k x).ringLast = s.ringLast := rfl
@[simp] theorem State.setMc_gItems (s : State) (k : Nat) (x : McUnit) : (s.setMc k x).gItems = s.gItems := rfl
@[simp] theorem State.setMc_outq (s : State) (k : Nat) (x : McUnit) : (s.setMc k x).outq = s.outq := rfl
@[simp] theorem State.setMc_ltr (s : State) (k : Nat) (x : McUnit) : (s.setMc k x).ltr = s.ltr := rfl
@[simp] theorem State.setMc_perst (s : State) (k : Nat) (x : McUnit) : (s.setMc k x).perst = s.perst := rfl
@[simp] theorem State.setMc_linkMax (s : State) (k : Nat) (x : McUnit) : (s.setMc k x).linkMax = s.linkMax := rfl
@[simp] theorem State.setMc_kpllOut (s : State) (k : Nat) (x : McUnit) : (s.setMc k x).kpllOut = s.kpllOut := rfl
@[simp] theorem State.setMc_punits (s : State) (k : Nat) (x : McUnit) : (s.setMc k x).punits = s.punits := rfl
@[simp] theorem State.setMc_yard (s : State) (k : Nat) (x : McUnit) : (s.setMc k x).yard = s.yard := rfl
@[simp] theorem State.setMc_quietLo (s : State) (k : Nat) (x : McUnit) : (s.setMc k x).quietLo = s.quietLo := rfl
@[simp] theorem State.setMc_heldLeg (s : State) (k : Nat) (x : McUnit) : (s.setMc k x).heldLeg = s.heldLeg := rfl
@[simp] theorem State.setMc_heldAcc (s : State) (k : Nat) (x : McUnit) : (s.setMc k x).heldAcc = s.heldAcc := rfl
@[simp] theorem State.setMc_supply (s : State) (k : Nat) (x : McUnit) : (s.setMc k x).supply = s.supply := rfl
@[simp] theorem State.setMc_frst (s : State) (k : Nat) (x : McUnit) : (s.setMc k x).frst = s.frst := rfl
@[simp] theorem State.setMc_frstAt (s : State) (k : Nat) (x : McUnit) : (s.setMc k x).frstAt = s.frstAt := rfl
@[simp] theorem State.setMc_cpll (s : State) (k : Nat) (x : McUnit) : (s.setMc k x).cpll = s.cpll := rfl
@[simp] theorem State.setMc_kpll (s : State) (k : Nat) (x : McUnit) : (s.setMc k x).kpll = s.kpll := rfl
@[simp] theorem State.setMc_kpllAon (s : State) (k : Nat) (x : McUnit) : (s.setMc k x).kpllAon = s.kpllAon := rfl
@[simp] theorem State.setMc_clkret (s : State) (k : Nat) (x : McUnit) : (s.setMc k x).clkret = s.clkret := rfl
@[simp] theorem State.setMc_tracer (s : State) (k : Nat) (x : McUnit) : (s.setMc k x).tracer = s.tracer := rfl
@[simp] theorem State.setMc_pinCh (s : State) (k : Nat) (x : McUnit) : (s.setMc k x).pinCh = s.pinCh := rfl
@[simp] theorem State.setMc_pinAt (s : State) (k : Nat) (x : McUnit) : (s.setMc k x).pinAt = s.pinAt := rfl
@[simp] theorem State.setMc_strapLock (s : State) (k : Nat) (x : McUnit) : (s.setMc k x).strapLock = s.strapLock := rfl
@[simp] theorem State.setMc_tap (s : State) (k : Nat) (x : McUnit) : (s.setMc k x).tap = s.tap := rfl
@[simp] theorem State.setMc_dbgRun (s : State) (k : Nat) (x : McUnit) : (s.setMc k x).dbgRun = s.dbgRun := rfl

/-! ## State.setMunit -/

@[simp] theorem State.setMunit_pending (s : State) (u : Nat) (x : ModUnit) : (s.setMunit u x).pending = s.pending := rfl
@[simp] theorem State.setMunit_et (s : State) (u : Nat) (x : ModUnit) : (s.setMunit u x).et = s.et := rfl
@[simp] theorem State.setMunit_dt0 (s : State) (u : Nat) (x : ModUnit) : (s.setMunit u x).dt0 = s.dt0 := rfl
@[simp] theorem State.setMunit_pace (s : State) (u : Nat) (x : ModUnit) : (s.setMunit u x).pace = s.pace := rfl
@[simp] theorem State.setMunit_fv (s : State) (u : Nat) (x : ModUnit) : (s.setMunit u x).fv = s.fv := rfl
@[simp] theorem State.setMunit_regs (s : State) (u : Nat) (x : ModUnit) : (s.setMunit u x).regs = s.regs := rfl
@[simp] theorem State.setMunit_raised (s : State) (u : Nat) (x : ModUnit) : (s.setMunit u x).raised = s.raised := rfl
@[simp] theorem State.setMunit_logs (s : State) (u : Nat) (x : ModUnit) : (s.setMunit u x).logs = s.logs := rfl
@[simp] theorem State.setMunit_wlNow (s : State) (u : Nat) (x : ModUnit) : (s.setMunit u x).wlNow = s.wlNow := rfl
@[simp] theorem State.setMunit_prkCyc (s : State) (u : Nat) (x : ModUnit) : (s.setMunit u x).prkCyc = s.prkCyc := rfl
@[simp] theorem State.setMunit_out (s : State) (u : Nat) (x : ModUnit) : (s.setMunit u x).out = s.out := rfl
@[simp] theorem State.setMunit_mroles (s : State) (u : Nat) (x : ModUnit) : (s.setMunit u x).mroles = s.mroles := rfl
@[simp] theorem State.setMunit_minputs (s : State) (u : Nat) (x : ModUnit) : (s.setMunit u x).minputs = s.minputs := rfl
@[simp] theorem State.setMunit_mtiles (s : State) (u : Nat) (x : ModUnit) : (s.setMunit u x).mtiles = s.mtiles := rfl
@[simp] theorem State.setMunit_mcs (s : State) (u : Nat) (x : ModUnit) : (s.setMunit u x).mcs = s.mcs := rfl
@[simp] theorem State.setMunit_xcFails (s : State) (u : Nat) (x : ModUnit) : (s.setMunit u x).xcFails = s.xcFails := rfl
@[simp] theorem State.setMunit_xcLate (s : State) (u : Nat) (x : ModUnit) : (s.setMunit u x).xcLate = s.xcLate := rfl
@[simp] theorem State.setMunit_streams (s : State) (u : Nat) (x : ModUnit) : (s.setMunit u x).streams = s.streams := rfl
@[simp] theorem State.setMunit_capUsed (s : State) (u : Nat) (x : ModUnit) : (s.setMunit u x).capUsed = s.capUsed := rfl
@[simp] theorem State.setMunit_cap (s : State) (u : Nat) (x : ModUnit) : (s.setMunit u x).cap = s.cap := rfl
@[simp] theorem State.setMunit_committed (s : State) (u : Nat) (x : ModUnit) : (s.setMunit u x).committed = s.committed := rfl
@[simp] theorem State.setMunit_fns (s : State) (u : Nat) (x : ModUnit) : (s.setMunit u x).fns = s.fns := rfl
@[simp] theorem State.setMunit_ecUsed (s : State) (u : Nat) (x : ModUnit) : (s.setMunit u x).ecUsed = s.ecUsed := rfl
@[simp] theorem State.setMunit_srcSeen (s : State) (u : Nat) (x : ModUnit) : (s.setMunit u x).srcSeen = s.srcSeen := rfl
@[simp] theorem State.setMunit_flight (s : State) (u : Nat) (x : ModUnit) : (s.setMunit u x).flight = s.flight := rfl
@[simp] theorem State.setMunit_slotsUsed (s : State) (u : Nat) (x : ModUnit) : (s.setMunit u x).slotsUsed = s.slotsUsed := rfl
@[simp] theorem State.setMunit_lanesOn (s : State) (u : Nat) (x : ModUnit) : (s.setMunit u x).lanesOn = s.lanesOn := rfl
@[simp] theorem State.setMunit_laneIn (s : State) (u : Nat) (x : ModUnit) : (s.setMunit u x).laneIn = s.laneIn := rfl
@[simp] theorem State.setMunit_legs (s : State) (u : Nat) (x : ModUnit) : (s.setMunit u x).legs = s.legs := rfl
@[simp] theorem State.setMunit_posts (s : State) (u : Nat) (x : ModUnit) : (s.setMunit u x).posts = s.posts := rfl
@[simp] theorem State.setMunit_laneReqs (s : State) (u : Nat) (x : ModUnit) : (s.setMunit u x).laneReqs = s.laneReqs := rfl
@[simp] theorem State.setMunit_step12 (s : State) (u : Nat) (x : ModUnit) : (s.setMunit u x).step12 = s.step12 := rfl
@[simp] theorem State.setMunit_trigs (s : State) (u : Nat) (x : ModUnit) : (s.setMunit u x).trigs = s.trigs := rfl
@[simp] theorem State.setMunit_engs (s : State) (u : Nat) (x : ModUnit) : (s.setMunit u x).engs = s.engs := rfl
@[simp] theorem State.setMunit_ltiles (s : State) (u : Nat) (x : ModUnit) : (s.setMunit u x).ltiles = s.ltiles := rfl
@[simp] theorem State.setMunit_xslots (s : State) (u : Nat) (x : ModUnit) : (s.setMunit u x).xslots = s.xslots := rfl
@[simp] theorem State.setMunit_plwAsked (s : State) (u : Nat) (x : ModUnit) : (s.setMunit u x).plwAsked = s.plwAsked := rfl
@[simp] theorem State.setMunit_badCw (s : State) (u : Nat) (x : ModUnit) : (s.setMunit u x).badCw = s.badCw := rfl
@[simp] theorem State.setMunit_timers (s : State) (u : Nat) (x : ModUnit) : (s.setMunit u x).timers = s.timers := rfl
@[simp] theorem State.setMunit_pinEdges (s : State) (u : Nat) (x : ModUnit) : (s.setMunit u x).pinEdges = s.pinEdges := rfl
@[simp] theorem State.setMunit_shadows (s : State) (u : Nat) (x : ModUnit) : (s.setMunit u x).shadows = s.shadows := rfl
@[simp] theorem State.setMunit_dtSeen (s : State) (u : Nat) (x : ModUnit) : (s.setMunit u x).dtSeen = s.dtSeen := rfl
@[simp] theorem State.setMunit_cores (s : State) (u : Nat) (x : ModUnit) : (s.setMunit u x).cores = s.cores := rfl
@[simp] theorem State.setMunit_tcm (s : State) (u : Nat) (x : ModUnit) : (s.setMunit u x).tcm = s.tcm := rfl
@[simp] theorem State.setMunit_sram (s : State) (u : Nat) (x : ModUnit) : (s.setMunit u x).sram = s.sram := rfl
@[simp] theorem State.setMunit_bankKey (s : State) (u : Nat) (x : ModUnit) : (s.setMunit u x).bankKey = s.bankKey := rfl
@[simp] theorem State.setMunit_bankFree (s : State) (u : Nat) (x : ModUnit) : (s.setMunit u x).bankFree = s.bankFree := rfl
@[simp] theorem State.setMunit_bankWait (s : State) (u : Nat) (x : ModUnit) : (s.setMunit u x).bankWait = s.bankWait := rfl
@[simp] theorem State.setMunit_wtab (s : State) (u : Nat) (x : ModUnit) : (s.setMunit u x).wtab = s.wtab := rfl
@[simp] theorem State.setMunit_wgen (s : State) (u : Nat) (x : ModUnit) : (s.setMunit u x).wgen = s.wgen := rfl
@[simp] theorem State.setMunit_wkey (s : State) (u : Nat) (x : ModUnit) : (s.setMunit u x).wkey = s.wkey := rfl
@[simp] theorem State.setMunit_wrtFree (s : State) (u : Nat) (x : ModUnit) : (s.setMunit u x).wrtFree = s.wrtFree := rfl
@[simp] theorem State.setMunit_bindLo (s : State) (u : Nat) (x : ModUnit) : (s.setMunit u x).bindLo = s.bindLo := rfl
@[simp] theorem State.setMunit_nvm (s : State) (u : Nat) (x : ModUnit) : (s.setMunit u x).nvm = s.nvm := rfl
@[simp] theorem State.setMunit_gated (s : State) (u : Nat) (x : ModUnit) : (s.setMunit u x).gated = s.gated := rfl
@[simp] theorem State.setMunit_nv (s : State) (u : Nat) (x : ModUnit) : (s.setMunit u x).nv = s.nv := rfl
@[simp] theorem State.setMunit_nvOp (s : State) (u : Nat) (x : ModUnit) : (s.setMunit u x).nvOp = s.nvOp := rfl
@[simp] theorem State.setMunit_prkOp (s : State) (u : Nat) (x : ModUnit) : (s.setMunit u x).prkOp = s.prkOp := rfl
@[simp] theorem State.setMunit_plwRun (s : State) (u : Nat) (x : ModUnit) : (s.setMunit u x).plwRun = s.plwRun := rfl
@[simp] theorem State.setMunit_place (s : State) (u : Nat) (x : ModUnit) : (s.setMunit u x).place = s.place := rfl
@[simp] theorem State.setMunit_patch (s : State) (u : Nat) (x : ModUnit) : (s.setMunit u x).patch = s.patch := rfl
@[simp] theorem State.setMunit_patchLeft (s : State) (u : Nat) (x : ModUnit) : (s.setMunit u x).patchLeft = s.patchLeft := rfl
@[simp] theorem State.setMunit_bootEnded (s : State) (u : Nat) (x : ModUnit) : (s.setMunit u x).bootEnded = s.bootEnded := rfl
@[simp] theorem State.setMunit_loop (s : State) (u : Nat) (x : ModUnit) : (s.setMunit u x).loop = s.loop := rfl
@[simp] theorem State.setMunit_linksUp (s : State) (u : Nat) (x : ModUnit) : (s.setMunit u x).linksUp = s.linksUp := rfl
@[simp] theorem State.setMunit_hostSeats (s : State) (u : Nat) (x : ModUnit) : (s.setMunit u x).hostSeats = s.hostSeats := rfl
@[simp] theorem State.setMunit_dmas (s : State) (u : Nat) (x : ModUnit) : (s.setMunit u x).dmas = s.dmas := rfl
@[simp] theorem State.setMunit_mutes (s : State) (u : Nat) (x : ModUnit) : (s.setMunit u x).mutes = s.mutes := rfl
@[simp] theorem State.setMunit_ecWin (s : State) (u : Nat) (x : ModUnit) : (s.setMunit u x).ecWin = s.ecWin := rfl
@[simp] theorem State.setMunit_pfilt (s : State) (u : Nat) (x : ModUnit) : (s.setMunit u x).pfilt = s.pfilt := rfl
@[simp] theorem State.setMunit_bplan (s : State) (u : Nat) (x : ModUnit) : (s.setMunit u x).bplan = s.bplan := rfl
@[simp] theorem State.setMunit_bports (s : State) (u : Nat) (x : ModUnit) : (s.setMunit u x).bports = s.bports := rfl
@[simp] theorem State.setMunit_aligned (s : State) (u : Nat) (x : ModUnit) : (s.setMunit u x).aligned = s.aligned := rfl
@[simp] theorem State.setMunit_ringItems (s : State) (u : Nat) (x : ModUnit) : (s.setMunit u x).ringItems = s.ringItems := rfl
@[simp] theorem State.setMunit_ringLast (s : State) (u : Nat) (x : ModUnit) : (s.setMunit u x).ringLast = s.ringLast := rfl
@[simp] theorem State.setMunit_gItems (s : State) (u : Nat) (x : ModUnit) : (s.setMunit u x).gItems = s.gItems := rfl
@[simp] theorem State.setMunit_outq (s : State) (u : Nat) (x : ModUnit) : (s.setMunit u x).outq = s.outq := rfl
@[simp] theorem State.setMunit_ltr (s : State) (u : Nat) (x : ModUnit) : (s.setMunit u x).ltr = s.ltr := rfl
@[simp] theorem State.setMunit_perst (s : State) (u : Nat) (x : ModUnit) : (s.setMunit u x).perst = s.perst := rfl
@[simp] theorem State.setMunit_linkMax (s : State) (u : Nat) (x : ModUnit) : (s.setMunit u x).linkMax = s.linkMax := rfl
@[simp] theorem State.setMunit_kpllOut (s : State) (u : Nat) (x : ModUnit) : (s.setMunit u x).kpllOut = s.kpllOut := rfl
@[simp] theorem State.setMunit_punits (s : State) (u : Nat) (x : ModUnit) : (s.setMunit u x).punits = s.punits := rfl
@[simp] theorem State.setMunit_yard (s : State) (u : Nat) (x : ModUnit) : (s.setMunit u x).yard = s.yard := rfl
@[simp] theorem State.setMunit_quietLo (s : State) (u : Nat) (x : ModUnit) : (s.setMunit u x).quietLo = s.quietLo := rfl
@[simp] theorem State.setMunit_heldLeg (s : State) (u : Nat) (x : ModUnit) : (s.setMunit u x).heldLeg = s.heldLeg := rfl
@[simp] theorem State.setMunit_heldAcc (s : State) (u : Nat) (x : ModUnit) : (s.setMunit u x).heldAcc = s.heldAcc := rfl
@[simp] theorem State.setMunit_supply (s : State) (u : Nat) (x : ModUnit) : (s.setMunit u x).supply = s.supply := rfl
@[simp] theorem State.setMunit_frst (s : State) (u : Nat) (x : ModUnit) : (s.setMunit u x).frst = s.frst := rfl
@[simp] theorem State.setMunit_frstAt (s : State) (u : Nat) (x : ModUnit) : (s.setMunit u x).frstAt = s.frstAt := rfl
@[simp] theorem State.setMunit_cpll (s : State) (u : Nat) (x : ModUnit) : (s.setMunit u x).cpll = s.cpll := rfl
@[simp] theorem State.setMunit_kpll (s : State) (u : Nat) (x : ModUnit) : (s.setMunit u x).kpll = s.kpll := rfl
@[simp] theorem State.setMunit_kpllAon (s : State) (u : Nat) (x : ModUnit) : (s.setMunit u x).kpllAon = s.kpllAon := rfl
@[simp] theorem State.setMunit_clkret (s : State) (u : Nat) (x : ModUnit) : (s.setMunit u x).clkret = s.clkret := rfl
@[simp] theorem State.setMunit_tracer (s : State) (u : Nat) (x : ModUnit) : (s.setMunit u x).tracer = s.tracer := rfl
@[simp] theorem State.setMunit_pinCh (s : State) (u : Nat) (x : ModUnit) : (s.setMunit u x).pinCh = s.pinCh := rfl
@[simp] theorem State.setMunit_pinAt (s : State) (u : Nat) (x : ModUnit) : (s.setMunit u x).pinAt = s.pinAt := rfl
@[simp] theorem State.setMunit_strapLock (s : State) (u : Nat) (x : ModUnit) : (s.setMunit u x).strapLock = s.strapLock := rfl
@[simp] theorem State.setMunit_tap (s : State) (u : Nat) (x : ModUnit) : (s.setMunit u x).tap = s.tap := rfl
@[simp] theorem State.setMunit_dbgRun (s : State) (u : Nat) (x : ModUnit) : (s.setMunit u x).dbgRun = s.dbgRun := rfl

/-! ## State.setMrole -/

@[simp] theorem State.setMrole_pending (s : State) (n : Nat) (x : ModRole) : (s.setMrole n x).pending = s.pending := rfl
@[simp] theorem State.setMrole_et (s : State) (n : Nat) (x : ModRole) : (s.setMrole n x).et = s.et := rfl
@[simp] theorem State.setMrole_dt0 (s : State) (n : Nat) (x : ModRole) : (s.setMrole n x).dt0 = s.dt0 := rfl
@[simp] theorem State.setMrole_pace (s : State) (n : Nat) (x : ModRole) : (s.setMrole n x).pace = s.pace := rfl
@[simp] theorem State.setMrole_fv (s : State) (n : Nat) (x : ModRole) : (s.setMrole n x).fv = s.fv := rfl
@[simp] theorem State.setMrole_regs (s : State) (n : Nat) (x : ModRole) : (s.setMrole n x).regs = s.regs := rfl
@[simp] theorem State.setMrole_raised (s : State) (n : Nat) (x : ModRole) : (s.setMrole n x).raised = s.raised := rfl
@[simp] theorem State.setMrole_logs (s : State) (n : Nat) (x : ModRole) : (s.setMrole n x).logs = s.logs := rfl
@[simp] theorem State.setMrole_wlNow (s : State) (n : Nat) (x : ModRole) : (s.setMrole n x).wlNow = s.wlNow := rfl
@[simp] theorem State.setMrole_prkCyc (s : State) (n : Nat) (x : ModRole) : (s.setMrole n x).prkCyc = s.prkCyc := rfl
@[simp] theorem State.setMrole_out (s : State) (n : Nat) (x : ModRole) : (s.setMrole n x).out = s.out := rfl
@[simp] theorem State.setMrole_munits (s : State) (n : Nat) (x : ModRole) : (s.setMrole n x).munits = s.munits := rfl
@[simp] theorem State.setMrole_minputs (s : State) (n : Nat) (x : ModRole) : (s.setMrole n x).minputs = s.minputs := rfl
@[simp] theorem State.setMrole_mtiles (s : State) (n : Nat) (x : ModRole) : (s.setMrole n x).mtiles = s.mtiles := rfl
@[simp] theorem State.setMrole_mcs (s : State) (n : Nat) (x : ModRole) : (s.setMrole n x).mcs = s.mcs := rfl
@[simp] theorem State.setMrole_xcFails (s : State) (n : Nat) (x : ModRole) : (s.setMrole n x).xcFails = s.xcFails := rfl
@[simp] theorem State.setMrole_xcLate (s : State) (n : Nat) (x : ModRole) : (s.setMrole n x).xcLate = s.xcLate := rfl
@[simp] theorem State.setMrole_streams (s : State) (n : Nat) (x : ModRole) : (s.setMrole n x).streams = s.streams := rfl
@[simp] theorem State.setMrole_capUsed (s : State) (n : Nat) (x : ModRole) : (s.setMrole n x).capUsed = s.capUsed := rfl
@[simp] theorem State.setMrole_cap (s : State) (n : Nat) (x : ModRole) : (s.setMrole n x).cap = s.cap := rfl
@[simp] theorem State.setMrole_committed (s : State) (n : Nat) (x : ModRole) : (s.setMrole n x).committed = s.committed := rfl
@[simp] theorem State.setMrole_fns (s : State) (n : Nat) (x : ModRole) : (s.setMrole n x).fns = s.fns := rfl
@[simp] theorem State.setMrole_ecUsed (s : State) (n : Nat) (x : ModRole) : (s.setMrole n x).ecUsed = s.ecUsed := rfl
@[simp] theorem State.setMrole_srcSeen (s : State) (n : Nat) (x : ModRole) : (s.setMrole n x).srcSeen = s.srcSeen := rfl
@[simp] theorem State.setMrole_flight (s : State) (n : Nat) (x : ModRole) : (s.setMrole n x).flight = s.flight := rfl
@[simp] theorem State.setMrole_slotsUsed (s : State) (n : Nat) (x : ModRole) : (s.setMrole n x).slotsUsed = s.slotsUsed := rfl
@[simp] theorem State.setMrole_lanesOn (s : State) (n : Nat) (x : ModRole) : (s.setMrole n x).lanesOn = s.lanesOn := rfl
@[simp] theorem State.setMrole_laneIn (s : State) (n : Nat) (x : ModRole) : (s.setMrole n x).laneIn = s.laneIn := rfl
@[simp] theorem State.setMrole_legs (s : State) (n : Nat) (x : ModRole) : (s.setMrole n x).legs = s.legs := rfl
@[simp] theorem State.setMrole_posts (s : State) (n : Nat) (x : ModRole) : (s.setMrole n x).posts = s.posts := rfl
@[simp] theorem State.setMrole_laneReqs (s : State) (n : Nat) (x : ModRole) : (s.setMrole n x).laneReqs = s.laneReqs := rfl
@[simp] theorem State.setMrole_step12 (s : State) (n : Nat) (x : ModRole) : (s.setMrole n x).step12 = s.step12 := rfl
@[simp] theorem State.setMrole_trigs (s : State) (n : Nat) (x : ModRole) : (s.setMrole n x).trigs = s.trigs := rfl
@[simp] theorem State.setMrole_engs (s : State) (n : Nat) (x : ModRole) : (s.setMrole n x).engs = s.engs := rfl
@[simp] theorem State.setMrole_ltiles (s : State) (n : Nat) (x : ModRole) : (s.setMrole n x).ltiles = s.ltiles := rfl
@[simp] theorem State.setMrole_xslots (s : State) (n : Nat) (x : ModRole) : (s.setMrole n x).xslots = s.xslots := rfl
@[simp] theorem State.setMrole_plwAsked (s : State) (n : Nat) (x : ModRole) : (s.setMrole n x).plwAsked = s.plwAsked := rfl
@[simp] theorem State.setMrole_badCw (s : State) (n : Nat) (x : ModRole) : (s.setMrole n x).badCw = s.badCw := rfl
@[simp] theorem State.setMrole_timers (s : State) (n : Nat) (x : ModRole) : (s.setMrole n x).timers = s.timers := rfl
@[simp] theorem State.setMrole_pinEdges (s : State) (n : Nat) (x : ModRole) : (s.setMrole n x).pinEdges = s.pinEdges := rfl
@[simp] theorem State.setMrole_shadows (s : State) (n : Nat) (x : ModRole) : (s.setMrole n x).shadows = s.shadows := rfl
@[simp] theorem State.setMrole_dtSeen (s : State) (n : Nat) (x : ModRole) : (s.setMrole n x).dtSeen = s.dtSeen := rfl
@[simp] theorem State.setMrole_cores (s : State) (n : Nat) (x : ModRole) : (s.setMrole n x).cores = s.cores := rfl
@[simp] theorem State.setMrole_tcm (s : State) (n : Nat) (x : ModRole) : (s.setMrole n x).tcm = s.tcm := rfl
@[simp] theorem State.setMrole_sram (s : State) (n : Nat) (x : ModRole) : (s.setMrole n x).sram = s.sram := rfl
@[simp] theorem State.setMrole_bankKey (s : State) (n : Nat) (x : ModRole) : (s.setMrole n x).bankKey = s.bankKey := rfl
@[simp] theorem State.setMrole_bankFree (s : State) (n : Nat) (x : ModRole) : (s.setMrole n x).bankFree = s.bankFree := rfl
@[simp] theorem State.setMrole_bankWait (s : State) (n : Nat) (x : ModRole) : (s.setMrole n x).bankWait = s.bankWait := rfl
@[simp] theorem State.setMrole_wtab (s : State) (n : Nat) (x : ModRole) : (s.setMrole n x).wtab = s.wtab := rfl
@[simp] theorem State.setMrole_wgen (s : State) (n : Nat) (x : ModRole) : (s.setMrole n x).wgen = s.wgen := rfl
@[simp] theorem State.setMrole_wkey (s : State) (n : Nat) (x : ModRole) : (s.setMrole n x).wkey = s.wkey := rfl
@[simp] theorem State.setMrole_wrtFree (s : State) (n : Nat) (x : ModRole) : (s.setMrole n x).wrtFree = s.wrtFree := rfl
@[simp] theorem State.setMrole_bindLo (s : State) (n : Nat) (x : ModRole) : (s.setMrole n x).bindLo = s.bindLo := rfl
@[simp] theorem State.setMrole_nvm (s : State) (n : Nat) (x : ModRole) : (s.setMrole n x).nvm = s.nvm := rfl
@[simp] theorem State.setMrole_gated (s : State) (n : Nat) (x : ModRole) : (s.setMrole n x).gated = s.gated := rfl
@[simp] theorem State.setMrole_nv (s : State) (n : Nat) (x : ModRole) : (s.setMrole n x).nv = s.nv := rfl
@[simp] theorem State.setMrole_nvOp (s : State) (n : Nat) (x : ModRole) : (s.setMrole n x).nvOp = s.nvOp := rfl
@[simp] theorem State.setMrole_prkOp (s : State) (n : Nat) (x : ModRole) : (s.setMrole n x).prkOp = s.prkOp := rfl
@[simp] theorem State.setMrole_plwRun (s : State) (n : Nat) (x : ModRole) : (s.setMrole n x).plwRun = s.plwRun := rfl
@[simp] theorem State.setMrole_place (s : State) (n : Nat) (x : ModRole) : (s.setMrole n x).place = s.place := rfl
@[simp] theorem State.setMrole_patch (s : State) (n : Nat) (x : ModRole) : (s.setMrole n x).patch = s.patch := rfl
@[simp] theorem State.setMrole_patchLeft (s : State) (n : Nat) (x : ModRole) : (s.setMrole n x).patchLeft = s.patchLeft := rfl
@[simp] theorem State.setMrole_bootEnded (s : State) (n : Nat) (x : ModRole) : (s.setMrole n x).bootEnded = s.bootEnded := rfl
@[simp] theorem State.setMrole_loop (s : State) (n : Nat) (x : ModRole) : (s.setMrole n x).loop = s.loop := rfl
@[simp] theorem State.setMrole_linksUp (s : State) (n : Nat) (x : ModRole) : (s.setMrole n x).linksUp = s.linksUp := rfl
@[simp] theorem State.setMrole_hostSeats (s : State) (n : Nat) (x : ModRole) : (s.setMrole n x).hostSeats = s.hostSeats := rfl
@[simp] theorem State.setMrole_dmas (s : State) (n : Nat) (x : ModRole) : (s.setMrole n x).dmas = s.dmas := rfl
@[simp] theorem State.setMrole_mutes (s : State) (n : Nat) (x : ModRole) : (s.setMrole n x).mutes = s.mutes := rfl
@[simp] theorem State.setMrole_ecWin (s : State) (n : Nat) (x : ModRole) : (s.setMrole n x).ecWin = s.ecWin := rfl
@[simp] theorem State.setMrole_pfilt (s : State) (n : Nat) (x : ModRole) : (s.setMrole n x).pfilt = s.pfilt := rfl
@[simp] theorem State.setMrole_bplan (s : State) (n : Nat) (x : ModRole) : (s.setMrole n x).bplan = s.bplan := rfl
@[simp] theorem State.setMrole_bports (s : State) (n : Nat) (x : ModRole) : (s.setMrole n x).bports = s.bports := rfl
@[simp] theorem State.setMrole_aligned (s : State) (n : Nat) (x : ModRole) : (s.setMrole n x).aligned = s.aligned := rfl
@[simp] theorem State.setMrole_ringItems (s : State) (n : Nat) (x : ModRole) : (s.setMrole n x).ringItems = s.ringItems := rfl
@[simp] theorem State.setMrole_ringLast (s : State) (n : Nat) (x : ModRole) : (s.setMrole n x).ringLast = s.ringLast := rfl
@[simp] theorem State.setMrole_gItems (s : State) (n : Nat) (x : ModRole) : (s.setMrole n x).gItems = s.gItems := rfl
@[simp] theorem State.setMrole_outq (s : State) (n : Nat) (x : ModRole) : (s.setMrole n x).outq = s.outq := rfl
@[simp] theorem State.setMrole_ltr (s : State) (n : Nat) (x : ModRole) : (s.setMrole n x).ltr = s.ltr := rfl
@[simp] theorem State.setMrole_perst (s : State) (n : Nat) (x : ModRole) : (s.setMrole n x).perst = s.perst := rfl
@[simp] theorem State.setMrole_linkMax (s : State) (n : Nat) (x : ModRole) : (s.setMrole n x).linkMax = s.linkMax := rfl
@[simp] theorem State.setMrole_kpllOut (s : State) (n : Nat) (x : ModRole) : (s.setMrole n x).kpllOut = s.kpllOut := rfl
@[simp] theorem State.setMrole_punits (s : State) (n : Nat) (x : ModRole) : (s.setMrole n x).punits = s.punits := rfl
@[simp] theorem State.setMrole_yard (s : State) (n : Nat) (x : ModRole) : (s.setMrole n x).yard = s.yard := rfl
@[simp] theorem State.setMrole_quietLo (s : State) (n : Nat) (x : ModRole) : (s.setMrole n x).quietLo = s.quietLo := rfl
@[simp] theorem State.setMrole_heldLeg (s : State) (n : Nat) (x : ModRole) : (s.setMrole n x).heldLeg = s.heldLeg := rfl
@[simp] theorem State.setMrole_heldAcc (s : State) (n : Nat) (x : ModRole) : (s.setMrole n x).heldAcc = s.heldAcc := rfl
@[simp] theorem State.setMrole_supply (s : State) (n : Nat) (x : ModRole) : (s.setMrole n x).supply = s.supply := rfl
@[simp] theorem State.setMrole_frst (s : State) (n : Nat) (x : ModRole) : (s.setMrole n x).frst = s.frst := rfl
@[simp] theorem State.setMrole_frstAt (s : State) (n : Nat) (x : ModRole) : (s.setMrole n x).frstAt = s.frstAt := rfl
@[simp] theorem State.setMrole_cpll (s : State) (n : Nat) (x : ModRole) : (s.setMrole n x).cpll = s.cpll := rfl
@[simp] theorem State.setMrole_kpll (s : State) (n : Nat) (x : ModRole) : (s.setMrole n x).kpll = s.kpll := rfl
@[simp] theorem State.setMrole_kpllAon (s : State) (n : Nat) (x : ModRole) : (s.setMrole n x).kpllAon = s.kpllAon := rfl
@[simp] theorem State.setMrole_clkret (s : State) (n : Nat) (x : ModRole) : (s.setMrole n x).clkret = s.clkret := rfl
@[simp] theorem State.setMrole_tracer (s : State) (n : Nat) (x : ModRole) : (s.setMrole n x).tracer = s.tracer := rfl
@[simp] theorem State.setMrole_pinCh (s : State) (n : Nat) (x : ModRole) : (s.setMrole n x).pinCh = s.pinCh := rfl
@[simp] theorem State.setMrole_pinAt (s : State) (n : Nat) (x : ModRole) : (s.setMrole n x).pinAt = s.pinAt := rfl
@[simp] theorem State.setMrole_strapLock (s : State) (n : Nat) (x : ModRole) : (s.setMrole n x).strapLock = s.strapLock := rfl
@[simp] theorem State.setMrole_tap (s : State) (n : Nat) (x : ModRole) : (s.setMrole n x).tap = s.tap := rfl
@[simp] theorem State.setMrole_dbgRun (s : State) (n : Nat) (x : ModRole) : (s.setMrole n x).dbgRun = s.dbgRun := rfl

/-! ## State.setMinput -/

@[simp] theorem State.setMinput_pending (s : State) (n : Nat) (x : ModInput) : (s.setMinput n x).pending = s.pending := rfl
@[simp] theorem State.setMinput_et (s : State) (n : Nat) (x : ModInput) : (s.setMinput n x).et = s.et := rfl
@[simp] theorem State.setMinput_dt0 (s : State) (n : Nat) (x : ModInput) : (s.setMinput n x).dt0 = s.dt0 := rfl
@[simp] theorem State.setMinput_pace (s : State) (n : Nat) (x : ModInput) : (s.setMinput n x).pace = s.pace := rfl
@[simp] theorem State.setMinput_fv (s : State) (n : Nat) (x : ModInput) : (s.setMinput n x).fv = s.fv := rfl
@[simp] theorem State.setMinput_regs (s : State) (n : Nat) (x : ModInput) : (s.setMinput n x).regs = s.regs := rfl
@[simp] theorem State.setMinput_raised (s : State) (n : Nat) (x : ModInput) : (s.setMinput n x).raised = s.raised := rfl
@[simp] theorem State.setMinput_logs (s : State) (n : Nat) (x : ModInput) : (s.setMinput n x).logs = s.logs := rfl
@[simp] theorem State.setMinput_wlNow (s : State) (n : Nat) (x : ModInput) : (s.setMinput n x).wlNow = s.wlNow := rfl
@[simp] theorem State.setMinput_prkCyc (s : State) (n : Nat) (x : ModInput) : (s.setMinput n x).prkCyc = s.prkCyc := rfl
@[simp] theorem State.setMinput_out (s : State) (n : Nat) (x : ModInput) : (s.setMinput n x).out = s.out := rfl
@[simp] theorem State.setMinput_munits (s : State) (n : Nat) (x : ModInput) : (s.setMinput n x).munits = s.munits := rfl
@[simp] theorem State.setMinput_mroles (s : State) (n : Nat) (x : ModInput) : (s.setMinput n x).mroles = s.mroles := rfl
@[simp] theorem State.setMinput_mtiles (s : State) (n : Nat) (x : ModInput) : (s.setMinput n x).mtiles = s.mtiles := rfl
@[simp] theorem State.setMinput_mcs (s : State) (n : Nat) (x : ModInput) : (s.setMinput n x).mcs = s.mcs := rfl
@[simp] theorem State.setMinput_xcFails (s : State) (n : Nat) (x : ModInput) : (s.setMinput n x).xcFails = s.xcFails := rfl
@[simp] theorem State.setMinput_xcLate (s : State) (n : Nat) (x : ModInput) : (s.setMinput n x).xcLate = s.xcLate := rfl
@[simp] theorem State.setMinput_streams (s : State) (n : Nat) (x : ModInput) : (s.setMinput n x).streams = s.streams := rfl
@[simp] theorem State.setMinput_capUsed (s : State) (n : Nat) (x : ModInput) : (s.setMinput n x).capUsed = s.capUsed := rfl
@[simp] theorem State.setMinput_cap (s : State) (n : Nat) (x : ModInput) : (s.setMinput n x).cap = s.cap := rfl
@[simp] theorem State.setMinput_committed (s : State) (n : Nat) (x : ModInput) : (s.setMinput n x).committed = s.committed := rfl
@[simp] theorem State.setMinput_fns (s : State) (n : Nat) (x : ModInput) : (s.setMinput n x).fns = s.fns := rfl
@[simp] theorem State.setMinput_ecUsed (s : State) (n : Nat) (x : ModInput) : (s.setMinput n x).ecUsed = s.ecUsed := rfl
@[simp] theorem State.setMinput_srcSeen (s : State) (n : Nat) (x : ModInput) : (s.setMinput n x).srcSeen = s.srcSeen := rfl
@[simp] theorem State.setMinput_flight (s : State) (n : Nat) (x : ModInput) : (s.setMinput n x).flight = s.flight := rfl
@[simp] theorem State.setMinput_slotsUsed (s : State) (n : Nat) (x : ModInput) : (s.setMinput n x).slotsUsed = s.slotsUsed := rfl
@[simp] theorem State.setMinput_lanesOn (s : State) (n : Nat) (x : ModInput) : (s.setMinput n x).lanesOn = s.lanesOn := rfl
@[simp] theorem State.setMinput_laneIn (s : State) (n : Nat) (x : ModInput) : (s.setMinput n x).laneIn = s.laneIn := rfl
@[simp] theorem State.setMinput_legs (s : State) (n : Nat) (x : ModInput) : (s.setMinput n x).legs = s.legs := rfl
@[simp] theorem State.setMinput_posts (s : State) (n : Nat) (x : ModInput) : (s.setMinput n x).posts = s.posts := rfl
@[simp] theorem State.setMinput_laneReqs (s : State) (n : Nat) (x : ModInput) : (s.setMinput n x).laneReqs = s.laneReqs := rfl
@[simp] theorem State.setMinput_step12 (s : State) (n : Nat) (x : ModInput) : (s.setMinput n x).step12 = s.step12 := rfl
@[simp] theorem State.setMinput_trigs (s : State) (n : Nat) (x : ModInput) : (s.setMinput n x).trigs = s.trigs := rfl
@[simp] theorem State.setMinput_engs (s : State) (n : Nat) (x : ModInput) : (s.setMinput n x).engs = s.engs := rfl
@[simp] theorem State.setMinput_ltiles (s : State) (n : Nat) (x : ModInput) : (s.setMinput n x).ltiles = s.ltiles := rfl
@[simp] theorem State.setMinput_xslots (s : State) (n : Nat) (x : ModInput) : (s.setMinput n x).xslots = s.xslots := rfl
@[simp] theorem State.setMinput_plwAsked (s : State) (n : Nat) (x : ModInput) : (s.setMinput n x).plwAsked = s.plwAsked := rfl
@[simp] theorem State.setMinput_badCw (s : State) (n : Nat) (x : ModInput) : (s.setMinput n x).badCw = s.badCw := rfl
@[simp] theorem State.setMinput_timers (s : State) (n : Nat) (x : ModInput) : (s.setMinput n x).timers = s.timers := rfl
@[simp] theorem State.setMinput_pinEdges (s : State) (n : Nat) (x : ModInput) : (s.setMinput n x).pinEdges = s.pinEdges := rfl
@[simp] theorem State.setMinput_shadows (s : State) (n : Nat) (x : ModInput) : (s.setMinput n x).shadows = s.shadows := rfl
@[simp] theorem State.setMinput_dtSeen (s : State) (n : Nat) (x : ModInput) : (s.setMinput n x).dtSeen = s.dtSeen := rfl
@[simp] theorem State.setMinput_cores (s : State) (n : Nat) (x : ModInput) : (s.setMinput n x).cores = s.cores := rfl
@[simp] theorem State.setMinput_tcm (s : State) (n : Nat) (x : ModInput) : (s.setMinput n x).tcm = s.tcm := rfl
@[simp] theorem State.setMinput_sram (s : State) (n : Nat) (x : ModInput) : (s.setMinput n x).sram = s.sram := rfl
@[simp] theorem State.setMinput_bankKey (s : State) (n : Nat) (x : ModInput) : (s.setMinput n x).bankKey = s.bankKey := rfl
@[simp] theorem State.setMinput_bankFree (s : State) (n : Nat) (x : ModInput) : (s.setMinput n x).bankFree = s.bankFree := rfl
@[simp] theorem State.setMinput_bankWait (s : State) (n : Nat) (x : ModInput) : (s.setMinput n x).bankWait = s.bankWait := rfl
@[simp] theorem State.setMinput_wtab (s : State) (n : Nat) (x : ModInput) : (s.setMinput n x).wtab = s.wtab := rfl
@[simp] theorem State.setMinput_wgen (s : State) (n : Nat) (x : ModInput) : (s.setMinput n x).wgen = s.wgen := rfl
@[simp] theorem State.setMinput_wkey (s : State) (n : Nat) (x : ModInput) : (s.setMinput n x).wkey = s.wkey := rfl
@[simp] theorem State.setMinput_wrtFree (s : State) (n : Nat) (x : ModInput) : (s.setMinput n x).wrtFree = s.wrtFree := rfl
@[simp] theorem State.setMinput_bindLo (s : State) (n : Nat) (x : ModInput) : (s.setMinput n x).bindLo = s.bindLo := rfl
@[simp] theorem State.setMinput_nvm (s : State) (n : Nat) (x : ModInput) : (s.setMinput n x).nvm = s.nvm := rfl
@[simp] theorem State.setMinput_gated (s : State) (n : Nat) (x : ModInput) : (s.setMinput n x).gated = s.gated := rfl
@[simp] theorem State.setMinput_nv (s : State) (n : Nat) (x : ModInput) : (s.setMinput n x).nv = s.nv := rfl
@[simp] theorem State.setMinput_nvOp (s : State) (n : Nat) (x : ModInput) : (s.setMinput n x).nvOp = s.nvOp := rfl
@[simp] theorem State.setMinput_prkOp (s : State) (n : Nat) (x : ModInput) : (s.setMinput n x).prkOp = s.prkOp := rfl
@[simp] theorem State.setMinput_plwRun (s : State) (n : Nat) (x : ModInput) : (s.setMinput n x).plwRun = s.plwRun := rfl
@[simp] theorem State.setMinput_place (s : State) (n : Nat) (x : ModInput) : (s.setMinput n x).place = s.place := rfl
@[simp] theorem State.setMinput_patch (s : State) (n : Nat) (x : ModInput) : (s.setMinput n x).patch = s.patch := rfl
@[simp] theorem State.setMinput_patchLeft (s : State) (n : Nat) (x : ModInput) : (s.setMinput n x).patchLeft = s.patchLeft := rfl
@[simp] theorem State.setMinput_bootEnded (s : State) (n : Nat) (x : ModInput) : (s.setMinput n x).bootEnded = s.bootEnded := rfl
@[simp] theorem State.setMinput_loop (s : State) (n : Nat) (x : ModInput) : (s.setMinput n x).loop = s.loop := rfl
@[simp] theorem State.setMinput_linksUp (s : State) (n : Nat) (x : ModInput) : (s.setMinput n x).linksUp = s.linksUp := rfl
@[simp] theorem State.setMinput_hostSeats (s : State) (n : Nat) (x : ModInput) : (s.setMinput n x).hostSeats = s.hostSeats := rfl
@[simp] theorem State.setMinput_dmas (s : State) (n : Nat) (x : ModInput) : (s.setMinput n x).dmas = s.dmas := rfl
@[simp] theorem State.setMinput_mutes (s : State) (n : Nat) (x : ModInput) : (s.setMinput n x).mutes = s.mutes := rfl
@[simp] theorem State.setMinput_ecWin (s : State) (n : Nat) (x : ModInput) : (s.setMinput n x).ecWin = s.ecWin := rfl
@[simp] theorem State.setMinput_pfilt (s : State) (n : Nat) (x : ModInput) : (s.setMinput n x).pfilt = s.pfilt := rfl
@[simp] theorem State.setMinput_bplan (s : State) (n : Nat) (x : ModInput) : (s.setMinput n x).bplan = s.bplan := rfl
@[simp] theorem State.setMinput_bports (s : State) (n : Nat) (x : ModInput) : (s.setMinput n x).bports = s.bports := rfl
@[simp] theorem State.setMinput_aligned (s : State) (n : Nat) (x : ModInput) : (s.setMinput n x).aligned = s.aligned := rfl
@[simp] theorem State.setMinput_ringItems (s : State) (n : Nat) (x : ModInput) : (s.setMinput n x).ringItems = s.ringItems := rfl
@[simp] theorem State.setMinput_ringLast (s : State) (n : Nat) (x : ModInput) : (s.setMinput n x).ringLast = s.ringLast := rfl
@[simp] theorem State.setMinput_gItems (s : State) (n : Nat) (x : ModInput) : (s.setMinput n x).gItems = s.gItems := rfl
@[simp] theorem State.setMinput_outq (s : State) (n : Nat) (x : ModInput) : (s.setMinput n x).outq = s.outq := rfl
@[simp] theorem State.setMinput_ltr (s : State) (n : Nat) (x : ModInput) : (s.setMinput n x).ltr = s.ltr := rfl
@[simp] theorem State.setMinput_perst (s : State) (n : Nat) (x : ModInput) : (s.setMinput n x).perst = s.perst := rfl
@[simp] theorem State.setMinput_linkMax (s : State) (n : Nat) (x : ModInput) : (s.setMinput n x).linkMax = s.linkMax := rfl
@[simp] theorem State.setMinput_kpllOut (s : State) (n : Nat) (x : ModInput) : (s.setMinput n x).kpllOut = s.kpllOut := rfl
@[simp] theorem State.setMinput_punits (s : State) (n : Nat) (x : ModInput) : (s.setMinput n x).punits = s.punits := rfl
@[simp] theorem State.setMinput_yard (s : State) (n : Nat) (x : ModInput) : (s.setMinput n x).yard = s.yard := rfl
@[simp] theorem State.setMinput_quietLo (s : State) (n : Nat) (x : ModInput) : (s.setMinput n x).quietLo = s.quietLo := rfl
@[simp] theorem State.setMinput_heldLeg (s : State) (n : Nat) (x : ModInput) : (s.setMinput n x).heldLeg = s.heldLeg := rfl
@[simp] theorem State.setMinput_heldAcc (s : State) (n : Nat) (x : ModInput) : (s.setMinput n x).heldAcc = s.heldAcc := rfl
@[simp] theorem State.setMinput_supply (s : State) (n : Nat) (x : ModInput) : (s.setMinput n x).supply = s.supply := rfl
@[simp] theorem State.setMinput_frst (s : State) (n : Nat) (x : ModInput) : (s.setMinput n x).frst = s.frst := rfl
@[simp] theorem State.setMinput_frstAt (s : State) (n : Nat) (x : ModInput) : (s.setMinput n x).frstAt = s.frstAt := rfl
@[simp] theorem State.setMinput_cpll (s : State) (n : Nat) (x : ModInput) : (s.setMinput n x).cpll = s.cpll := rfl
@[simp] theorem State.setMinput_kpll (s : State) (n : Nat) (x : ModInput) : (s.setMinput n x).kpll = s.kpll := rfl
@[simp] theorem State.setMinput_kpllAon (s : State) (n : Nat) (x : ModInput) : (s.setMinput n x).kpllAon = s.kpllAon := rfl
@[simp] theorem State.setMinput_clkret (s : State) (n : Nat) (x : ModInput) : (s.setMinput n x).clkret = s.clkret := rfl
@[simp] theorem State.setMinput_tracer (s : State) (n : Nat) (x : ModInput) : (s.setMinput n x).tracer = s.tracer := rfl
@[simp] theorem State.setMinput_pinCh (s : State) (n : Nat) (x : ModInput) : (s.setMinput n x).pinCh = s.pinCh := rfl
@[simp] theorem State.setMinput_pinAt (s : State) (n : Nat) (x : ModInput) : (s.setMinput n x).pinAt = s.pinAt := rfl
@[simp] theorem State.setMinput_strapLock (s : State) (n : Nat) (x : ModInput) : (s.setMinput n x).strapLock = s.strapLock := rfl
@[simp] theorem State.setMinput_tap (s : State) (n : Nat) (x : ModInput) : (s.setMinput n x).tap = s.tap := rfl
@[simp] theorem State.setMinput_dbgRun (s : State) (n : Nat) (x : ModInput) : (s.setMinput n x).dbgRun = s.dbgRun := rfl

/-! ## State.setMtile -/

@[simp] theorem State.setMtile_pending (s : State) (t : Nat) (x : ModTile) : (s.setMtile t x).pending = s.pending := rfl
@[simp] theorem State.setMtile_et (s : State) (t : Nat) (x : ModTile) : (s.setMtile t x).et = s.et := rfl
@[simp] theorem State.setMtile_dt0 (s : State) (t : Nat) (x : ModTile) : (s.setMtile t x).dt0 = s.dt0 := rfl
@[simp] theorem State.setMtile_pace (s : State) (t : Nat) (x : ModTile) : (s.setMtile t x).pace = s.pace := rfl
@[simp] theorem State.setMtile_fv (s : State) (t : Nat) (x : ModTile) : (s.setMtile t x).fv = s.fv := rfl
@[simp] theorem State.setMtile_regs (s : State) (t : Nat) (x : ModTile) : (s.setMtile t x).regs = s.regs := rfl
@[simp] theorem State.setMtile_raised (s : State) (t : Nat) (x : ModTile) : (s.setMtile t x).raised = s.raised := rfl
@[simp] theorem State.setMtile_logs (s : State) (t : Nat) (x : ModTile) : (s.setMtile t x).logs = s.logs := rfl
@[simp] theorem State.setMtile_wlNow (s : State) (t : Nat) (x : ModTile) : (s.setMtile t x).wlNow = s.wlNow := rfl
@[simp] theorem State.setMtile_prkCyc (s : State) (t : Nat) (x : ModTile) : (s.setMtile t x).prkCyc = s.prkCyc := rfl
@[simp] theorem State.setMtile_out (s : State) (t : Nat) (x : ModTile) : (s.setMtile t x).out = s.out := rfl
@[simp] theorem State.setMtile_munits (s : State) (t : Nat) (x : ModTile) : (s.setMtile t x).munits = s.munits := rfl
@[simp] theorem State.setMtile_mroles (s : State) (t : Nat) (x : ModTile) : (s.setMtile t x).mroles = s.mroles := rfl
@[simp] theorem State.setMtile_minputs (s : State) (t : Nat) (x : ModTile) : (s.setMtile t x).minputs = s.minputs := rfl
@[simp] theorem State.setMtile_mcs (s : State) (t : Nat) (x : ModTile) : (s.setMtile t x).mcs = s.mcs := rfl
@[simp] theorem State.setMtile_xcFails (s : State) (t : Nat) (x : ModTile) : (s.setMtile t x).xcFails = s.xcFails := rfl
@[simp] theorem State.setMtile_xcLate (s : State) (t : Nat) (x : ModTile) : (s.setMtile t x).xcLate = s.xcLate := rfl
@[simp] theorem State.setMtile_streams (s : State) (t : Nat) (x : ModTile) : (s.setMtile t x).streams = s.streams := rfl
@[simp] theorem State.setMtile_capUsed (s : State) (t : Nat) (x : ModTile) : (s.setMtile t x).capUsed = s.capUsed := rfl
@[simp] theorem State.setMtile_cap (s : State) (t : Nat) (x : ModTile) : (s.setMtile t x).cap = s.cap := rfl
@[simp] theorem State.setMtile_committed (s : State) (t : Nat) (x : ModTile) : (s.setMtile t x).committed = s.committed := rfl
@[simp] theorem State.setMtile_fns (s : State) (t : Nat) (x : ModTile) : (s.setMtile t x).fns = s.fns := rfl
@[simp] theorem State.setMtile_ecUsed (s : State) (t : Nat) (x : ModTile) : (s.setMtile t x).ecUsed = s.ecUsed := rfl
@[simp] theorem State.setMtile_srcSeen (s : State) (t : Nat) (x : ModTile) : (s.setMtile t x).srcSeen = s.srcSeen := rfl
@[simp] theorem State.setMtile_flight (s : State) (t : Nat) (x : ModTile) : (s.setMtile t x).flight = s.flight := rfl
@[simp] theorem State.setMtile_slotsUsed (s : State) (t : Nat) (x : ModTile) : (s.setMtile t x).slotsUsed = s.slotsUsed := rfl
@[simp] theorem State.setMtile_lanesOn (s : State) (t : Nat) (x : ModTile) : (s.setMtile t x).lanesOn = s.lanesOn := rfl
@[simp] theorem State.setMtile_laneIn (s : State) (t : Nat) (x : ModTile) : (s.setMtile t x).laneIn = s.laneIn := rfl
@[simp] theorem State.setMtile_legs (s : State) (t : Nat) (x : ModTile) : (s.setMtile t x).legs = s.legs := rfl
@[simp] theorem State.setMtile_posts (s : State) (t : Nat) (x : ModTile) : (s.setMtile t x).posts = s.posts := rfl
@[simp] theorem State.setMtile_laneReqs (s : State) (t : Nat) (x : ModTile) : (s.setMtile t x).laneReqs = s.laneReqs := rfl
@[simp] theorem State.setMtile_step12 (s : State) (t : Nat) (x : ModTile) : (s.setMtile t x).step12 = s.step12 := rfl
@[simp] theorem State.setMtile_trigs (s : State) (t : Nat) (x : ModTile) : (s.setMtile t x).trigs = s.trigs := rfl
@[simp] theorem State.setMtile_engs (s : State) (t : Nat) (x : ModTile) : (s.setMtile t x).engs = s.engs := rfl
@[simp] theorem State.setMtile_ltiles (s : State) (t : Nat) (x : ModTile) : (s.setMtile t x).ltiles = s.ltiles := rfl
@[simp] theorem State.setMtile_xslots (s : State) (t : Nat) (x : ModTile) : (s.setMtile t x).xslots = s.xslots := rfl
@[simp] theorem State.setMtile_plwAsked (s : State) (t : Nat) (x : ModTile) : (s.setMtile t x).plwAsked = s.plwAsked := rfl
@[simp] theorem State.setMtile_badCw (s : State) (t : Nat) (x : ModTile) : (s.setMtile t x).badCw = s.badCw := rfl
@[simp] theorem State.setMtile_timers (s : State) (t : Nat) (x : ModTile) : (s.setMtile t x).timers = s.timers := rfl
@[simp] theorem State.setMtile_pinEdges (s : State) (t : Nat) (x : ModTile) : (s.setMtile t x).pinEdges = s.pinEdges := rfl
@[simp] theorem State.setMtile_shadows (s : State) (t : Nat) (x : ModTile) : (s.setMtile t x).shadows = s.shadows := rfl
@[simp] theorem State.setMtile_dtSeen (s : State) (t : Nat) (x : ModTile) : (s.setMtile t x).dtSeen = s.dtSeen := rfl
@[simp] theorem State.setMtile_cores (s : State) (t : Nat) (x : ModTile) : (s.setMtile t x).cores = s.cores := rfl
@[simp] theorem State.setMtile_tcm (s : State) (t : Nat) (x : ModTile) : (s.setMtile t x).tcm = s.tcm := rfl
@[simp] theorem State.setMtile_sram (s : State) (t : Nat) (x : ModTile) : (s.setMtile t x).sram = s.sram := rfl
@[simp] theorem State.setMtile_bankKey (s : State) (t : Nat) (x : ModTile) : (s.setMtile t x).bankKey = s.bankKey := rfl
@[simp] theorem State.setMtile_bankFree (s : State) (t : Nat) (x : ModTile) : (s.setMtile t x).bankFree = s.bankFree := rfl
@[simp] theorem State.setMtile_bankWait (s : State) (t : Nat) (x : ModTile) : (s.setMtile t x).bankWait = s.bankWait := rfl
@[simp] theorem State.setMtile_wtab (s : State) (t : Nat) (x : ModTile) : (s.setMtile t x).wtab = s.wtab := rfl
@[simp] theorem State.setMtile_wgen (s : State) (t : Nat) (x : ModTile) : (s.setMtile t x).wgen = s.wgen := rfl
@[simp] theorem State.setMtile_wkey (s : State) (t : Nat) (x : ModTile) : (s.setMtile t x).wkey = s.wkey := rfl
@[simp] theorem State.setMtile_wrtFree (s : State) (t : Nat) (x : ModTile) : (s.setMtile t x).wrtFree = s.wrtFree := rfl
@[simp] theorem State.setMtile_bindLo (s : State) (t : Nat) (x : ModTile) : (s.setMtile t x).bindLo = s.bindLo := rfl
@[simp] theorem State.setMtile_nvm (s : State) (t : Nat) (x : ModTile) : (s.setMtile t x).nvm = s.nvm := rfl
@[simp] theorem State.setMtile_gated (s : State) (t : Nat) (x : ModTile) : (s.setMtile t x).gated = s.gated := rfl
@[simp] theorem State.setMtile_nv (s : State) (t : Nat) (x : ModTile) : (s.setMtile t x).nv = s.nv := rfl
@[simp] theorem State.setMtile_nvOp (s : State) (t : Nat) (x : ModTile) : (s.setMtile t x).nvOp = s.nvOp := rfl
@[simp] theorem State.setMtile_prkOp (s : State) (t : Nat) (x : ModTile) : (s.setMtile t x).prkOp = s.prkOp := rfl
@[simp] theorem State.setMtile_plwRun (s : State) (t : Nat) (x : ModTile) : (s.setMtile t x).plwRun = s.plwRun := rfl
@[simp] theorem State.setMtile_place (s : State) (t : Nat) (x : ModTile) : (s.setMtile t x).place = s.place := rfl
@[simp] theorem State.setMtile_patch (s : State) (t : Nat) (x : ModTile) : (s.setMtile t x).patch = s.patch := rfl
@[simp] theorem State.setMtile_patchLeft (s : State) (t : Nat) (x : ModTile) : (s.setMtile t x).patchLeft = s.patchLeft := rfl
@[simp] theorem State.setMtile_bootEnded (s : State) (t : Nat) (x : ModTile) : (s.setMtile t x).bootEnded = s.bootEnded := rfl
@[simp] theorem State.setMtile_loop (s : State) (t : Nat) (x : ModTile) : (s.setMtile t x).loop = s.loop := rfl
@[simp] theorem State.setMtile_linksUp (s : State) (t : Nat) (x : ModTile) : (s.setMtile t x).linksUp = s.linksUp := rfl
@[simp] theorem State.setMtile_hostSeats (s : State) (t : Nat) (x : ModTile) : (s.setMtile t x).hostSeats = s.hostSeats := rfl
@[simp] theorem State.setMtile_dmas (s : State) (t : Nat) (x : ModTile) : (s.setMtile t x).dmas = s.dmas := rfl
@[simp] theorem State.setMtile_mutes (s : State) (t : Nat) (x : ModTile) : (s.setMtile t x).mutes = s.mutes := rfl
@[simp] theorem State.setMtile_ecWin (s : State) (t : Nat) (x : ModTile) : (s.setMtile t x).ecWin = s.ecWin := rfl
@[simp] theorem State.setMtile_pfilt (s : State) (t : Nat) (x : ModTile) : (s.setMtile t x).pfilt = s.pfilt := rfl
@[simp] theorem State.setMtile_bplan (s : State) (t : Nat) (x : ModTile) : (s.setMtile t x).bplan = s.bplan := rfl
@[simp] theorem State.setMtile_bports (s : State) (t : Nat) (x : ModTile) : (s.setMtile t x).bports = s.bports := rfl
@[simp] theorem State.setMtile_aligned (s : State) (t : Nat) (x : ModTile) : (s.setMtile t x).aligned = s.aligned := rfl
@[simp] theorem State.setMtile_ringItems (s : State) (t : Nat) (x : ModTile) : (s.setMtile t x).ringItems = s.ringItems := rfl
@[simp] theorem State.setMtile_ringLast (s : State) (t : Nat) (x : ModTile) : (s.setMtile t x).ringLast = s.ringLast := rfl
@[simp] theorem State.setMtile_gItems (s : State) (t : Nat) (x : ModTile) : (s.setMtile t x).gItems = s.gItems := rfl
@[simp] theorem State.setMtile_outq (s : State) (t : Nat) (x : ModTile) : (s.setMtile t x).outq = s.outq := rfl
@[simp] theorem State.setMtile_ltr (s : State) (t : Nat) (x : ModTile) : (s.setMtile t x).ltr = s.ltr := rfl
@[simp] theorem State.setMtile_perst (s : State) (t : Nat) (x : ModTile) : (s.setMtile t x).perst = s.perst := rfl
@[simp] theorem State.setMtile_linkMax (s : State) (t : Nat) (x : ModTile) : (s.setMtile t x).linkMax = s.linkMax := rfl
@[simp] theorem State.setMtile_kpllOut (s : State) (t : Nat) (x : ModTile) : (s.setMtile t x).kpllOut = s.kpllOut := rfl
@[simp] theorem State.setMtile_punits (s : State) (t : Nat) (x : ModTile) : (s.setMtile t x).punits = s.punits := rfl
@[simp] theorem State.setMtile_yard (s : State) (t : Nat) (x : ModTile) : (s.setMtile t x).yard = s.yard := rfl
@[simp] theorem State.setMtile_quietLo (s : State) (t : Nat) (x : ModTile) : (s.setMtile t x).quietLo = s.quietLo := rfl
@[simp] theorem State.setMtile_heldLeg (s : State) (t : Nat) (x : ModTile) : (s.setMtile t x).heldLeg = s.heldLeg := rfl
@[simp] theorem State.setMtile_heldAcc (s : State) (t : Nat) (x : ModTile) : (s.setMtile t x).heldAcc = s.heldAcc := rfl
@[simp] theorem State.setMtile_supply (s : State) (t : Nat) (x : ModTile) : (s.setMtile t x).supply = s.supply := rfl
@[simp] theorem State.setMtile_frst (s : State) (t : Nat) (x : ModTile) : (s.setMtile t x).frst = s.frst := rfl
@[simp] theorem State.setMtile_frstAt (s : State) (t : Nat) (x : ModTile) : (s.setMtile t x).frstAt = s.frstAt := rfl
@[simp] theorem State.setMtile_cpll (s : State) (t : Nat) (x : ModTile) : (s.setMtile t x).cpll = s.cpll := rfl
@[simp] theorem State.setMtile_kpll (s : State) (t : Nat) (x : ModTile) : (s.setMtile t x).kpll = s.kpll := rfl
@[simp] theorem State.setMtile_kpllAon (s : State) (t : Nat) (x : ModTile) : (s.setMtile t x).kpllAon = s.kpllAon := rfl
@[simp] theorem State.setMtile_clkret (s : State) (t : Nat) (x : ModTile) : (s.setMtile t x).clkret = s.clkret := rfl
@[simp] theorem State.setMtile_tracer (s : State) (t : Nat) (x : ModTile) : (s.setMtile t x).tracer = s.tracer := rfl
@[simp] theorem State.setMtile_pinCh (s : State) (t : Nat) (x : ModTile) : (s.setMtile t x).pinCh = s.pinCh := rfl
@[simp] theorem State.setMtile_pinAt (s : State) (t : Nat) (x : ModTile) : (s.setMtile t x).pinAt = s.pinAt := rfl
@[simp] theorem State.setMtile_strapLock (s : State) (t : Nat) (x : ModTile) : (s.setMtile t x).strapLock = s.strapLock := rfl
@[simp] theorem State.setMtile_tap (s : State) (t : Nat) (x : ModTile) : (s.setMtile t x).tap = s.tap := rfl
@[simp] theorem State.setMtile_dbgRun (s : State) (t : Nat) (x : ModTile) : (s.setMtile t x).dbgRun = s.dbgRun := rfl

/-! ## State.setStream -/

@[simp] theorem State.setStream_pending (s : State) (i : Nat) (x : Stream) : (s.setStream i x).pending = s.pending := rfl
@[simp] theorem State.setStream_et (s : State) (i : Nat) (x : Stream) : (s.setStream i x).et = s.et := rfl
@[simp] theorem State.setStream_dt0 (s : State) (i : Nat) (x : Stream) : (s.setStream i x).dt0 = s.dt0 := rfl
@[simp] theorem State.setStream_pace (s : State) (i : Nat) (x : Stream) : (s.setStream i x).pace = s.pace := rfl
@[simp] theorem State.setStream_fv (s : State) (i : Nat) (x : Stream) : (s.setStream i x).fv = s.fv := rfl
@[simp] theorem State.setStream_regs (s : State) (i : Nat) (x : Stream) : (s.setStream i x).regs = s.regs := rfl
@[simp] theorem State.setStream_raised (s : State) (i : Nat) (x : Stream) : (s.setStream i x).raised = s.raised := rfl
@[simp] theorem State.setStream_logs (s : State) (i : Nat) (x : Stream) : (s.setStream i x).logs = s.logs := rfl
@[simp] theorem State.setStream_wlNow (s : State) (i : Nat) (x : Stream) : (s.setStream i x).wlNow = s.wlNow := rfl
@[simp] theorem State.setStream_prkCyc (s : State) (i : Nat) (x : Stream) : (s.setStream i x).prkCyc = s.prkCyc := rfl
@[simp] theorem State.setStream_out (s : State) (i : Nat) (x : Stream) : (s.setStream i x).out = s.out := rfl
@[simp] theorem State.setStream_munits (s : State) (i : Nat) (x : Stream) : (s.setStream i x).munits = s.munits := rfl
@[simp] theorem State.setStream_mroles (s : State) (i : Nat) (x : Stream) : (s.setStream i x).mroles = s.mroles := rfl
@[simp] theorem State.setStream_minputs (s : State) (i : Nat) (x : Stream) : (s.setStream i x).minputs = s.minputs := rfl
@[simp] theorem State.setStream_mtiles (s : State) (i : Nat) (x : Stream) : (s.setStream i x).mtiles = s.mtiles := rfl
@[simp] theorem State.setStream_mcs (s : State) (i : Nat) (x : Stream) : (s.setStream i x).mcs = s.mcs := rfl
@[simp] theorem State.setStream_xcFails (s : State) (i : Nat) (x : Stream) : (s.setStream i x).xcFails = s.xcFails := rfl
@[simp] theorem State.setStream_xcLate (s : State) (i : Nat) (x : Stream) : (s.setStream i x).xcLate = s.xcLate := rfl
@[simp] theorem State.setStream_capUsed (s : State) (i : Nat) (x : Stream) : (s.setStream i x).capUsed = s.capUsed := rfl
@[simp] theorem State.setStream_cap (s : State) (i : Nat) (x : Stream) : (s.setStream i x).cap = s.cap := rfl
@[simp] theorem State.setStream_committed (s : State) (i : Nat) (x : Stream) : (s.setStream i x).committed = s.committed := rfl
@[simp] theorem State.setStream_fns (s : State) (i : Nat) (x : Stream) : (s.setStream i x).fns = s.fns := rfl
@[simp] theorem State.setStream_ecUsed (s : State) (i : Nat) (x : Stream) : (s.setStream i x).ecUsed = s.ecUsed := rfl
@[simp] theorem State.setStream_srcSeen (s : State) (i : Nat) (x : Stream) : (s.setStream i x).srcSeen = s.srcSeen := rfl
@[simp] theorem State.setStream_flight (s : State) (i : Nat) (x : Stream) : (s.setStream i x).flight = s.flight := rfl
@[simp] theorem State.setStream_slotsUsed (s : State) (i : Nat) (x : Stream) : (s.setStream i x).slotsUsed = s.slotsUsed := rfl
@[simp] theorem State.setStream_lanesOn (s : State) (i : Nat) (x : Stream) : (s.setStream i x).lanesOn = s.lanesOn := rfl
@[simp] theorem State.setStream_laneIn (s : State) (i : Nat) (x : Stream) : (s.setStream i x).laneIn = s.laneIn := rfl
@[simp] theorem State.setStream_legs (s : State) (i : Nat) (x : Stream) : (s.setStream i x).legs = s.legs := rfl
@[simp] theorem State.setStream_posts (s : State) (i : Nat) (x : Stream) : (s.setStream i x).posts = s.posts := rfl
@[simp] theorem State.setStream_laneReqs (s : State) (i : Nat) (x : Stream) : (s.setStream i x).laneReqs = s.laneReqs := rfl
@[simp] theorem State.setStream_step12 (s : State) (i : Nat) (x : Stream) : (s.setStream i x).step12 = s.step12 := rfl
@[simp] theorem State.setStream_trigs (s : State) (i : Nat) (x : Stream) : (s.setStream i x).trigs = s.trigs := rfl
@[simp] theorem State.setStream_engs (s : State) (i : Nat) (x : Stream) : (s.setStream i x).engs = s.engs := rfl
@[simp] theorem State.setStream_ltiles (s : State) (i : Nat) (x : Stream) : (s.setStream i x).ltiles = s.ltiles := rfl
@[simp] theorem State.setStream_xslots (s : State) (i : Nat) (x : Stream) : (s.setStream i x).xslots = s.xslots := rfl
@[simp] theorem State.setStream_plwAsked (s : State) (i : Nat) (x : Stream) : (s.setStream i x).plwAsked = s.plwAsked := rfl
@[simp] theorem State.setStream_badCw (s : State) (i : Nat) (x : Stream) : (s.setStream i x).badCw = s.badCw := rfl
@[simp] theorem State.setStream_timers (s : State) (i : Nat) (x : Stream) : (s.setStream i x).timers = s.timers := rfl
@[simp] theorem State.setStream_pinEdges (s : State) (i : Nat) (x : Stream) : (s.setStream i x).pinEdges = s.pinEdges := rfl
@[simp] theorem State.setStream_shadows (s : State) (i : Nat) (x : Stream) : (s.setStream i x).shadows = s.shadows := rfl
@[simp] theorem State.setStream_dtSeen (s : State) (i : Nat) (x : Stream) : (s.setStream i x).dtSeen = s.dtSeen := rfl
@[simp] theorem State.setStream_cores (s : State) (i : Nat) (x : Stream) : (s.setStream i x).cores = s.cores := rfl
@[simp] theorem State.setStream_tcm (s : State) (i : Nat) (x : Stream) : (s.setStream i x).tcm = s.tcm := rfl
@[simp] theorem State.setStream_sram (s : State) (i : Nat) (x : Stream) : (s.setStream i x).sram = s.sram := rfl
@[simp] theorem State.setStream_bankKey (s : State) (i : Nat) (x : Stream) : (s.setStream i x).bankKey = s.bankKey := rfl
@[simp] theorem State.setStream_bankFree (s : State) (i : Nat) (x : Stream) : (s.setStream i x).bankFree = s.bankFree := rfl
@[simp] theorem State.setStream_bankWait (s : State) (i : Nat) (x : Stream) : (s.setStream i x).bankWait = s.bankWait := rfl
@[simp] theorem State.setStream_wtab (s : State) (i : Nat) (x : Stream) : (s.setStream i x).wtab = s.wtab := rfl
@[simp] theorem State.setStream_wgen (s : State) (i : Nat) (x : Stream) : (s.setStream i x).wgen = s.wgen := rfl
@[simp] theorem State.setStream_wkey (s : State) (i : Nat) (x : Stream) : (s.setStream i x).wkey = s.wkey := rfl
@[simp] theorem State.setStream_wrtFree (s : State) (i : Nat) (x : Stream) : (s.setStream i x).wrtFree = s.wrtFree := rfl
@[simp] theorem State.setStream_bindLo (s : State) (i : Nat) (x : Stream) : (s.setStream i x).bindLo = s.bindLo := rfl
@[simp] theorem State.setStream_nvm (s : State) (i : Nat) (x : Stream) : (s.setStream i x).nvm = s.nvm := rfl
@[simp] theorem State.setStream_gated (s : State) (i : Nat) (x : Stream) : (s.setStream i x).gated = s.gated := rfl
@[simp] theorem State.setStream_nv (s : State) (i : Nat) (x : Stream) : (s.setStream i x).nv = s.nv := rfl
@[simp] theorem State.setStream_nvOp (s : State) (i : Nat) (x : Stream) : (s.setStream i x).nvOp = s.nvOp := rfl
@[simp] theorem State.setStream_prkOp (s : State) (i : Nat) (x : Stream) : (s.setStream i x).prkOp = s.prkOp := rfl
@[simp] theorem State.setStream_plwRun (s : State) (i : Nat) (x : Stream) : (s.setStream i x).plwRun = s.plwRun := rfl
@[simp] theorem State.setStream_place (s : State) (i : Nat) (x : Stream) : (s.setStream i x).place = s.place := rfl
@[simp] theorem State.setStream_patch (s : State) (i : Nat) (x : Stream) : (s.setStream i x).patch = s.patch := rfl
@[simp] theorem State.setStream_patchLeft (s : State) (i : Nat) (x : Stream) : (s.setStream i x).patchLeft = s.patchLeft := rfl
@[simp] theorem State.setStream_bootEnded (s : State) (i : Nat) (x : Stream) : (s.setStream i x).bootEnded = s.bootEnded := rfl
@[simp] theorem State.setStream_loop (s : State) (i : Nat) (x : Stream) : (s.setStream i x).loop = s.loop := rfl
@[simp] theorem State.setStream_linksUp (s : State) (i : Nat) (x : Stream) : (s.setStream i x).linksUp = s.linksUp := rfl
@[simp] theorem State.setStream_hostSeats (s : State) (i : Nat) (x : Stream) : (s.setStream i x).hostSeats = s.hostSeats := rfl
@[simp] theorem State.setStream_dmas (s : State) (i : Nat) (x : Stream) : (s.setStream i x).dmas = s.dmas := rfl
@[simp] theorem State.setStream_mutes (s : State) (i : Nat) (x : Stream) : (s.setStream i x).mutes = s.mutes := rfl
@[simp] theorem State.setStream_ecWin (s : State) (i : Nat) (x : Stream) : (s.setStream i x).ecWin = s.ecWin := rfl
@[simp] theorem State.setStream_pfilt (s : State) (i : Nat) (x : Stream) : (s.setStream i x).pfilt = s.pfilt := rfl
@[simp] theorem State.setStream_bplan (s : State) (i : Nat) (x : Stream) : (s.setStream i x).bplan = s.bplan := rfl
@[simp] theorem State.setStream_bports (s : State) (i : Nat) (x : Stream) : (s.setStream i x).bports = s.bports := rfl
@[simp] theorem State.setStream_aligned (s : State) (i : Nat) (x : Stream) : (s.setStream i x).aligned = s.aligned := rfl
@[simp] theorem State.setStream_ringItems (s : State) (i : Nat) (x : Stream) : (s.setStream i x).ringItems = s.ringItems := rfl
@[simp] theorem State.setStream_ringLast (s : State) (i : Nat) (x : Stream) : (s.setStream i x).ringLast = s.ringLast := rfl
@[simp] theorem State.setStream_gItems (s : State) (i : Nat) (x : Stream) : (s.setStream i x).gItems = s.gItems := rfl
@[simp] theorem State.setStream_outq (s : State) (i : Nat) (x : Stream) : (s.setStream i x).outq = s.outq := rfl
@[simp] theorem State.setStream_ltr (s : State) (i : Nat) (x : Stream) : (s.setStream i x).ltr = s.ltr := rfl
@[simp] theorem State.setStream_perst (s : State) (i : Nat) (x : Stream) : (s.setStream i x).perst = s.perst := rfl
@[simp] theorem State.setStream_linkMax (s : State) (i : Nat) (x : Stream) : (s.setStream i x).linkMax = s.linkMax := rfl
@[simp] theorem State.setStream_kpllOut (s : State) (i : Nat) (x : Stream) : (s.setStream i x).kpllOut = s.kpllOut := rfl
@[simp] theorem State.setStream_punits (s : State) (i : Nat) (x : Stream) : (s.setStream i x).punits = s.punits := rfl
@[simp] theorem State.setStream_yard (s : State) (i : Nat) (x : Stream) : (s.setStream i x).yard = s.yard := rfl
@[simp] theorem State.setStream_quietLo (s : State) (i : Nat) (x : Stream) : (s.setStream i x).quietLo = s.quietLo := rfl
@[simp] theorem State.setStream_heldLeg (s : State) (i : Nat) (x : Stream) : (s.setStream i x).heldLeg = s.heldLeg := rfl
@[simp] theorem State.setStream_heldAcc (s : State) (i : Nat) (x : Stream) : (s.setStream i x).heldAcc = s.heldAcc := rfl
@[simp] theorem State.setStream_supply (s : State) (i : Nat) (x : Stream) : (s.setStream i x).supply = s.supply := rfl
@[simp] theorem State.setStream_frst (s : State) (i : Nat) (x : Stream) : (s.setStream i x).frst = s.frst := rfl
@[simp] theorem State.setStream_frstAt (s : State) (i : Nat) (x : Stream) : (s.setStream i x).frstAt = s.frstAt := rfl
@[simp] theorem State.setStream_cpll (s : State) (i : Nat) (x : Stream) : (s.setStream i x).cpll = s.cpll := rfl
@[simp] theorem State.setStream_kpll (s : State) (i : Nat) (x : Stream) : (s.setStream i x).kpll = s.kpll := rfl
@[simp] theorem State.setStream_kpllAon (s : State) (i : Nat) (x : Stream) : (s.setStream i x).kpllAon = s.kpllAon := rfl
@[simp] theorem State.setStream_clkret (s : State) (i : Nat) (x : Stream) : (s.setStream i x).clkret = s.clkret := rfl
@[simp] theorem State.setStream_tracer (s : State) (i : Nat) (x : Stream) : (s.setStream i x).tracer = s.tracer := rfl
@[simp] theorem State.setStream_pinCh (s : State) (i : Nat) (x : Stream) : (s.setStream i x).pinCh = s.pinCh := rfl
@[simp] theorem State.setStream_pinAt (s : State) (i : Nat) (x : Stream) : (s.setStream i x).pinAt = s.pinAt := rfl
@[simp] theorem State.setStream_strapLock (s : State) (i : Nat) (x : Stream) : (s.setStream i x).strapLock = s.strapLock := rfl
@[simp] theorem State.setStream_tap (s : State) (i : Nat) (x : Stream) : (s.setStream i x).tap = s.tap := rfl
@[simp] theorem State.setStream_dbgRun (s : State) (i : Nat) (x : Stream) : (s.setStream i x).dbgRun = s.dbgRun := rfl

/-! ## State.setDma -/

@[simp] theorem State.setDma_pending (s : State) (h : Nat) (x : DmaCh) : (s.setDma h x).pending = s.pending := rfl
@[simp] theorem State.setDma_et (s : State) (h : Nat) (x : DmaCh) : (s.setDma h x).et = s.et := rfl
@[simp] theorem State.setDma_dt0 (s : State) (h : Nat) (x : DmaCh) : (s.setDma h x).dt0 = s.dt0 := rfl
@[simp] theorem State.setDma_pace (s : State) (h : Nat) (x : DmaCh) : (s.setDma h x).pace = s.pace := rfl
@[simp] theorem State.setDma_fv (s : State) (h : Nat) (x : DmaCh) : (s.setDma h x).fv = s.fv := rfl
@[simp] theorem State.setDma_regs (s : State) (h : Nat) (x : DmaCh) : (s.setDma h x).regs = s.regs := rfl
@[simp] theorem State.setDma_raised (s : State) (h : Nat) (x : DmaCh) : (s.setDma h x).raised = s.raised := rfl
@[simp] theorem State.setDma_logs (s : State) (h : Nat) (x : DmaCh) : (s.setDma h x).logs = s.logs := rfl
@[simp] theorem State.setDma_wlNow (s : State) (h : Nat) (x : DmaCh) : (s.setDma h x).wlNow = s.wlNow := rfl
@[simp] theorem State.setDma_prkCyc (s : State) (h : Nat) (x : DmaCh) : (s.setDma h x).prkCyc = s.prkCyc := rfl
@[simp] theorem State.setDma_out (s : State) (h : Nat) (x : DmaCh) : (s.setDma h x).out = s.out := rfl
@[simp] theorem State.setDma_munits (s : State) (h : Nat) (x : DmaCh) : (s.setDma h x).munits = s.munits := rfl
@[simp] theorem State.setDma_mroles (s : State) (h : Nat) (x : DmaCh) : (s.setDma h x).mroles = s.mroles := rfl
@[simp] theorem State.setDma_minputs (s : State) (h : Nat) (x : DmaCh) : (s.setDma h x).minputs = s.minputs := rfl
@[simp] theorem State.setDma_mtiles (s : State) (h : Nat) (x : DmaCh) : (s.setDma h x).mtiles = s.mtiles := rfl
@[simp] theorem State.setDma_mcs (s : State) (h : Nat) (x : DmaCh) : (s.setDma h x).mcs = s.mcs := rfl
@[simp] theorem State.setDma_xcFails (s : State) (h : Nat) (x : DmaCh) : (s.setDma h x).xcFails = s.xcFails := rfl
@[simp] theorem State.setDma_xcLate (s : State) (h : Nat) (x : DmaCh) : (s.setDma h x).xcLate = s.xcLate := rfl
@[simp] theorem State.setDma_streams (s : State) (h : Nat) (x : DmaCh) : (s.setDma h x).streams = s.streams := rfl
@[simp] theorem State.setDma_capUsed (s : State) (h : Nat) (x : DmaCh) : (s.setDma h x).capUsed = s.capUsed := rfl
@[simp] theorem State.setDma_cap (s : State) (h : Nat) (x : DmaCh) : (s.setDma h x).cap = s.cap := rfl
@[simp] theorem State.setDma_committed (s : State) (h : Nat) (x : DmaCh) : (s.setDma h x).committed = s.committed := rfl
@[simp] theorem State.setDma_fns (s : State) (h : Nat) (x : DmaCh) : (s.setDma h x).fns = s.fns := rfl
@[simp] theorem State.setDma_ecUsed (s : State) (h : Nat) (x : DmaCh) : (s.setDma h x).ecUsed = s.ecUsed := rfl
@[simp] theorem State.setDma_srcSeen (s : State) (h : Nat) (x : DmaCh) : (s.setDma h x).srcSeen = s.srcSeen := rfl
@[simp] theorem State.setDma_flight (s : State) (h : Nat) (x : DmaCh) : (s.setDma h x).flight = s.flight := rfl
@[simp] theorem State.setDma_slotsUsed (s : State) (h : Nat) (x : DmaCh) : (s.setDma h x).slotsUsed = s.slotsUsed := rfl
@[simp] theorem State.setDma_lanesOn (s : State) (h : Nat) (x : DmaCh) : (s.setDma h x).lanesOn = s.lanesOn := rfl
@[simp] theorem State.setDma_laneIn (s : State) (h : Nat) (x : DmaCh) : (s.setDma h x).laneIn = s.laneIn := rfl
@[simp] theorem State.setDma_legs (s : State) (h : Nat) (x : DmaCh) : (s.setDma h x).legs = s.legs := rfl
@[simp] theorem State.setDma_posts (s : State) (h : Nat) (x : DmaCh) : (s.setDma h x).posts = s.posts := rfl
@[simp] theorem State.setDma_laneReqs (s : State) (h : Nat) (x : DmaCh) : (s.setDma h x).laneReqs = s.laneReqs := rfl
@[simp] theorem State.setDma_step12 (s : State) (h : Nat) (x : DmaCh) : (s.setDma h x).step12 = s.step12 := rfl
@[simp] theorem State.setDma_trigs (s : State) (h : Nat) (x : DmaCh) : (s.setDma h x).trigs = s.trigs := rfl
@[simp] theorem State.setDma_engs (s : State) (h : Nat) (x : DmaCh) : (s.setDma h x).engs = s.engs := rfl
@[simp] theorem State.setDma_ltiles (s : State) (h : Nat) (x : DmaCh) : (s.setDma h x).ltiles = s.ltiles := rfl
@[simp] theorem State.setDma_xslots (s : State) (h : Nat) (x : DmaCh) : (s.setDma h x).xslots = s.xslots := rfl
@[simp] theorem State.setDma_plwAsked (s : State) (h : Nat) (x : DmaCh) : (s.setDma h x).plwAsked = s.plwAsked := rfl
@[simp] theorem State.setDma_badCw (s : State) (h : Nat) (x : DmaCh) : (s.setDma h x).badCw = s.badCw := rfl
@[simp] theorem State.setDma_timers (s : State) (h : Nat) (x : DmaCh) : (s.setDma h x).timers = s.timers := rfl
@[simp] theorem State.setDma_pinEdges (s : State) (h : Nat) (x : DmaCh) : (s.setDma h x).pinEdges = s.pinEdges := rfl
@[simp] theorem State.setDma_shadows (s : State) (h : Nat) (x : DmaCh) : (s.setDma h x).shadows = s.shadows := rfl
@[simp] theorem State.setDma_dtSeen (s : State) (h : Nat) (x : DmaCh) : (s.setDma h x).dtSeen = s.dtSeen := rfl
@[simp] theorem State.setDma_cores (s : State) (h : Nat) (x : DmaCh) : (s.setDma h x).cores = s.cores := rfl
@[simp] theorem State.setDma_tcm (s : State) (h : Nat) (x : DmaCh) : (s.setDma h x).tcm = s.tcm := rfl
@[simp] theorem State.setDma_sram (s : State) (h : Nat) (x : DmaCh) : (s.setDma h x).sram = s.sram := rfl
@[simp] theorem State.setDma_bankKey (s : State) (h : Nat) (x : DmaCh) : (s.setDma h x).bankKey = s.bankKey := rfl
@[simp] theorem State.setDma_bankFree (s : State) (h : Nat) (x : DmaCh) : (s.setDma h x).bankFree = s.bankFree := rfl
@[simp] theorem State.setDma_bankWait (s : State) (h : Nat) (x : DmaCh) : (s.setDma h x).bankWait = s.bankWait := rfl
@[simp] theorem State.setDma_wtab (s : State) (h : Nat) (x : DmaCh) : (s.setDma h x).wtab = s.wtab := rfl
@[simp] theorem State.setDma_wgen (s : State) (h : Nat) (x : DmaCh) : (s.setDma h x).wgen = s.wgen := rfl
@[simp] theorem State.setDma_wkey (s : State) (h : Nat) (x : DmaCh) : (s.setDma h x).wkey = s.wkey := rfl
@[simp] theorem State.setDma_wrtFree (s : State) (h : Nat) (x : DmaCh) : (s.setDma h x).wrtFree = s.wrtFree := rfl
@[simp] theorem State.setDma_bindLo (s : State) (h : Nat) (x : DmaCh) : (s.setDma h x).bindLo = s.bindLo := rfl
@[simp] theorem State.setDma_nvm (s : State) (h : Nat) (x : DmaCh) : (s.setDma h x).nvm = s.nvm := rfl
@[simp] theorem State.setDma_gated (s : State) (h : Nat) (x : DmaCh) : (s.setDma h x).gated = s.gated := rfl
@[simp] theorem State.setDma_nv (s : State) (h : Nat) (x : DmaCh) : (s.setDma h x).nv = s.nv := rfl
@[simp] theorem State.setDma_nvOp (s : State) (h : Nat) (x : DmaCh) : (s.setDma h x).nvOp = s.nvOp := rfl
@[simp] theorem State.setDma_prkOp (s : State) (h : Nat) (x : DmaCh) : (s.setDma h x).prkOp = s.prkOp := rfl
@[simp] theorem State.setDma_plwRun (s : State) (h : Nat) (x : DmaCh) : (s.setDma h x).plwRun = s.plwRun := rfl
@[simp] theorem State.setDma_place (s : State) (h : Nat) (x : DmaCh) : (s.setDma h x).place = s.place := rfl
@[simp] theorem State.setDma_patch (s : State) (h : Nat) (x : DmaCh) : (s.setDma h x).patch = s.patch := rfl
@[simp] theorem State.setDma_patchLeft (s : State) (h : Nat) (x : DmaCh) : (s.setDma h x).patchLeft = s.patchLeft := rfl
@[simp] theorem State.setDma_bootEnded (s : State) (h : Nat) (x : DmaCh) : (s.setDma h x).bootEnded = s.bootEnded := rfl
@[simp] theorem State.setDma_loop (s : State) (h : Nat) (x : DmaCh) : (s.setDma h x).loop = s.loop := rfl
@[simp] theorem State.setDma_linksUp (s : State) (h : Nat) (x : DmaCh) : (s.setDma h x).linksUp = s.linksUp := rfl
@[simp] theorem State.setDma_hostSeats (s : State) (h : Nat) (x : DmaCh) : (s.setDma h x).hostSeats = s.hostSeats := rfl
@[simp] theorem State.setDma_mutes (s : State) (h : Nat) (x : DmaCh) : (s.setDma h x).mutes = s.mutes := rfl
@[simp] theorem State.setDma_ecWin (s : State) (h : Nat) (x : DmaCh) : (s.setDma h x).ecWin = s.ecWin := rfl
@[simp] theorem State.setDma_pfilt (s : State) (h : Nat) (x : DmaCh) : (s.setDma h x).pfilt = s.pfilt := rfl
@[simp] theorem State.setDma_bplan (s : State) (h : Nat) (x : DmaCh) : (s.setDma h x).bplan = s.bplan := rfl
@[simp] theorem State.setDma_bports (s : State) (h : Nat) (x : DmaCh) : (s.setDma h x).bports = s.bports := rfl
@[simp] theorem State.setDma_aligned (s : State) (h : Nat) (x : DmaCh) : (s.setDma h x).aligned = s.aligned := rfl
@[simp] theorem State.setDma_ringItems (s : State) (h : Nat) (x : DmaCh) : (s.setDma h x).ringItems = s.ringItems := rfl
@[simp] theorem State.setDma_ringLast (s : State) (h : Nat) (x : DmaCh) : (s.setDma h x).ringLast = s.ringLast := rfl
@[simp] theorem State.setDma_gItems (s : State) (h : Nat) (x : DmaCh) : (s.setDma h x).gItems = s.gItems := rfl
@[simp] theorem State.setDma_outq (s : State) (h : Nat) (x : DmaCh) : (s.setDma h x).outq = s.outq := rfl
@[simp] theorem State.setDma_ltr (s : State) (h : Nat) (x : DmaCh) : (s.setDma h x).ltr = s.ltr := rfl
@[simp] theorem State.setDma_perst (s : State) (h : Nat) (x : DmaCh) : (s.setDma h x).perst = s.perst := rfl
@[simp] theorem State.setDma_linkMax (s : State) (h : Nat) (x : DmaCh) : (s.setDma h x).linkMax = s.linkMax := rfl
@[simp] theorem State.setDma_kpllOut (s : State) (h : Nat) (x : DmaCh) : (s.setDma h x).kpllOut = s.kpllOut := rfl
@[simp] theorem State.setDma_punits (s : State) (h : Nat) (x : DmaCh) : (s.setDma h x).punits = s.punits := rfl
@[simp] theorem State.setDma_yard (s : State) (h : Nat) (x : DmaCh) : (s.setDma h x).yard = s.yard := rfl
@[simp] theorem State.setDma_quietLo (s : State) (h : Nat) (x : DmaCh) : (s.setDma h x).quietLo = s.quietLo := rfl
@[simp] theorem State.setDma_heldLeg (s : State) (h : Nat) (x : DmaCh) : (s.setDma h x).heldLeg = s.heldLeg := rfl
@[simp] theorem State.setDma_heldAcc (s : State) (h : Nat) (x : DmaCh) : (s.setDma h x).heldAcc = s.heldAcc := rfl
@[simp] theorem State.setDma_supply (s : State) (h : Nat) (x : DmaCh) : (s.setDma h x).supply = s.supply := rfl
@[simp] theorem State.setDma_frst (s : State) (h : Nat) (x : DmaCh) : (s.setDma h x).frst = s.frst := rfl
@[simp] theorem State.setDma_frstAt (s : State) (h : Nat) (x : DmaCh) : (s.setDma h x).frstAt = s.frstAt := rfl
@[simp] theorem State.setDma_cpll (s : State) (h : Nat) (x : DmaCh) : (s.setDma h x).cpll = s.cpll := rfl
@[simp] theorem State.setDma_kpll (s : State) (h : Nat) (x : DmaCh) : (s.setDma h x).kpll = s.kpll := rfl
@[simp] theorem State.setDma_kpllAon (s : State) (h : Nat) (x : DmaCh) : (s.setDma h x).kpllAon = s.kpllAon := rfl
@[simp] theorem State.setDma_clkret (s : State) (h : Nat) (x : DmaCh) : (s.setDma h x).clkret = s.clkret := rfl
@[simp] theorem State.setDma_tracer (s : State) (h : Nat) (x : DmaCh) : (s.setDma h x).tracer = s.tracer := rfl
@[simp] theorem State.setDma_pinCh (s : State) (h : Nat) (x : DmaCh) : (s.setDma h x).pinCh = s.pinCh := rfl
@[simp] theorem State.setDma_pinAt (s : State) (h : Nat) (x : DmaCh) : (s.setDma h x).pinAt = s.pinAt := rfl
@[simp] theorem State.setDma_strapLock (s : State) (h : Nat) (x : DmaCh) : (s.setDma h x).strapLock = s.strapLock := rfl
@[simp] theorem State.setDma_tap (s : State) (h : Nat) (x : DmaCh) : (s.setDma h x).tap = s.tap := rfl
@[simp] theorem State.setDma_dbgRun (s : State) (h : Nat) (x : DmaCh) : (s.setDma h x).dbgRun = s.dbgRun := rfl

/-! ## State.setPunit -/

@[simp] theorem State.setPunit_pending (s : State) (u : Nat) (x : PUnit) : (s.setPunit u x).pending = s.pending := rfl
@[simp] theorem State.setPunit_et (s : State) (u : Nat) (x : PUnit) : (s.setPunit u x).et = s.et := rfl
@[simp] theorem State.setPunit_dt0 (s : State) (u : Nat) (x : PUnit) : (s.setPunit u x).dt0 = s.dt0 := rfl
@[simp] theorem State.setPunit_pace (s : State) (u : Nat) (x : PUnit) : (s.setPunit u x).pace = s.pace := rfl
@[simp] theorem State.setPunit_fv (s : State) (u : Nat) (x : PUnit) : (s.setPunit u x).fv = s.fv := rfl
@[simp] theorem State.setPunit_regs (s : State) (u : Nat) (x : PUnit) : (s.setPunit u x).regs = s.regs := rfl
@[simp] theorem State.setPunit_raised (s : State) (u : Nat) (x : PUnit) : (s.setPunit u x).raised = s.raised := rfl
@[simp] theorem State.setPunit_logs (s : State) (u : Nat) (x : PUnit) : (s.setPunit u x).logs = s.logs := rfl
@[simp] theorem State.setPunit_wlNow (s : State) (u : Nat) (x : PUnit) : (s.setPunit u x).wlNow = s.wlNow := rfl
@[simp] theorem State.setPunit_prkCyc (s : State) (u : Nat) (x : PUnit) : (s.setPunit u x).prkCyc = s.prkCyc := rfl
@[simp] theorem State.setPunit_out (s : State) (u : Nat) (x : PUnit) : (s.setPunit u x).out = s.out := rfl
@[simp] theorem State.setPunit_munits (s : State) (u : Nat) (x : PUnit) : (s.setPunit u x).munits = s.munits := rfl
@[simp] theorem State.setPunit_mroles (s : State) (u : Nat) (x : PUnit) : (s.setPunit u x).mroles = s.mroles := rfl
@[simp] theorem State.setPunit_minputs (s : State) (u : Nat) (x : PUnit) : (s.setPunit u x).minputs = s.minputs := rfl
@[simp] theorem State.setPunit_mtiles (s : State) (u : Nat) (x : PUnit) : (s.setPunit u x).mtiles = s.mtiles := rfl
@[simp] theorem State.setPunit_mcs (s : State) (u : Nat) (x : PUnit) : (s.setPunit u x).mcs = s.mcs := rfl
@[simp] theorem State.setPunit_xcFails (s : State) (u : Nat) (x : PUnit) : (s.setPunit u x).xcFails = s.xcFails := rfl
@[simp] theorem State.setPunit_xcLate (s : State) (u : Nat) (x : PUnit) : (s.setPunit u x).xcLate = s.xcLate := rfl
@[simp] theorem State.setPunit_streams (s : State) (u : Nat) (x : PUnit) : (s.setPunit u x).streams = s.streams := rfl
@[simp] theorem State.setPunit_capUsed (s : State) (u : Nat) (x : PUnit) : (s.setPunit u x).capUsed = s.capUsed := rfl
@[simp] theorem State.setPunit_cap (s : State) (u : Nat) (x : PUnit) : (s.setPunit u x).cap = s.cap := rfl
@[simp] theorem State.setPunit_committed (s : State) (u : Nat) (x : PUnit) : (s.setPunit u x).committed = s.committed := rfl
@[simp] theorem State.setPunit_fns (s : State) (u : Nat) (x : PUnit) : (s.setPunit u x).fns = s.fns := rfl
@[simp] theorem State.setPunit_ecUsed (s : State) (u : Nat) (x : PUnit) : (s.setPunit u x).ecUsed = s.ecUsed := rfl
@[simp] theorem State.setPunit_srcSeen (s : State) (u : Nat) (x : PUnit) : (s.setPunit u x).srcSeen = s.srcSeen := rfl
@[simp] theorem State.setPunit_flight (s : State) (u : Nat) (x : PUnit) : (s.setPunit u x).flight = s.flight := rfl
@[simp] theorem State.setPunit_slotsUsed (s : State) (u : Nat) (x : PUnit) : (s.setPunit u x).slotsUsed = s.slotsUsed := rfl
@[simp] theorem State.setPunit_lanesOn (s : State) (u : Nat) (x : PUnit) : (s.setPunit u x).lanesOn = s.lanesOn := rfl
@[simp] theorem State.setPunit_laneIn (s : State) (u : Nat) (x : PUnit) : (s.setPunit u x).laneIn = s.laneIn := rfl
@[simp] theorem State.setPunit_legs (s : State) (u : Nat) (x : PUnit) : (s.setPunit u x).legs = s.legs := rfl
@[simp] theorem State.setPunit_posts (s : State) (u : Nat) (x : PUnit) : (s.setPunit u x).posts = s.posts := rfl
@[simp] theorem State.setPunit_laneReqs (s : State) (u : Nat) (x : PUnit) : (s.setPunit u x).laneReqs = s.laneReqs := rfl
@[simp] theorem State.setPunit_step12 (s : State) (u : Nat) (x : PUnit) : (s.setPunit u x).step12 = s.step12 := rfl
@[simp] theorem State.setPunit_trigs (s : State) (u : Nat) (x : PUnit) : (s.setPunit u x).trigs = s.trigs := rfl
@[simp] theorem State.setPunit_engs (s : State) (u : Nat) (x : PUnit) : (s.setPunit u x).engs = s.engs := rfl
@[simp] theorem State.setPunit_ltiles (s : State) (u : Nat) (x : PUnit) : (s.setPunit u x).ltiles = s.ltiles := rfl
@[simp] theorem State.setPunit_xslots (s : State) (u : Nat) (x : PUnit) : (s.setPunit u x).xslots = s.xslots := rfl
@[simp] theorem State.setPunit_plwAsked (s : State) (u : Nat) (x : PUnit) : (s.setPunit u x).plwAsked = s.plwAsked := rfl
@[simp] theorem State.setPunit_badCw (s : State) (u : Nat) (x : PUnit) : (s.setPunit u x).badCw = s.badCw := rfl
@[simp] theorem State.setPunit_timers (s : State) (u : Nat) (x : PUnit) : (s.setPunit u x).timers = s.timers := rfl
@[simp] theorem State.setPunit_pinEdges (s : State) (u : Nat) (x : PUnit) : (s.setPunit u x).pinEdges = s.pinEdges := rfl
@[simp] theorem State.setPunit_shadows (s : State) (u : Nat) (x : PUnit) : (s.setPunit u x).shadows = s.shadows := rfl
@[simp] theorem State.setPunit_dtSeen (s : State) (u : Nat) (x : PUnit) : (s.setPunit u x).dtSeen = s.dtSeen := rfl
@[simp] theorem State.setPunit_cores (s : State) (u : Nat) (x : PUnit) : (s.setPunit u x).cores = s.cores := rfl
@[simp] theorem State.setPunit_tcm (s : State) (u : Nat) (x : PUnit) : (s.setPunit u x).tcm = s.tcm := rfl
@[simp] theorem State.setPunit_sram (s : State) (u : Nat) (x : PUnit) : (s.setPunit u x).sram = s.sram := rfl
@[simp] theorem State.setPunit_bankKey (s : State) (u : Nat) (x : PUnit) : (s.setPunit u x).bankKey = s.bankKey := rfl
@[simp] theorem State.setPunit_bankFree (s : State) (u : Nat) (x : PUnit) : (s.setPunit u x).bankFree = s.bankFree := rfl
@[simp] theorem State.setPunit_bankWait (s : State) (u : Nat) (x : PUnit) : (s.setPunit u x).bankWait = s.bankWait := rfl
@[simp] theorem State.setPunit_wtab (s : State) (u : Nat) (x : PUnit) : (s.setPunit u x).wtab = s.wtab := rfl
@[simp] theorem State.setPunit_wgen (s : State) (u : Nat) (x : PUnit) : (s.setPunit u x).wgen = s.wgen := rfl
@[simp] theorem State.setPunit_wkey (s : State) (u : Nat) (x : PUnit) : (s.setPunit u x).wkey = s.wkey := rfl
@[simp] theorem State.setPunit_wrtFree (s : State) (u : Nat) (x : PUnit) : (s.setPunit u x).wrtFree = s.wrtFree := rfl
@[simp] theorem State.setPunit_bindLo (s : State) (u : Nat) (x : PUnit) : (s.setPunit u x).bindLo = s.bindLo := rfl
@[simp] theorem State.setPunit_nvm (s : State) (u : Nat) (x : PUnit) : (s.setPunit u x).nvm = s.nvm := rfl
@[simp] theorem State.setPunit_gated (s : State) (u : Nat) (x : PUnit) : (s.setPunit u x).gated = s.gated := rfl
@[simp] theorem State.setPunit_nv (s : State) (u : Nat) (x : PUnit) : (s.setPunit u x).nv = s.nv := rfl
@[simp] theorem State.setPunit_nvOp (s : State) (u : Nat) (x : PUnit) : (s.setPunit u x).nvOp = s.nvOp := rfl
@[simp] theorem State.setPunit_prkOp (s : State) (u : Nat) (x : PUnit) : (s.setPunit u x).prkOp = s.prkOp := rfl
@[simp] theorem State.setPunit_plwRun (s : State) (u : Nat) (x : PUnit) : (s.setPunit u x).plwRun = s.plwRun := rfl
@[simp] theorem State.setPunit_place (s : State) (u : Nat) (x : PUnit) : (s.setPunit u x).place = s.place := rfl
@[simp] theorem State.setPunit_patch (s : State) (u : Nat) (x : PUnit) : (s.setPunit u x).patch = s.patch := rfl
@[simp] theorem State.setPunit_patchLeft (s : State) (u : Nat) (x : PUnit) : (s.setPunit u x).patchLeft = s.patchLeft := rfl
@[simp] theorem State.setPunit_bootEnded (s : State) (u : Nat) (x : PUnit) : (s.setPunit u x).bootEnded = s.bootEnded := rfl
@[simp] theorem State.setPunit_loop (s : State) (u : Nat) (x : PUnit) : (s.setPunit u x).loop = s.loop := rfl
@[simp] theorem State.setPunit_linksUp (s : State) (u : Nat) (x : PUnit) : (s.setPunit u x).linksUp = s.linksUp := rfl
@[simp] theorem State.setPunit_hostSeats (s : State) (u : Nat) (x : PUnit) : (s.setPunit u x).hostSeats = s.hostSeats := rfl
@[simp] theorem State.setPunit_dmas (s : State) (u : Nat) (x : PUnit) : (s.setPunit u x).dmas = s.dmas := rfl
@[simp] theorem State.setPunit_mutes (s : State) (u : Nat) (x : PUnit) : (s.setPunit u x).mutes = s.mutes := rfl
@[simp] theorem State.setPunit_ecWin (s : State) (u : Nat) (x : PUnit) : (s.setPunit u x).ecWin = s.ecWin := rfl
@[simp] theorem State.setPunit_pfilt (s : State) (u : Nat) (x : PUnit) : (s.setPunit u x).pfilt = s.pfilt := rfl
@[simp] theorem State.setPunit_bplan (s : State) (u : Nat) (x : PUnit) : (s.setPunit u x).bplan = s.bplan := rfl
@[simp] theorem State.setPunit_bports (s : State) (u : Nat) (x : PUnit) : (s.setPunit u x).bports = s.bports := rfl
@[simp] theorem State.setPunit_aligned (s : State) (u : Nat) (x : PUnit) : (s.setPunit u x).aligned = s.aligned := rfl
@[simp] theorem State.setPunit_ringItems (s : State) (u : Nat) (x : PUnit) : (s.setPunit u x).ringItems = s.ringItems := rfl
@[simp] theorem State.setPunit_ringLast (s : State) (u : Nat) (x : PUnit) : (s.setPunit u x).ringLast = s.ringLast := rfl
@[simp] theorem State.setPunit_gItems (s : State) (u : Nat) (x : PUnit) : (s.setPunit u x).gItems = s.gItems := rfl
@[simp] theorem State.setPunit_outq (s : State) (u : Nat) (x : PUnit) : (s.setPunit u x).outq = s.outq := rfl
@[simp] theorem State.setPunit_ltr (s : State) (u : Nat) (x : PUnit) : (s.setPunit u x).ltr = s.ltr := rfl
@[simp] theorem State.setPunit_perst (s : State) (u : Nat) (x : PUnit) : (s.setPunit u x).perst = s.perst := rfl
@[simp] theorem State.setPunit_linkMax (s : State) (u : Nat) (x : PUnit) : (s.setPunit u x).linkMax = s.linkMax := rfl
@[simp] theorem State.setPunit_kpllOut (s : State) (u : Nat) (x : PUnit) : (s.setPunit u x).kpllOut = s.kpllOut := rfl
@[simp] theorem State.setPunit_yard (s : State) (u : Nat) (x : PUnit) : (s.setPunit u x).yard = s.yard := rfl
@[simp] theorem State.setPunit_quietLo (s : State) (u : Nat) (x : PUnit) : (s.setPunit u x).quietLo = s.quietLo := rfl
@[simp] theorem State.setPunit_heldLeg (s : State) (u : Nat) (x : PUnit) : (s.setPunit u x).heldLeg = s.heldLeg := rfl
@[simp] theorem State.setPunit_heldAcc (s : State) (u : Nat) (x : PUnit) : (s.setPunit u x).heldAcc = s.heldAcc := rfl
@[simp] theorem State.setPunit_supply (s : State) (u : Nat) (x : PUnit) : (s.setPunit u x).supply = s.supply := rfl
@[simp] theorem State.setPunit_frst (s : State) (u : Nat) (x : PUnit) : (s.setPunit u x).frst = s.frst := rfl
@[simp] theorem State.setPunit_frstAt (s : State) (u : Nat) (x : PUnit) : (s.setPunit u x).frstAt = s.frstAt := rfl
@[simp] theorem State.setPunit_cpll (s : State) (u : Nat) (x : PUnit) : (s.setPunit u x).cpll = s.cpll := rfl
@[simp] theorem State.setPunit_kpll (s : State) (u : Nat) (x : PUnit) : (s.setPunit u x).kpll = s.kpll := rfl
@[simp] theorem State.setPunit_kpllAon (s : State) (u : Nat) (x : PUnit) : (s.setPunit u x).kpllAon = s.kpllAon := rfl
@[simp] theorem State.setPunit_clkret (s : State) (u : Nat) (x : PUnit) : (s.setPunit u x).clkret = s.clkret := rfl
@[simp] theorem State.setPunit_tracer (s : State) (u : Nat) (x : PUnit) : (s.setPunit u x).tracer = s.tracer := rfl
@[simp] theorem State.setPunit_pinCh (s : State) (u : Nat) (x : PUnit) : (s.setPunit u x).pinCh = s.pinCh := rfl
@[simp] theorem State.setPunit_pinAt (s : State) (u : Nat) (x : PUnit) : (s.setPunit u x).pinAt = s.pinAt := rfl
@[simp] theorem State.setPunit_strapLock (s : State) (u : Nat) (x : PUnit) : (s.setPunit u x).strapLock = s.strapLock := rfl
@[simp] theorem State.setPunit_tap (s : State) (u : Nat) (x : PUnit) : (s.setPunit u x).tap = s.tap := rfl
@[simp] theorem State.setPunit_dbgRun (s : State) (u : Nat) (x : PUnit) : (s.setPunit u x).dbgRun = s.dbgRun := rfl

/-! ## State.setFnRst -/

@[simp] theorem State.setFnRst_pending (s : State) (f : Nat) (x : FnRst) : (s.setFnRst f x).pending = s.pending := rfl
@[simp] theorem State.setFnRst_et (s : State) (f : Nat) (x : FnRst) : (s.setFnRst f x).et = s.et := rfl
@[simp] theorem State.setFnRst_dt0 (s : State) (f : Nat) (x : FnRst) : (s.setFnRst f x).dt0 = s.dt0 := rfl
@[simp] theorem State.setFnRst_pace (s : State) (f : Nat) (x : FnRst) : (s.setFnRst f x).pace = s.pace := rfl
@[simp] theorem State.setFnRst_fv (s : State) (f : Nat) (x : FnRst) : (s.setFnRst f x).fv = s.fv := rfl
@[simp] theorem State.setFnRst_regs (s : State) (f : Nat) (x : FnRst) : (s.setFnRst f x).regs = s.regs := rfl
@[simp] theorem State.setFnRst_raised (s : State) (f : Nat) (x : FnRst) : (s.setFnRst f x).raised = s.raised := rfl
@[simp] theorem State.setFnRst_logs (s : State) (f : Nat) (x : FnRst) : (s.setFnRst f x).logs = s.logs := rfl
@[simp] theorem State.setFnRst_wlNow (s : State) (f : Nat) (x : FnRst) : (s.setFnRst f x).wlNow = s.wlNow := rfl
@[simp] theorem State.setFnRst_prkCyc (s : State) (f : Nat) (x : FnRst) : (s.setFnRst f x).prkCyc = s.prkCyc := rfl
@[simp] theorem State.setFnRst_out (s : State) (f : Nat) (x : FnRst) : (s.setFnRst f x).out = s.out := rfl
@[simp] theorem State.setFnRst_munits (s : State) (f : Nat) (x : FnRst) : (s.setFnRst f x).munits = s.munits := rfl
@[simp] theorem State.setFnRst_mroles (s : State) (f : Nat) (x : FnRst) : (s.setFnRst f x).mroles = s.mroles := rfl
@[simp] theorem State.setFnRst_minputs (s : State) (f : Nat) (x : FnRst) : (s.setFnRst f x).minputs = s.minputs := rfl
@[simp] theorem State.setFnRst_mtiles (s : State) (f : Nat) (x : FnRst) : (s.setFnRst f x).mtiles = s.mtiles := rfl
@[simp] theorem State.setFnRst_mcs (s : State) (f : Nat) (x : FnRst) : (s.setFnRst f x).mcs = s.mcs := rfl
@[simp] theorem State.setFnRst_xcFails (s : State) (f : Nat) (x : FnRst) : (s.setFnRst f x).xcFails = s.xcFails := rfl
@[simp] theorem State.setFnRst_xcLate (s : State) (f : Nat) (x : FnRst) : (s.setFnRst f x).xcLate = s.xcLate := rfl
@[simp] theorem State.setFnRst_streams (s : State) (f : Nat) (x : FnRst) : (s.setFnRst f x).streams = s.streams := rfl
@[simp] theorem State.setFnRst_capUsed (s : State) (f : Nat) (x : FnRst) : (s.setFnRst f x).capUsed = s.capUsed := rfl
@[simp] theorem State.setFnRst_cap (s : State) (f : Nat) (x : FnRst) : (s.setFnRst f x).cap = s.cap := rfl
@[simp] theorem State.setFnRst_committed (s : State) (f : Nat) (x : FnRst) : (s.setFnRst f x).committed = s.committed := rfl
@[simp] theorem State.setFnRst_fns (s : State) (f : Nat) (x : FnRst) : (s.setFnRst f x).fns = s.fns := rfl
@[simp] theorem State.setFnRst_ecUsed (s : State) (f : Nat) (x : FnRst) : (s.setFnRst f x).ecUsed = s.ecUsed := rfl
@[simp] theorem State.setFnRst_srcSeen (s : State) (f : Nat) (x : FnRst) : (s.setFnRst f x).srcSeen = s.srcSeen := rfl
@[simp] theorem State.setFnRst_flight (s : State) (f : Nat) (x : FnRst) : (s.setFnRst f x).flight = s.flight := rfl
@[simp] theorem State.setFnRst_slotsUsed (s : State) (f : Nat) (x : FnRst) : (s.setFnRst f x).slotsUsed = s.slotsUsed := rfl
@[simp] theorem State.setFnRst_lanesOn (s : State) (f : Nat) (x : FnRst) : (s.setFnRst f x).lanesOn = s.lanesOn := rfl
@[simp] theorem State.setFnRst_laneIn (s : State) (f : Nat) (x : FnRst) : (s.setFnRst f x).laneIn = s.laneIn := rfl
@[simp] theorem State.setFnRst_legs (s : State) (f : Nat) (x : FnRst) : (s.setFnRst f x).legs = s.legs := rfl
@[simp] theorem State.setFnRst_posts (s : State) (f : Nat) (x : FnRst) : (s.setFnRst f x).posts = s.posts := rfl
@[simp] theorem State.setFnRst_laneReqs (s : State) (f : Nat) (x : FnRst) : (s.setFnRst f x).laneReqs = s.laneReqs := rfl
@[simp] theorem State.setFnRst_step12 (s : State) (f : Nat) (x : FnRst) : (s.setFnRst f x).step12 = s.step12 := rfl
@[simp] theorem State.setFnRst_trigs (s : State) (f : Nat) (x : FnRst) : (s.setFnRst f x).trigs = s.trigs := rfl
@[simp] theorem State.setFnRst_engs (s : State) (f : Nat) (x : FnRst) : (s.setFnRst f x).engs = s.engs := rfl
@[simp] theorem State.setFnRst_ltiles (s : State) (f : Nat) (x : FnRst) : (s.setFnRst f x).ltiles = s.ltiles := rfl
@[simp] theorem State.setFnRst_xslots (s : State) (f : Nat) (x : FnRst) : (s.setFnRst f x).xslots = s.xslots := rfl
@[simp] theorem State.setFnRst_plwAsked (s : State) (f : Nat) (x : FnRst) : (s.setFnRst f x).plwAsked = s.plwAsked := rfl
@[simp] theorem State.setFnRst_badCw (s : State) (f : Nat) (x : FnRst) : (s.setFnRst f x).badCw = s.badCw := rfl
@[simp] theorem State.setFnRst_timers (s : State) (f : Nat) (x : FnRst) : (s.setFnRst f x).timers = s.timers := rfl
@[simp] theorem State.setFnRst_pinEdges (s : State) (f : Nat) (x : FnRst) : (s.setFnRst f x).pinEdges = s.pinEdges := rfl
@[simp] theorem State.setFnRst_shadows (s : State) (f : Nat) (x : FnRst) : (s.setFnRst f x).shadows = s.shadows := rfl
@[simp] theorem State.setFnRst_dtSeen (s : State) (f : Nat) (x : FnRst) : (s.setFnRst f x).dtSeen = s.dtSeen := rfl
@[simp] theorem State.setFnRst_cores (s : State) (f : Nat) (x : FnRst) : (s.setFnRst f x).cores = s.cores := rfl
@[simp] theorem State.setFnRst_tcm (s : State) (f : Nat) (x : FnRst) : (s.setFnRst f x).tcm = s.tcm := rfl
@[simp] theorem State.setFnRst_sram (s : State) (f : Nat) (x : FnRst) : (s.setFnRst f x).sram = s.sram := rfl
@[simp] theorem State.setFnRst_bankKey (s : State) (f : Nat) (x : FnRst) : (s.setFnRst f x).bankKey = s.bankKey := rfl
@[simp] theorem State.setFnRst_bankFree (s : State) (f : Nat) (x : FnRst) : (s.setFnRst f x).bankFree = s.bankFree := rfl
@[simp] theorem State.setFnRst_bankWait (s : State) (f : Nat) (x : FnRst) : (s.setFnRst f x).bankWait = s.bankWait := rfl
@[simp] theorem State.setFnRst_wtab (s : State) (f : Nat) (x : FnRst) : (s.setFnRst f x).wtab = s.wtab := rfl
@[simp] theorem State.setFnRst_wgen (s : State) (f : Nat) (x : FnRst) : (s.setFnRst f x).wgen = s.wgen := rfl
@[simp] theorem State.setFnRst_wkey (s : State) (f : Nat) (x : FnRst) : (s.setFnRst f x).wkey = s.wkey := rfl
@[simp] theorem State.setFnRst_wrtFree (s : State) (f : Nat) (x : FnRst) : (s.setFnRst f x).wrtFree = s.wrtFree := rfl
@[simp] theorem State.setFnRst_bindLo (s : State) (f : Nat) (x : FnRst) : (s.setFnRst f x).bindLo = s.bindLo := rfl
@[simp] theorem State.setFnRst_nvm (s : State) (f : Nat) (x : FnRst) : (s.setFnRst f x).nvm = s.nvm := rfl
@[simp] theorem State.setFnRst_gated (s : State) (f : Nat) (x : FnRst) : (s.setFnRst f x).gated = s.gated := rfl
@[simp] theorem State.setFnRst_nv (s : State) (f : Nat) (x : FnRst) : (s.setFnRst f x).nv = s.nv := rfl
@[simp] theorem State.setFnRst_nvOp (s : State) (f : Nat) (x : FnRst) : (s.setFnRst f x).nvOp = s.nvOp := rfl
@[simp] theorem State.setFnRst_prkOp (s : State) (f : Nat) (x : FnRst) : (s.setFnRst f x).prkOp = s.prkOp := rfl
@[simp] theorem State.setFnRst_plwRun (s : State) (f : Nat) (x : FnRst) : (s.setFnRst f x).plwRun = s.plwRun := rfl
@[simp] theorem State.setFnRst_place (s : State) (f : Nat) (x : FnRst) : (s.setFnRst f x).place = s.place := rfl
@[simp] theorem State.setFnRst_patch (s : State) (f : Nat) (x : FnRst) : (s.setFnRst f x).patch = s.patch := rfl
@[simp] theorem State.setFnRst_patchLeft (s : State) (f : Nat) (x : FnRst) : (s.setFnRst f x).patchLeft = s.patchLeft := rfl
@[simp] theorem State.setFnRst_bootEnded (s : State) (f : Nat) (x : FnRst) : (s.setFnRst f x).bootEnded = s.bootEnded := rfl
@[simp] theorem State.setFnRst_loop (s : State) (f : Nat) (x : FnRst) : (s.setFnRst f x).loop = s.loop := rfl
@[simp] theorem State.setFnRst_linksUp (s : State) (f : Nat) (x : FnRst) : (s.setFnRst f x).linksUp = s.linksUp := rfl
@[simp] theorem State.setFnRst_hostSeats (s : State) (f : Nat) (x : FnRst) : (s.setFnRst f x).hostSeats = s.hostSeats := rfl
@[simp] theorem State.setFnRst_dmas (s : State) (f : Nat) (x : FnRst) : (s.setFnRst f x).dmas = s.dmas := rfl
@[simp] theorem State.setFnRst_mutes (s : State) (f : Nat) (x : FnRst) : (s.setFnRst f x).mutes = s.mutes := rfl
@[simp] theorem State.setFnRst_ecWin (s : State) (f : Nat) (x : FnRst) : (s.setFnRst f x).ecWin = s.ecWin := rfl
@[simp] theorem State.setFnRst_pfilt (s : State) (f : Nat) (x : FnRst) : (s.setFnRst f x).pfilt = s.pfilt := rfl
@[simp] theorem State.setFnRst_bplan (s : State) (f : Nat) (x : FnRst) : (s.setFnRst f x).bplan = s.bplan := rfl
@[simp] theorem State.setFnRst_bports (s : State) (f : Nat) (x : FnRst) : (s.setFnRst f x).bports = s.bports := rfl
@[simp] theorem State.setFnRst_aligned (s : State) (f : Nat) (x : FnRst) : (s.setFnRst f x).aligned = s.aligned := rfl
@[simp] theorem State.setFnRst_ringItems (s : State) (f : Nat) (x : FnRst) : (s.setFnRst f x).ringItems = s.ringItems := rfl
@[simp] theorem State.setFnRst_ringLast (s : State) (f : Nat) (x : FnRst) : (s.setFnRst f x).ringLast = s.ringLast := rfl
@[simp] theorem State.setFnRst_gItems (s : State) (f : Nat) (x : FnRst) : (s.setFnRst f x).gItems = s.gItems := rfl
@[simp] theorem State.setFnRst_outq (s : State) (f : Nat) (x : FnRst) : (s.setFnRst f x).outq = s.outq := rfl
@[simp] theorem State.setFnRst_ltr (s : State) (f : Nat) (x : FnRst) : (s.setFnRst f x).ltr = s.ltr := rfl
@[simp] theorem State.setFnRst_perst (s : State) (f : Nat) (x : FnRst) : (s.setFnRst f x).perst = s.perst := rfl
@[simp] theorem State.setFnRst_linkMax (s : State) (f : Nat) (x : FnRst) : (s.setFnRst f x).linkMax = s.linkMax := rfl
@[simp] theorem State.setFnRst_kpllOut (s : State) (f : Nat) (x : FnRst) : (s.setFnRst f x).kpllOut = s.kpllOut := rfl
@[simp] theorem State.setFnRst_punits (s : State) (f : Nat) (x : FnRst) : (s.setFnRst f x).punits = s.punits := rfl
@[simp] theorem State.setFnRst_yard (s : State) (f : Nat) (x : FnRst) : (s.setFnRst f x).yard = s.yard := rfl
@[simp] theorem State.setFnRst_quietLo (s : State) (f : Nat) (x : FnRst) : (s.setFnRst f x).quietLo = s.quietLo := rfl
@[simp] theorem State.setFnRst_heldLeg (s : State) (f : Nat) (x : FnRst) : (s.setFnRst f x).heldLeg = s.heldLeg := rfl
@[simp] theorem State.setFnRst_heldAcc (s : State) (f : Nat) (x : FnRst) : (s.setFnRst f x).heldAcc = s.heldAcc := rfl
@[simp] theorem State.setFnRst_supply (s : State) (f : Nat) (x : FnRst) : (s.setFnRst f x).supply = s.supply := rfl
@[simp] theorem State.setFnRst_frstAt (s : State) (f : Nat) (x : FnRst) : (s.setFnRst f x).frstAt = s.frstAt := rfl
@[simp] theorem State.setFnRst_cpll (s : State) (f : Nat) (x : FnRst) : (s.setFnRst f x).cpll = s.cpll := rfl
@[simp] theorem State.setFnRst_kpll (s : State) (f : Nat) (x : FnRst) : (s.setFnRst f x).kpll = s.kpll := rfl
@[simp] theorem State.setFnRst_kpllAon (s : State) (f : Nat) (x : FnRst) : (s.setFnRst f x).kpllAon = s.kpllAon := rfl
@[simp] theorem State.setFnRst_clkret (s : State) (f : Nat) (x : FnRst) : (s.setFnRst f x).clkret = s.clkret := rfl
@[simp] theorem State.setFnRst_tracer (s : State) (f : Nat) (x : FnRst) : (s.setFnRst f x).tracer = s.tracer := rfl
@[simp] theorem State.setFnRst_pinCh (s : State) (f : Nat) (x : FnRst) : (s.setFnRst f x).pinCh = s.pinCh := rfl
@[simp] theorem State.setFnRst_pinAt (s : State) (f : Nat) (x : FnRst) : (s.setFnRst f x).pinAt = s.pinAt := rfl
@[simp] theorem State.setFnRst_strapLock (s : State) (f : Nat) (x : FnRst) : (s.setFnRst f x).strapLock = s.strapLock := rfl
@[simp] theorem State.setFnRst_tap (s : State) (f : Nat) (x : FnRst) : (s.setFnRst f x).tap = s.tap := rfl
@[simp] theorem State.setFnRst_dbgRun (s : State) (f : Nat) (x : FnRst) : (s.setFnRst f x).dbgRun = s.dbgRun := rfl

end Sys2Proof.Machine
end

