-- ==== Sys2Proof/Laws/Core.lean ====
section
/-!
SUPPORT. What the shared operations of the cores do, once each: issue, retirement, results.
-/
namespace Sys2Proof.Machine
open F

@[simp] theorem State.live_up {s : State} (h : s.supply.up = true) (f : State → State) : s.live f = f s := by simp [State.live, h]
@[simp] theorem State.live_down {s : State} (h : s.supply.up = false) (f : State → State) : s.live f = s := by simp [State.live, h]

@[simp] theorem State.core_setCore_self (s : State) (c : Nat) (x : Core) : (s.setCore c x).core c = x := by simp [State.core, State.setCore]
theorem State.core_setCore_ne (s : State) {c d : Nat} (x : Core) (h : d ≠ c) : (s.setCore c x).core d = s.core d := by
  simp [State.core, State.setCore, mget_mset, h]
@[simp] theorem State.setCore_setCore (s : State) (c : Nat) (x y : Core) : (s.setCore c x).setCore c y = s.setCore c y := by simp [State.setCore]
theorem State.core_congr {s t : State} (h : t.cores = s.cores) (c : Nat) : t.core c = s.core c := by simp [State.core, h]
@[simp] theorem State.core_reach (s : State) (t c : Nat) : (s.reach t).core c = s.core c := rfl

/-- An instruction that the core issues runs its body in its issue cycle. -/
theorem State.issue_ready {s : State} {c op : Nat} {pre : List (Fin 16)} (h : s.coreReady c op pre = true) (uses : List Nat)
    (body : State → Iss → State) :
    ∃ p, preOf op pre = some p ∧ s.issue c pre (baseOf op) none uses body
      = body ((s.reach (cycTime (s.issueCycle c uses))).setCore c { s.core c with ilen := lenOf op pre }) ⟨lenOf op pre, p, s.issueCycle c uses, (s.core c).free⟩ := by
  simp only [State.coreReady, Bool.and_eq_true, Bool.not_eq_true', Option.isNone_iff_eq_none] at h
  obtain ⟨⟨⟨⟨⟨-, h1⟩, h2⟩, h3⟩, h4⟩, h5⟩ := h
  obtain ⟨p, hp⟩ := Option.isSome_iff_exists.1 h5
  refine ⟨p, hp, ?_⟩
  have hs : scanPre (baseOf op) 0 {} pre = .ok p := by
    unfold preOf at hp
    split at hp
    · next q hq => rw [hq]; simpa using hp
    · simp at hp
  unfold State.issue
  simp only [h1, Bool.not_true, Bool.false_eq_true, if_false, h2, h3]
  unfold lenOf at h4
  simp only [h4, hs]
  rfl

@[simp] theorem CArch.reg_zero (x : CArch) : x.reg 0 = 0 := by simp [CArch.reg]
theorem CArch.reg_setReg (x : CArch) (i v r : Nat) : (x.setReg i v).reg r = if r = 0 then 0 else if r = i then v % 2 ^ 32 else x.reg r := by
  unfold CArch.setReg CArch.reg
  by_cases hi : i = 0
  · subst hi
    by_cases hr : r = 0 <;> simp [hr]
  · by_cases hr : r = 0
    · simp [hr]
    · by_cases hri : r = i <;> simp [hi, hr, hri, mget_mset]

@[simp] theorem CArch.setReg_pc (x : CArch) (i v : Nat) : (x.setReg i v).pc = x.pc := by unfold CArch.setReg; split <;> rfl
@[simp] theorem CArch.setReg_wr (x : CArch) (i v : Nat) : (x.setReg i v).wr = x.wr := by unfold CArch.setReg; split <;> rfl
@[simp] theorem CArch.setReg_frames (x : CArch) (i v : Nat) : (x.setReg i v).frames = x.frames := by unfold CArch.setReg; split <;> rfl
@[simp] theorem CArch.setReg_fcsr (x : CArch) (i v : Nat) : (x.setReg i v).fcsr = x.fcsr := by unfold CArch.setReg; split <;> rfl
@[simp] theorem CArch.setReg_lcount (x : CArch) (i v : Nat) : (x.setReg i v).lcount = x.lcount := by unfold CArch.setReg; split <;> rfl
@[simp] theorem CArch.setReg_lend (x : CArch) (i v : Nat) : (x.setReg i v).lend = x.lend := by unfold CArch.setReg; split <;> rfl
@[simp] theorem CArch.setReg_lstart (x : CArch) (i v : Nat) : (x.setReg i v).lstart = x.lstart := by unfold CArch.setReg; split <;> rfl
@[simp] theorem CArch.setReg_hold (x : CArch) (i v : Nat) : (x.setReg i v).hold = x.hold := by unfold CArch.setReg; split <;> rfl
@[simp] theorem CArch.setReg_status (x : CArch) (i v : Nat) : (x.setReg i v).status = x.status := by unfold CArch.setReg; split <;> rfl
@[simp] theorem CArch.setReg_wstale (x : CArch) (i v : Nat) : (x.setReg i v).wstale = x.wstale := by unfold CArch.setReg; split <;> rfl

@[simp] theorem State.rd_setCore (s : State) (c : Nat) (x : Core) (f : Field) (i : Nat) : (s.setCore c x).rd f i = s.rd f i := rfl
@[simp] theorem State.rd_reach (s : State) (t : Nat) (f : Field) (i : Nat) : (s.reach t).rd f i = s.rd f i := rfl

/-- No record is made for a core whose trace is off. -/
theorem State.trace_quiet {s : State} {c : Nat} (h : s.traceQuiet c = true) (pc typ info : Nat) : s.trace c pc typ info = s := by
  unfold State.traceQuiet at h
  simp only [State.trace]
  rw [if_pos h]

@[simp] theorem State.wr_core (s : State) (f : Field) (i v c : Nat) : (s.wr f i v).core c = s.core c := rfl
@[simp] theorem State.addTo_core (s : State) (f : Field) (i v c : Nat) : (s.addTo f i v).core c = s.core c := rfl

theorem State.traceBlock_core (s : State) (c : Nat) : (s.traceBlock).core c = s.core c := by
  simp only [State.traceBlock]
  split <;> rfl
@[simp] theorem State.drawn_core (s : State) (c : Nat) : s.drawn.core c = s.core c := rfl

theorem State.traceOut_core (s : State) (l : List (BitVec 8)) (c : Nat) : (s.traceOut l).core c = s.core c := by
  simp only [State.traceOut]
  split
  · split
    · rfl
    · split
      · rw [State.traceBlock_core]; rfl
      · rfl
  · split
    · rfl
    · rw [State.addTo_core, State.bankCount_core]; rfl

theorem State.traceRec_core (s : State) (c pc typ info d : Nat) : (s.traceRec c pc typ info).core d = s.core d := by
  simp only [State.traceRec]
  split
  · rfl
  · rw [State.traceOut_core]; rfl

theorem State.trace_core (s : State) (c pc typ info d : Nat) : (s.trace c pc typ info).core d = s.core d := by
  have put (t : State) (x : Tracer) : State.core { t with tracer := x } d = t.core d := rfl
  simp only [State.trace]
  split
  · rfl
  · rw [put, State.traceRec_core]
    split <;> split <;> simp only [put, State.traceRec_core]

@[simp] theorem CArch.reg_ite (a : CArch) (r : Nat) : (if r = 0 then 0 else a.reg r) = a.reg r := by
  by_cases h : r = 0 <;> simp [h]

@[simp] theorem CArch.reg_ite_setReg (a : CArch) (d v r : Nat) :
    (if r = 0 then 0 else if d = r then v % 4294967296 else a.reg r) = (a.setReg d v).reg r := by
  simp [CArch.reg_setReg, eq_comm]
@[simp] theorem CArch.setReg_pf (x : CArch) (i v : Nat) : (x.setReg i v).pf = x.pf := by unfold CArch.setReg; split <;> rfl
@[simp] theorem CArch.setReg_ijbar (x : CArch) (i v : Nat) : (x.setReg i v).ijbar = x.ijbar := by unfold CArch.setReg; split <;> rfl
@[simp] theorem CArch.setReg_detf (x : CArch) (i v : Nat) : (x.setReg i v).detf = x.detf := by unfold CArch.setReg; split <;> rfl
@[simp] theorem CArch.setReg_inh (x : CArch) (i v : Nat) : (x.setReg i v).inh = x.inh := by unfold CArch.setReg; split <;> rfl
@[simp] theorem CArch.setReg_det (x : CArch) (i v : Nat) : (x.setReg i v).det = x.det := by unfold CArch.setReg; split <;> rfl

/-- What retirement makes of its core: the trace leaves it alone. -/
theorem State.retire_core (s : State) (c : Nat) (i : Iss) (count : Nat) (target : Option Nat) (load : Option (Nat × Nat)) (typ : Nat) :
    (s.retire c i count target load typ).core c = s.afterInstr c i count target load := by
  unfold State.retire
  cases target <;> dsimp only <;> split <;> simp [State.trace_core]

/-- The view of a core after an instruction differs in what CArch.onlyRegs lets differ. -/
theorem State.afterInstr_only (s : State) (c : Nat) (i : Iss) (count : Nat) (target : Option Nat) (load : Option (Nat × Nat)) :
    (s.core c).arch.onlyRegs (s.afterInstr c i count target load).arch := rfl

/-- Its registers are those before it, with the load that lands over them. -/
theorem State.afterInstr_reg (s : State) (c : Nat) (i : Iss) (count : Nat) (target : Option Nat) (load : Option (Nat × Nat)) (r : Nat) :
    (s.afterInstr c i count target load).arch.reg r = s.landed c r (s.gr c r) := by
  have gr (x y : CArch) (h : x.gr = y.gr) : x.reg r = y.reg r := by unfold CArch.reg; rw [h]
  rcases hp : (s.core c).pload with _ | ⟨d, val, old⟩
  · rw [gr (s.afterInstr c i count target load).arch (s.core c).arch (by simp only [State.afterInstr, hp])]
    by_cases h : r = 0 <;> simp [State.landed, hp, State.gr, h]
  · rw [gr (s.afterInstr c i count target load).arch ((s.core c).arch.setReg d val) (by simp only [State.afterInstr, hp]), CArch.reg_setReg]
    simp only [State.landed, hp, State.gr, eq_comm]

/-- The architectural state after an instruction that is no control transfer (R303, R306, R311). -/
theorem State.retire_seq (s : State) (c : Nat) (i : Iss) (count : Nat) (load : Option (Nat × Nat)) :
    let t := s.retire c i count none load
    (∀ r, t.gr c r = s.landed c r (s.gr c r)) ∧ (t.core c).arch.pc = s.seqPc c i.len ∧ (t.core c).arch.lcount = s.seqCount c
      ∧ (t.core c).instret = (s.core c).instret + 1 ∧ (t.core c).free = i.n + count ∧ (s.core c).arch.onlyRegs (t.core c).arch
      ∧ (t.core c).pload = load.map (fun p => ⟨p.1, p.2, s.landed c p.1 (s.gr c p.1)⟩) := by
  intro t
  have ht : t.core c = s.afterInstr c i count none load := s.retire_core c i count none load 2
  refine ⟨fun r => by unfold State.gr; rw [ht]; exact s.afterInstr_reg c i count none load r, ?_, ?_, by rw [ht]; rfl, by rw [ht]; rfl,
    by rw [ht]; exact s.afterInstr_only c i count none load, ?_⟩
  · rw [ht]
    simp only [State.afterInstr, State.seqPc]
    by_cases h1 : (s.core c).arch.pc = (s.core c).arch.lend <;> by_cases h2 : 1 < (s.core c).arch.lcount <;> simp [h1, h2]
    intro h0
    simp [h0] at h2
  · rw [ht]
    simp only [State.afterInstr, State.seqCount]
    by_cases h1 : (s.core c).arch.pc = (s.core c).arch.lend <;> by_cases h0 : (s.core c).arch.lcount = 0 <;> simp [h1, h0]
  · rw [ht]
    cases load with
    | none => rfl
    | some p =>
      simp only [State.afterInstr, Option.map_some]
      rcases hp : (s.core c).pload with _ | ⟨d, val, old⟩
      · by_cases h : p.1 = 0 <;> simp [State.landed, hp, State.gr, h]
      · simp only [CArch.reg_setReg, State.landed, hp, State.gr, eq_comm]

/-- What retirement leaves alone: all but its core, with the trace off. -/
theorem State.retire_only {s : State} {c : Nat} (h : s.traceQuiet c = true) (i : Iss) (count : Nat) (target : Option Nat) (load : Option (Nat × Nat))
    (typ : Nat) : onlyCore s (s.retire c i count target load typ) c := by
  have key : ∃ x, s.retire c i count target load typ = s.setCore c x := by
    have hq : ∀ x, (s.setCore c x).traceQuiet c = true := fun x => h
    refine ⟨s.afterInstr c i count target load, ?_⟩
    unfold State.retire
    cases target <;> dsimp only <;> split <;> first | rfl | rw [State.trace_quiet (hq _)]
  obtain ⟨x, hx⟩ := key
  rw [hx]
  exact ⟨rfl, fun d hd => s.core_setCore_ne x hd⟩

/-- An instruction that is no control transfer, made a of the architectural state and leaves its place and loop alone (R303, R306, R311). -/
theorem State.seq_spec (s : State) (t c : Nat) (x : Core) (i : Iss) (count : Nat) (load : Option (Nat × Nat))
    (hp : x.pload = (s.core c).pload) (hi : x.instret = (s.core c).instret) (h1 : x.arch.pc = (s.core c).arch.pc)
    (h2 : x.arch.lend = (s.core c).arch.lend) (h3 : x.arch.lcount = (s.core c).arch.lcount) (h4 : x.arch.lstart = (s.core c).arch.lstart) :
    seqOf s (((s.reach t).setCore c x).retire c i count none load) c x.arch i.len := by
  have hr := ((s.reach t).setCore c x).retire_seq c i count load
  dsimp only at hr
  obtain ⟨r1, r2, r3, r4, -, r5, -⟩ := hr
  simp only [State.landed, State.gr, State.seqPc, State.seqCount, State.core_setCore_self, hp, hi, h1, h2, h3, h4] at r1 r2 r3 r4 r5
  refine ⟨fun r => ?_, ?_, ?_, r4, r5, fun hq => ?_⟩
  · unfold State.gr State.landed
    rw [r1 r]
  · rw [r2]; rfl
  · rw [r3]; rfl
  · have := State.retire_only (s := (s.reach t).setCore c x) (c := c) hq i count none load 2
    refine ⟨?_, fun d hd => ?_⟩
    · have h := this.1
      rw [h]; rfl
    · rw [this.2 d hd, State.core_setCore_ne _ _ hd]; rfl

/-- A control transfer (R303, R306). -/
theorem State.jump_spec (s : State) (t c : Nat) (x : Core) (i : Iss) (count target : Nat) (load : Option (Nat × Nat)) (typ : Nat)
    (hp : x.pload = (s.core c).pload) (hi : x.instret = (s.core c).instret) :
    jumpOf s (((s.reach t).setCore c x).retire c i count (some target) load typ) c x.arch (target % 2 ^ 32) := by
  have hq : ∀ (h : s.traceQuiet c = true), onlyCore s (((s.reach t).setCore c x).retire c i count (some target) load typ) c := fun h => by
    have := State.retire_only (s := (s.reach t).setCore c x) (c := c) h i count (some target) load typ
    refine ⟨?_, fun d hd => ?_⟩
    · have h := this.1
      rw [h]; rfl
    · rw [this.2 d hd, State.core_setCore_ne _ _ hd]; rfl
  obtain ⟨len, pre, n, prev⟩ := i
  have ht := ((s.reach t).setCore c x).retire_core c ⟨len, pre, n, prev⟩ count (some target) load typ
  refine ⟨fun r => ?_, by rw [ht]; simp [State.afterInstr], ?_, by rw [ht]; simp [State.afterInstr, hi], ?_, hq⟩
  · unfold State.gr
    rw [ht, State.afterInstr_reg]
    simp only [State.landed, State.gr, State.core_setCore_self, hp]
  · rw [ht]; simp [State.afterInstr]
  · rw [ht]
    have := ((s.reach t).setCore c x).afterInstr_only c ⟨len, pre, n, prev⟩ count (some target) load
    rwa [State.core_setCore_self] at this

/-- What writing a result makes of the core. -/
theorem State.setGr_eq (s : State) (c rd v n : Nat) : ∃ x : Core, s.setGr c rd v n = s.setCore c x ∧ x.arch = (s.core c).arch.setReg rd v
    ∧ x.pload = (s.core c).pload ∧ x.instret = (s.core c).instret := by
  unfold State.setGr State.modArch State.readyIn
  by_cases h : rd = 0
  · exact ⟨{ s.core c with arch := (s.core c).arch.setReg rd v }, by rw [if_pos h], rfl, rfl, rfl⟩
  · exact ⟨{ s.core c with arch := (s.core c).arch.setReg rd v, ready := mset (s.core c).ready 0 rd n },
      by rw [if_neg h, State.setCore_setCore, State.core_setCore_self], rfl, rfl, rfl⟩

/-- What an instruction of one result does (R303, R306, R311). -/
theorem State.result_spec (s : State) (t c : Nat) (i : Iss) (count rd v lat : Nat) :
    seqOf s ((s.reach t).result c i count rd v lat) c ((s.core c).arch.setReg rd v) i.len := by
  obtain ⟨x, hx, ha, hp, hi⟩ := (s.reach t).setGr_eq c rd v (i.n + lat)
  unfold State.result
  rw [hx]
  have := s.seq_spec t c x i count none hp hi (by rw [ha]; simp) (by rw [ha]; simp) (by rw [ha]; simp) (by rw [ha]; simp)
  rw [ha] at this
  exact this

end Sys2Proof.Machine
end

