-- ==== Sys2Proof/Laws/Memory.lean ====
section
/-!
SUPPORT. The laws of byte memory: every memory operation keeps the canonical form of Mem.wf, the memories at reset have it, and a read finds the
byte last written.
-/
namespace Sys2Proof.Machine

/-- Mem.wf is the canonical form of a sparse map whose default is the byte 0. -/
theorem Mem.wf_iff (m : Mem) : m.wf = true ↔ Sparse (0 : BitVec 8) m := by
  induction m with
  | nil => simp [Mem.wf, Sparse]
  | cons p t ih =>
    cases t with
    | nil => simp [Mem.wf, Sparse]
    | cons q t =>
      simp only [Mem.wf, Bool.and_eq_true, bne_iff_ne, ne_eq, decide_eq_true_eq, ih]
      constructor
      · rintro ⟨⟨h0, hlt⟩, hp, hz⟩
        refine ⟨List.pairwise_cons.2 ⟨fun r hr => ?_, hp⟩, fun r hr => ?_⟩
        · rcases List.mem_cons.1 hr with rfl | hr
          · exact hlt
          · exact lt_trans hlt ((List.pairwise_cons.1 hp).1 r hr)
        · rcases List.mem_cons.1 hr with rfl | hr
          · exact h0
          · exact hz r hr
      · rintro ⟨hp, hz⟩
        have h := List.pairwise_cons.1 hp
        exact ⟨⟨hz p (by simp), h.1 q (by simp)⟩, h.2, fun r hr => hz r (by simp [hr])⟩

theorem Mem.wf_nil : Mem.wf [] = true := rfl

theorem Mem.wf_wr {m : Mem} (h : m.wf = true) (a : Nat) (v : BitVec 8) : (m.wr a v).wf = true :=
  (Mem.wf_iff _).2 (((Mem.wf_iff m).1 h).mset a v)

theorem Mem.wf_wrL {m : Mem} (h : m.wf = true) (a : Nat) (l : List (BitVec 8)) : (m.wrL a l).wf = true := by
  induction l generalizing m a with
  | nil => exact h
  | cons v t ih => exact ih (Mem.wf_wr h a v) (a + 1)

theorem Mem.wf_wrN {m : Mem} (h : m.wf = true) (a n v : Nat) : (m.wrN a n v).wf = true := Mem.wf_wrL h a _

theorem Mem.wf_filter {m : Mem} (h : m.wf = true) (f : Host.Cell → Bool) : Mem.wf (m.filter f) = true :=
  (Mem.wf_iff _).2 (((Mem.wf_iff m).1 h).filter f)

theorem Mem.wf_window {m : Mem} (h : m.wf = true) (off n : Nat) : (m.window off n).wf = true := by
  refine (Mem.wf_iff _).2 ?_
  have hf := ((Mem.wf_iff m).1 h).filter (fun p => decide (off ≤ p.1) && decide (p.1 < off + n))
  unfold Mem.window
  refine ⟨?_, fun p hp => ?_⟩
  · refine List.pairwise_map.2 (hf.1.imp_of_mem fun {p q} hp hq hlt => ?_)
    have h1 := (List.mem_filter.1 hp).2
    have h2 := (List.mem_filter.1 hq).2
    simp only [Bool.and_eq_true, decide_eq_true_eq] at h1 h2
    simp only
    omega
  · obtain ⟨q, hq, rfl⟩ := List.mem_map.1 hp
    exact hf.2 q hq

/-- The memories at reset list nothing. -/
theorem reset_memories : State.reset.sram.wf = true ∧ State.reset.nvm.wf = true ∧ State.reset.tcm = [] ∧ State.reset.engs = [] := ⟨rfl, rfl, rfl, rfl⟩

/-! ## Reading after writing -/

theorem Mem.rd_wr (m : Mem) (a : Nat) (v : BitVec 8) (x : Nat) : (m.wr a v).rd x = if x = a then v else m.rd x := mget_mset m 0 v a x

/-- A byte outside a stored list keeps its value. -/
theorem Mem.rd_wrL_out (m : Mem) (a : Nat) (l : List (BitVec 8)) {x : Nat} (h : x < a ∨ a + l.length ≤ x) : (m.wrL a l).rd x = m.rd x := by
  induction l generalizing m a with
  | nil => rfl
  | cons v t ih =>
    simp only [List.length_cons] at h
    simp only [Mem.wrL]
    rw [ih (m.wr a v) (a + 1) (by omega), Mem.rd_wr, if_neg (by omega)]

/-- A byte of a stored list reads as stored. -/
theorem Mem.rd_wrL_in (m : Mem) (a : Nat) (l : List (BitVec 8)) {i : Nat} (h : i < l.length) : (m.wrL a l).rd (a + i) = l[i] := by
  induction l generalizing m a i with
  | nil => simp at h
  | cons v t ih =>
    simp only [Mem.wrL]
    cases i with
    | zero =>
      rw [Mem.rd_wrL_out _ _ _ (by omega), Mem.rd_wr]; simp
    | succ j =>
      have hj : j < t.length := by simpa using h
      have := ih (m.wr a v) (a + 1) hj
      rw [show a + (j + 1) = a + 1 + j by omega, this]; simp

theorem leBytes_length (n v : Nat) : (leBytes n v).length = n := by
  induction n generalizing v with
  | zero => rfl
  | succ n ih => simp [leBytes, ih]

/-- A store of n little-endian bytes reads back as the value cut to n bytes. -/
theorem Mem.rdN_wrN (m : Mem) (a n v : Nat) : (m.wrN a n v).rdN a n = v % 2 ^ (8 * n) := by
  induction n generalizing m a v with
  | zero => simp [Mem.rdN, Nat.mod_one]
  | succ n ih =>
    have h1 : (m.wrN a (n + 1) v) = (m.wr a (BitVec.ofNat 8 v)).wrN (a + 1) n (v / 256) := rfl
    have h2 : (m.wrN a (n + 1) v).rd a = BitVec.ofNat 8 v := by
      rw [h1]
      unfold Mem.wrN
      rw [Mem.rd_wrL_out _ _ _ (by omega), Mem.rd_wr]; simp
    simp only [Mem.rdN, h2]
    rw [h1, ih]
    rw [BitVec.toNat_ofNat, show 8 * (n + 1) = 8 + 8 * n by ring, pow_add, Nat.mod_mul, show (2 : Nat) ^ 8 = 256 from rfl]

end Sys2Proof.Machine
end

