-- ==== Sys2Proof/Laws/Warrants.lean ====
section
/-!
SUPPORT. Handles and entries (R348, R349): the handle of an allocated entry is valid, and its words are what a memory holds of it.
-/
namespace Sys2Proof.Machine

theorem State.handleOf_lt (s : State) {i : Nat} (hi : i < 2 ^ 12) : s.handleOf i < 2 ^ 64 := by
  have h1 : s.wcheck (s.wgenOf i * 2 ^ 12 + i) < 2 ^ 32 := Nat.mod_lt _ (by decide)
  have h2 : s.wgenOf i ≤ 0xFFFFF := Nat.min_le_left _ _
  simp only [State.handleOf]
  omega

/-- The handle of an allocated entry is valid. -/
theorem State.handleBad_handleOf (s : State) {i : Nat} (h0 : i ≠ 0) (hi : i < 2 ^ 12) (ha : s.walloc i = true) : s.handleBad (s.handleOf i) = 0 := by
  have h1 : s.wcheck (s.wgenOf i * 2 ^ 12 + i) < 2 ^ 32 := Nat.mod_lt _ (by decide)
  have h2 : s.wgenOf i ≤ 0xFFFFF := Nat.min_le_left _ _
  have e1 : s.handleOf i % 2 ^ 12 = i := by simp only [State.handleOf]; omega
  have e2 : s.handleOf i / 2 ^ 12 % 2 ^ 20 = s.wgenOf i := by simp only [State.handleOf]; omega
  have e3 : s.handleOf i % 2 ^ 32 = s.wgenOf i * 2 ^ 12 + i := by simp only [State.handleOf]; omega
  have e4 : s.handleOf i / 2 ^ 32 % 2 ^ 32 = s.wcheck (s.wgenOf i * 2 ^ 12 + i) := by simp only [State.handleOf]; omega
  unfold State.handleBad
  simp only [e1, e2, e3, e4]
  simp [h0, ha]

theorem State.handleBad_setTcm (s : State) (c : Nat) (m : Mem) (h : Nat) : (s.setTcm c m).handleBad h = s.handleBad h := rfl

theorem State.tcmOf_setTcm (s : State) (c : Nat) (m : Mem) : (s.setTcm c m).tcmOf c = m := by simp [State.tcmOf, State.setTcm]

/-- A valid handle, stored in a TCM, reads back valid. -/
theorem State.handleBad_stored (s : State) (c a v : Nat) (hv : v < 2 ^ 64) (hb : s.handleBad v = 0) :
    (s.setTcm c ((s.tcmOf c).wrN a 8 v)).handleBad (((s.setTcm c ((s.tcmOf c).wrN a 8 v)).tcmOf c).rdN a 8) = 0 := by
  have h2 : v % 2 ^ (8 * 8) = v := Nat.mod_eq_of_lt hv
  rw [State.tcmOf_setTcm, State.handleBad_setTcm, Mem.rdN_wrN, h2]
  exact hb

theorem State.handleOf_mod (s : State) {i : Nat} (hi : i < 2 ^ 12) : s.handleOf i % 2 ^ 12 = i := by
  simp only [State.handleOf]
  omega

/-- A slot of a bound set that holds the handle of an allocated entry grants what the entry covers (R355, R366). -/
theorem State.boundCheck_handleOf (s : State) (f kind mask id : Nat) {i : Nat} (h0 : i ≠ 0) (hi : i < 2 ^ 12) (ha : s.walloc i = true)
    (hb : mget (s.fn f).bound 0 0 = s.handleOf i) (hk : (s.went i).kind = kind) (hr : (s.went i).rights &&& mask ≠ 0) (hl : (s.went i).base ≤ id)
    (hu : id ≤ (s.went i).limit) : s.boundCheck f kind mask [(id, id)] = 0 := by
  have hm := s.handleOf_mod hi
  have hn : s.handleOf i ≠ 0 := fun e => h0 (by rw [e] at hm; exact hm.symm)
  have hc : (s.boundReg f 0).check kind mask [(id, id)] = 0 := by
    simp only [State.boundReg, hb, State.wregFor, s.handleBad_handleOf h0 hi ha, if_true, State.wregOf, hm, WReg.check]
    simp [hn, hk, hr, hl, hu]
  have hx : ((List.range 8).map fun i => (s.boundReg f i).check kind mask [(id, id)]).contains 0 = true := by
    rw [show List.range 8 = [0, 1, 2, 3, 4, 5, 6, 7] from rfl]
    simp [hc]
  simp only [State.boundCheck, hx, if_true]

end Sys2Proof.Machine
end

