-- ==== Sys2Proof/Tests/Slice0.lean ====
section
/-!
SUPPORT. Tests: an ill-formed term for each check of WellFormed; small tests with results worked out by hand from the specification; and for
each statement with hypotheses a theorem `witness_…` that a concrete state meets them, clause by clause.
-/
namespace Sys2Proof.Tests
open Sys2Proof.Machine Sys2Proof.Machine.F

/-! ## Small states -/

/-- Warrant registers with every right: over memory, and over all channels. -/
def memW : WReg := { handle := 1, kind := 1, rights := 0xFF, base := 0, limit := 0xFFFFFFFF }
def chW : WReg := { handle := 2, kind := 2, rights := 0xFF, base := 0, limit := 1023 }

/-- Core 0 runs at 0x100. -/
def core0 : Core := { st := 1, arch := { pc := 0x100, gr := [(1, 0x2000), (2, 7), (3, 0xFFFFFFF0)], wr := [(0, memW), (1, chW), (7, memW)] } }
def k0 : State := { cores := [(0, core0)], tcm := [(0, Mem.wrN [] 0x2000 8 0x8899AABBCCDDEEFF)] }

/-- The fields of W: rd, rs1, rs2. -/
def W (rd rs1 rs2 : Nat) : BitVec 16 := BitVec.ofNat 16 (rd + 32 * rs1 + 1024 * rs2)

/-- Change the core. -/
def onCore (s : State) (f : Core → Core) : State := s.setCore 0 (f (s.core 0))


/-! ## Ill-formed commands -/

theorem test_wf_initiators : [Initiator.core 16, .vf 0, .vf 63, .dma 4].all (fun i => !i.wf && !(Instr.registerWrite i 0 0).wf && !(Instr.claim i).wf) = true ∧
    [Initiator.core 15, .pf0, .pf1, .dap, .vf 1, .vf 62, .dma 3].all (fun i => i.wf && (Instr.registerWrite i 0 0).wf) = true := by decide

theorem test_wf_prefixes : (Instr.nop 0 [1, 2, 3, 4, 5]).wf = false ∧ (Instr.nop 0 [1, 2, 3, 4]).wf = true := by decide

theorem test_wf_immediates : (Instr.addi 0 [] 0 0x10000).wf = false ∧ (Instr.addi 0 [] 0 0xFFFF).wf = true ∧ (Instr.addi 0 [8] 0 0x10000).wf = true ∧
    (Instr.sti 0 [] 0 0 0x10000).wf = false ∧ (Instr.loopi 0 [] 0 0x10000).wf = false := by decide

theorem test_wf_listening_blocks : (Instr.otrBlockClassified 0 0 [(true, 3199)]).wf = false ∧ (Instr.otrBlockClassified 0 0 [(true, 3200), (false, 0)]).wf = false ∧
    (Instr.otrBlockClassified 0 0 [(true, 3199), (false, 1)]).wf = true := by decide

theorem test_wf_scrubs : (Instr.eccScrub 0 16 0 .ok).wf = false ∧ (Instr.eccScrub 1 0 0x2000000 .ok).wf = false ∧ (Instr.eccScrub 1 0 0x1FFFFFF .ok).wf = true := by decide

theorem test_wf_tlps : (Instr.inboundRead 2 0 0x800000 1 true .ok .ok).wf = false ∧ (Instr.inboundRead 2 0 0 4097 true .ok .ok).wf = false ∧
    (Instr.inboundWrite 2 2 0 [] false .ok).wf = false ∧ (Instr.dmaBurst 0 .ok (some (List.replicate 65 0))).wf = false ∧ (Instr.outboundCompletion 0 (some (List.replicate 13 0))).wf = false ∧
    (Instr.forwardedBlockArrival 0 0 0 0 0 [] 0 0 false false false false).wf = false := by decide

theorem test_wf_functions : (Instr.funcDrainEnd 0x48).wf = false ∧ (Instr.funcDrainEnd 0x47).wf = true ∧ (Instr.funcResetEnd 0x160 0).wf = false := by decide

theorem test_wf_enumerations : (Instr.aspmEntry 2).wf = false ∧ (Instr.portDown 0 0).wf = false ∧ (Instr.yardWake 0).wf = false ∧ (Instr.intentDoorbell 0 true 0 0 0 0).wf = false ∧ (Instr.pcieLinkUp 0 1 false 0).wf = false ∧ (Instr.configRequest 0 2 none).wf = false := by decide

theorem test_wf_lengths : (Instr.bootRomStart 0 [] false).wf = false ∧ (Instr.prickingWindowWrite 0 []).wf = false ∧ (Instr.dapacc 1 0 0 (some [0, 0, 0, 0, 0])).wf = false ∧
    (Instr.doorbellPublish 0).wf = false := by decide
/-! ## Core instructions -/

theorem witness_integer : (∀ op ∈ [0x01, 0x02, 0x03, 0x04, 0x05, 0x06, 0x07, 0x08, 0x09, 0x0A, 0x0B, 0x0C, 0x0D, 0x0E, 0x10, 0x11, 0x12, 0x13, 0x14, 0x15, 0x16,
    0x20, 0x21, 0x22, 0x23, 0x24, 0x25, 0x26, 0x27, 0x28], k0.coreReady 0 op [] = true) ∧ (W 31 31 31).toNat < 2 ^ 15 ∧ (W 31 31 0).toNat < 2 ^ 10 ∧
    (31 : BitVec 32).toNat < 32 ∧ k0.coreReady 0 0x20 [8] = true := by decide

theorem witness_float : (∀ op ∈ [0x50, 0x51, 0x52, 0x53, 0x54, 0x55, 0x56, 0x57, 0x58, 0x59, 0x5A, 0x5B, 0x5C, 0x5D, 0x5E], k0.coreReady 0 op [] = true) ∧
    (W 31 31 31).toNat < 2 ^ 15 ∧ (W 31 31 0).toNat < 2 ^ 10 := by decide

theorem witness_loads : ∀ p ∈ [(0x30, 1), (0x31, 1), (0x32, 2), (0x33, 2), (0x34, 4)],
    let a := (k0.x 0 1 + immS [] 4).toNat
    k0.coreReady 0 p.1 [] = true ∧ a % p.2 = 0 ∧ k0.tcmGrants 0 p.1 [] a p.2 false = true ∧ k0.tcmGrants 0 p.1 [] (2 ^ 18 - p.2) p.2 false = true := by decide

theorem witness_stores : (∀ p ∈ [(0x38, 1), (0x39, 2), (0x3A, 4), (0x3B, 4)],
    let a := (k0.x 0 1 + immS [] 4).toNat
    k0.coreReady 0 p.1 [] = true ∧ a % p.2 = 0 ∧ k0.tcmGrants 0 p.1 [] a p.2 true = true) ∧ k0.noStep = true ∧ k0.lockstep 0 = true ∧ (k0.core 0).jrnl.length < 512 ∧
    (W 0 31 0).toNat &&& 0xFC1F = 0 ∧ (k0.tcmOf 0).wf = true := by decide

theorem witness_refused_store : let s := onCore k0 fun k => { k with arch := { k.arch with wr := [(7, memW)] } }
    (∀ op ∈ [0x34, 0x3A], s.coreReady 0 op [] = true ∧ ((s.core 0).arch.wreg (((preOf op []).bind (·.wr)).getD 0)).handle = 0) ∧ (s.core 0).arch.frames.length < 4 ∧
    s.noStep = true ∧ s.traceQuiet 0 = true ∧ (s.core 0).arch.lcount = 0 ∧ (s.x 0 1 + immS [] 4).toNat % 4 = 0 := by decide

theorem witness_control : (∀ op ∈ [0x40, 0x44, 0x45, 0x46, 0x47, 0x70, 0x71], k0.coreReady 0 op [] = true) ∧ (BitVec.ofNat 16 (5 * 1024)).toNat < 2 ^ 14 ∧
    bits (5 * 1024) 13 10 ≤ 5 ∧ (W 0 31 0).toNat &&& 0xFC1F = 0 ∧ (W 31 31 0).toNat &&& 0xFC00 = 0 ∧
    (BitVec.ofNat 32 ((k0.core 0).arch.pc + lenOf 0x70 []) + immZ [] 0).toNat ≠ (k0.core 0).arch.pc ∧ (W 31 0 0).toNat < 2 ^ 5 := by decide

theorem witness_trap : (∀ op ∈ [0x7C, 0x7D], k0.coreReady 0 op [] = true) ∧ (k0.core 0).arch.frames.length < 4 ∧ k0.on DBG_C_CTL_BRKCLAIM 0 = false ∧
    (let s := k0.wr DBG_C_CTL_BRKCLAIM 0 1
     s.coreReady 0 0x7D [] = true ∧ s.on DBG_C_CTL_BRKCLAIM 0 = true) ∧ k0.traceQuiet 0 = true := by decide

theorem witness_rfe : let f : Frame := { pc := 0x40, status := 0, ecause := 5, einfo := 0, lstart := 0, lend := 0, lcount := 0, pend := some ⟨3, 1, 2⟩, wr := [(0, memW)] }
    let s := onCore k0 fun k => { k with arch := { k.arch with frames := [f] } }
    s.coreReady 0 0x76 [] = true ∧ (s.core 0).arch.frames = [f] ∧ s.keptBad 0 = false := by decide

theorem witness_control_of_core : (∀ op ∈ [0x00, 0x77, 0x78, 0x79, 0x74, 0x75], k0.coreReady 0 op [] = true) ∧ (k0.core 0).arch.hold = 0 ∧ k0.lockstep 0 = true ∧
    (let s := k0.wr SYS_CFG_SPLIT 0 1
     s.lockstep 0 = false ∧ s.coreReady 0 0x74 [] = true ∧ s.coreReady 1 0x74 [] = false) ∧
    (let s := onCore k0 fun k => { k with arch := { k.arch with hold := 1 } }
     s.supply.up = true ∧ (s.core 0).arch.hold ≠ 0 ∧ s.coreReady 0 0x75 [] = true) := by decide

theorem witness_special : k0.coreReady 0 0x60 [] = true ∧ k0.coreReady 0 0x61 [] = true ∧
    (∀ n ∈ [0x00, 0x01, 0x02, 0x03, 0x04, 0x05, 0x06, 0x08, 0x09, 0x0A, 0x0C, 0x10, 0x13, 0x18], srOf (BitVec.ofNat 16 (32 * n + 31)).toNat = n ∧
      (BitVec.ofNat 16 (32 * n + 31)).toNat < 2 ^ 13) ∧ (k0.core 0).arch.pc ≠ (k0.core 0).arch.lend ∧ (k0.core 0).arch.pc ≠ k0.gr 0 1 % 2 ^ 32 := by decide

theorem witness_events : (let s : State := ({ k0 with ecUsed := [5] }).wr EC_CFG_PROD 5 0x700
     (∀ op ∈ [0x68, 0x69], s.coreReady 0 op [1] = true ∧ ((s.core 0).arch.wreg (((preOf op [1]).bind (·.wr)).getD 0)).check 2 1 [(5, 5)] = 0) ∧ 5 ∈ s.ecUsed ∧
      s.rd EC_CFG_PROD 5 = 0x700 + (0 : Fin 16).val ∧ s.lockstep 0 = true ∧ (s.core 0).slog.length < 64 ∧ (5 : BitVec 16).toNat &&& 0xFC00 = 0) ∧
    (let s := (onCore k0 fun k => { k with ev := [(7, 1)] }).wr CP_IEN_EVIN 0 0x80
     s.supply.up = true ∧ s.asleep 8 = false ∧ s.irq 0 = some 0x97 ∧ s.irqOk 0 = true ∧ (s.core 0).haltReq = false ∧ (s.core 0).stepping = false ∧
      (s.core 0).arch.frames.length < 4 ∧ s.traceQuiet 0 = true) := by decide

theorem witness_waits : (let s := onCore k0 fun k => { k with evIn := [(3, 0)], ev := [(3, 14)] }
     s.asleep 8 = false ∧ (s.core 0).evIn.find? (fun p => p.1 == 3) = some (3, 0) ∧ (s.core 0).st ≠ 0 ∧ mget (s.core 0).ev 0 3 < 15 ∧
      s.coreReady 0 0x6A [] = true ∧ s.coreReady 0 0x6B [] = true ∧ s.evPick 0 0x08 = some 3 ∧ s.evPick 0 0x01 = none ∧ (s.core 0).slog.length < 64) ∧
    (let s := onCore k0 fun k => { k with ev := [(3, 1)], wait := .wfe 8 5 3 0 }
     s.supply.up = true ∧ s.evPick 0 8 = some 3 ∧ (s.core 0).stepping = false) ∧
    (let d := k0.gr 0 (rs1Of (W 0 1 0).toNat) + 2 ^ 32 * k0.gr 0 (rs2Of (W 0 1 0).toNat)
     k0.coreReady 0 0x6C [] = true ∧ (W 0 1 0).toNat &&& 0x801F = 0 ∧ (k0.reach (cycTime (k0.issueCycle 0 [1, 0]))).tick < d ∧ mget k0.dtSeen 0 0 < d) ∧
    k0.gr 0 (rs1Of (W 0 0 0).toNat) + 2 ^ 32 * k0.gr 0 (rs2Of (W 0 0 0).toNat) ≤ mget k0.dtSeen 0 0 ∧
    (let s := onCore k0 fun k => { k with wait := .waitt 9 3 0 }
     s.asleep 8 = false ∧ (s.core 0).wait = .waitt 9 3 0 ∧ (s.core 0).stepping = false) := by decide

/-! ## Warrants -/

/-- Entry 1 is a root over memory with the right to derive, entry 2 its child. -/
def tab : List (Nat × WEntry) := [(1, { alloc := true, kind := 1, rights := 0xFF, limit := 0xFFFF }), (2, { alloc := true, kind := 1, rights := 1, limit := 7, parent := 1 })]
def root : WReg := { handle := 1, kind := 1, rights := 0xFF, base := 0, limit := 0xFFFF }
/-- A core with the root in wr0 and a descriptor for WDER at 0x2000: kind 1, rights 1, range 0 to 0x10. -/
def wState : State := { (onCore k0 fun k => { k with arch := { k.arch with wr := [(0, memW), (1, root), (7, memW)] } }) with wtab := tab, tcm := [(0, Mem.wrN [] 0x2000 12 (0x0101 + 2 ^ 64 * 0x10))] }

theorem witness_warrant_moves : (∀ op ∈ [0x85, 0x86, 0x84, 0x80, 0x81], wState.coreReady 0 op [] = true) ∧ (63 : BitVec 16).toNat < 2 ^ 6 ∧ (7 : BitVec 8).toNat < 8 ∧
    (2047 : BitVec 16).toNat < 2 ^ 11 ∧ (W 7 1 0).toNat &&& 0xFC18 = 0 ∧ (wState.x 0 1 + immS [] 8).toNat % 8 = 0 ∧ (wState.core 0).jrnl.length < 512 ∧
    wState.tcmGrants 0 0x80 [] 0x2008 8 false = true ∧ wState.tcmGrants 0 0x81 [] 0x2008 8 true = true := by decide

/-- The state of witness_warrant_moves with the handle of entry 1 in the TCM. -/
def wldState : State := wState.setTcm 0 ((wState.tcmOf 0).wrN 0x2008 8 (wState.handleOf 1))

theorem witness_wld_ready : wldState.coreReady 0 0x80 [] = true ∧ wldState.tcmGrants 0 0x80 [] 0x2008 8 false = true := by decide

theorem witness_wld : wldState.handleBad ((wldState.tcmOf 0).rdN 0x2008 8) = 0 :=
  State.handleBad_stored wState 0 0x2008 _ (State.handleOf_lt wState (by decide)) (State.handleBad_handleOf wState (by decide) (by decide) (by decide))

theorem witness_wder : let p := (wState.core 0).arch.wreg 1
    wState.coreReady 0 0x82 [] = true ∧ (wState.core 0).arch.det = false ∧ wState.tcmGrants 0 0x82 [] 0x2000 12 false = true ∧ p.handle ≠ 0 ∧ p.stale = false ∧
    wderOk p ((wState.tcmOf 0).rdN 0x2000 12) = true ∧ (wState.core 0).slog.length < 64 ∧ (BitVec.ofNat 16 (64 + 8 * 1 + 2)).toNat < 2 ^ 11 ∧
    wState.gr 0 (bits (64 + 8 * 1 + 2) 10 6) = 0x2000 := by decide

theorem witness_wder_free : ({ wState with wgen := 1 } : State).wfree = some 3 := by decide +kernel

theorem witness_wrev_and_binding : (let p := (wState.core 0).arch.wreg (1 : BitVec 8).toNat
     wState.coreReady 0 0x83 [] = true ∧ p.handle ≠ 0 ∧ p.stale = false ∧ bit p.rights 7 = true ∧ wState.subtree (p.handle % 2 ^ 12) = [1, 2] ∧
      (∀ j ∈ wState.subtree (p.handle % 2 ^ 12), (wState.went j).entryw = false) ∧ (wState.core 0).arch.det = false) ∧ wState.handleBad 0 ≠ 0 ∧ wState.supply.up = true := by decide

theorem witness_valid_handle : wState.handleBad (wState.handleOf 1) = 0 := State.handleBad_handleOf wState (by decide) (by decide) (by decide)


/-! ## Loop engines -/

/-- Engine 3 runs slot 1 (budget 100, job of leg 3 only), v1 to v3, the accumulators and a return address set. -/
def run0 : ERun := { slot := 1, t0 := 320, pc := 5, at_ := 5, v := [(1, 100), (2, -7), (3, 8388607)], acc := [(0, 2 ^ 47 - 1), (1, -3)], a := [(0, 16)], stack := [9] }
def e0 : State := (({ engs := [(3, { run := some run0, dm := Mem.wrN [] 64 4 0x8000C103 }), (50, { run := some run0 })] } : State).wrs 25 [(LE_SLOT_BUDGET_BUDGET, 100), (LE_SLOT_LEGSLO_LEGS, 8)]).wr LE_SLOT_BUDGET_BUDGET 401 100
def runOf (s : State) : ERun := s.uRun 3 .nop

theorem witness_microwords : (∀ o ∈ [UOp.mov 4 1, .add 4 1 2, .sub 4 1 2, .addi 4 1 8192, .abs 4 2, .min 4 1 2, .max 4 1 2, .clamp 4 1 2, .and 4 1 2, .or 4 1 2,
      .xor 4 1 2, .shl 4 1 31, .shr 4 1 31, .accrd 1 4 63, .ldi 15 2097152, .ldih 15 4095, .movs 4 0, .movs 4 1, .movs 4 2, .movs 4 3, .prm 15 63, .ld 15 3 16383,
      .rawrd 4 3, .mul 0 1 2, .mac 1 1 2, .msu 1 1 2, .accld 1 1 63, .accadd 1 1 63, .accsum 0, .accclr 1, .accrs 0 0 0, .st 1 0 16383, .accsv 1 0 0, .tlu 4 1 0 0],
      e0.uReady 3 o = true) ∧ e0.engDataOk 3 = true ∧ (runOf e0).slot < 8 ∧ ((runOf e0).ra 0 + 0) % 16384 + 1 < 0x3E00 := by decide

theorem witness_micro_control : (∀ o ∈ [UOp.nop, .jmp 4095, .br 0 1, .br 15 4095, .dbnz 1 77, .call 7, .ret, .cmp 1 2, .lda 3 16383, .adda 0 8192, .fin],
    e0.uReady 3 o = true) ∧ (e0.uRun 3 (.call 7)).stack.length < 8 ∧ (e0.uRun 3 .ret).stack ≠ [] := by decide

theorem witness_micro_outputs : (∀ o ∈ [UOp.fetch 7 63, .fetch 7 1023, .post 3 1 31, .spost 3 1 2, .rawth 3 1 2, .rawcfg 3 0 0, .sig 3], e0.uReady 3 o = true) ∧
    bit (e0.slotMask 3 (runOf e0).slot) 3 = true ∧ e0.uReady 50 (.post 3 1 1) = true ∧
    (let d0 := (e0.eng 3).dm.rdN (4 * (((runOf e0).ra 0 + 0) % 16384)) 4
     bit d0 31 = true ∧ bits d0 13 8 / 8 = 3 / 6 ∧ bits d0 19 14 / 6 = 3 / 6) ∧
    (let s : State := ({ e0 with lanesOn := [12], ecUsed := [5] }).wr EC_CFG_PROD 5 0x30F
     s.uReady 3 (.sig 3) = true ∧ s.uReady 3 (.rawth 0 1 2) = true ∧ s.rd EC_CFG_PROD 5 = 0x300 + 4 * 3 + 3 ∧ s.ringOut 5 = false) := by decide

/-- Engine 3 of a committed structure, slots 0 and 7 used. -/
def eng (x : Engine) : State := { engs := [(3, x)], committed := some {}, slotsUsed := [24, 31] }

theorem witness_triggers : (let s : State := { eng {} with trigs := [(3, 7, 40)] }
     s.supply.up = true ∧ s.away (3 / 6) = false ∧ s.trigs.find? (fun q => q.1 == 3 && q.2.1 == 7) = some (3, 7, 40) ∧ (s.eng 3).holdP = 0 ∧ (s.eng 3).mode = .normal ∧
      s.committed.isSome = true ∧ 8 * 3 + 7 ∈ s.slotsUsed ∧ s.rd LE_SLOT_STAT_PENDING 31 = 0 ∧ mget (s.eng 3).disp none 7 = none) ∧
    (let s := eng { held := [(7, 96)] }
     (s.eng 3).held.find? (fun q => q.1 == 7) = some (7, 96) ∧ (s.eng 3).mode = .normal ∧ s.committed.isSome = true ∧ 31 ∈ s.slotsUsed ∧
      s.rd LE_SLOT_STAT_PENDING 31 = 0 ∧ mget (s.eng 3).disp none 7 = none) ∧
    (let s := (eng { pend := [(0, 64), (7, 64)], freeAt := 96 }).wrs 24 [(LE_SLOT_STAT_PENDING, 1)] |>.wr LE_SLOT_STAT_PENDING 31 1
     let ps := (s.engSlots 3).filter fun j => s.on LE_SLOT_STAT_PENDING (8 * 3 + j)
     ps = [0, 7] ∧ (∀ j ∈ ps, mget (s.eng 3).pend 0 j ≤ (s.eng 3).freeAt) ∧ s.away (3 / 6) = false ∧ (s.eng 3).mode = .normal ∧ (s.eng 3).run = none ∧ (s.eng 3).disReq = false ∧
      s.rd PRK_STATE_OP 0 ≠ 3 ∧ s.fnDrains (0x60 + 3) = false) := by decide

theorem witness_fallback : (let s := eng { run := some run0 }
     s.supply.up = true ∧ (s.eng 3).mode = .normal ∧ (s.eng 3).run.isSome = true ∧ (s.ltile (3 / 6)).cur = none) ∧
    (let f : FbRun := { start := 320, next := 320, cnt := 1 }
     let s := (eng { fb := some f, mode := .fallback, hs := [(0, 2 ^ 96 + 2 ^ 68 + 2 ^ 70)] }).wr LE_FBLIM_LIMIT 3 1
     let w := mget (s.eng 3).hs (2 ^ 159) f.pc
     (s.eng 3).fb = some f ∧ f.next < f.start + 32 * s.rd LE_FBLIM_LIMIT 3 ∧ s.badCw = [] ∧ bits w 97 96 = 1 ∧ bits w 69 68 = 1 ∧ bits w 105 104 = 0 ∧ bit w 36 = false ∧
      bit w 43 = false ∧ bit w 159 = false ∧ (s.eng 3).mode = .fallback ∧ (s.eng 3).rst = false) ∧
    (let r : ERun := { run0 with fetches := [⟨7, 9, -5, 1, 2⟩] }
     ((eng { run := some r }).eng 3).run = some r ∧ r.fetches = [⟨7, 9, -5, 1, 2⟩]) := by decide

theorem witness_posts : (let q : Post := ⟨3, 47, true, [some (-1), some 5], false, 64, none, false⟩
     let s : State := { posts := [q] }
     s.away (47 / 6) = false ∧ s.posts.find? (fun q => q.leg == 47) = some q ∧ s.step12 = false ∧ q.cp = none ∧ q.fallback = false ∧ (s.leg 47).st ≠ .fallback) ∧
    (let q : Post := ⟨3, 0, false, [none, some 0, some ((2 ^ 23 - 1 : Nat) : Int), none, none], false, 64, none, false⟩
     let s : State := { posts := [q], legs := [(0, { st := .active, pstart := some 0, plen := 2 ^ 40 })] }
     s.posts.find? (fun q => q.leg == 0) = some q ∧ (s.leg 0).pstart = some 0 ∧ (s.leg 0).eff = s.plan 0 ∧ s.on L_STAT_SLOPE 0 = false) ∧
    (let s : State := { laneIn := [(15, [15, 0])], lanesOn := [15], engs := [(3, { lanes := [(3, { blank := some 2 })] })] }
     mget s.laneIn [] (4 * 3 + 3) = [15, 0] ∧ 15 ∈ s.lanesOn ∧ (∀ p ∈ (s.eng 3).laneWr, s.et < p.2) ∧ (mget (s.eng 3).lanes {} 3).blank = some 2) ∧
    (let d0 := 2 ^ 31 + 3 * 2 ^ 14 + 5 * 2 ^ 8 + 200
     let s : State := (({ engs := [(3, { laneWr := [(.cfg 1 2 d0 77, 64)] })], et := 64 } : State)).wr LE_SLOT_LEGSLO_LEGS 25 8
     (s.eng 3).laneWr = [(.cfg 1 2 d0 77, 64)] ∧ 64 ≤ s.et ∧ bit d0 31 = true ∧ bits d0 13 8 / 8 = 3 / 6 ∧ bits d0 19 14 / 6 = 3 / 6 ∧
      bit (s.slotMask 3 1) (bits d0 19 14) = true) := by decide

theorem witness_requests : ∀ a ∈ [1, 2, 3], let x : Leg := { st := .active, pstart := some 0, plen := 2 ^ 40, eff := [.tick 0, .tick 9000, .tick 0, .tick 0], done := [0, 1], onH := if a = 1 then some ⟨0, 5, 0, 9000⟩ else none }
    let r : LaneReq := ⟨47, a, 3, 2, 100⟩
    let s : State := { legs := [(47, x)], laneReqs := [r] }
    s.away (47 / 6) = false ∧ s.step12 = false ∧ (∀ q ∈ s.posts, q.leg ≠ 47) ∧ (s.leg 47).st = .active ∧ s.firstReq 47 = some r ∧
      s.planQuiet 47 (r.due + 82) = true ∧ (s.leg 47).onH.isSome = decide (a = 1) ∧ (s.leg 47).pstart.isSome = true ∧ (s.leg 47).offAt ≠ some r.due ∧
      (∀ q ∈ s.laneReqs, q.leg = 47 → q.due = r.due → q.action = 1 → a = 1) ∧ (s.leg 47).recent = [] := by decide

theorem witness_mailbox : bit (0x80000E05 : BitVec 32).toNat 31 = true ∧
    (let m : MbEntry := ⟨0, 5, false, 77, none, 0, 0⟩
     let s := { (eng { mbox := [m], plen := [(0, 6)] }) with et := 64 }
     (s.eng 3).mbox.length < 8 ∧ (∀ p ∈ (s.eng 3).pushes, s.et < p.enter) ∧ (∀ q ∈ (s.eng 3).mbox, coreCyc q.enter ≠ coreCyc s.et) ∧
      s.away (3 / 6) = false ∧ (s.eng 3).pushes = [] ∧ (s.eng 3).mbox = [m] ∧ (s.eng 3).run = none ∧ (s.eng 3).staged = false ∧
      (∀ j ∈ s.engSlots 3, s.on LE_SLOT_STAT_PENDING (8 * 3 + j) = false) ∧ 8 * 3 + m.slot ∈ s.slotsUsed ∧ m.index < mget (s.eng 3).plen 0 m.slot) ∧
    (let m : MbEntry := ⟨0, 5, false, 77, some 500, 0, 0⟩
     ((eng { mbox := [m] }).eng 3).mbox.find? (fun m => m.due.isSome) = some m) := by decide

theorem witness_engines : (eng {}).supply.up = true ∧ ((eng {}).eng 3).mode = .normal ∧
    (let s := eng { disReq := true }
     (s.eng 3).disReq = true ∧ (s.eng 3).run = none ∧ (∀ q ∈ s.posts, q.engine ≠ 3)) ∧ ((eng { mode := .disabled }).eng 3).mode = .disabled ∧
    (let s := eng { reload := some 900 }
     (s.eng 3).reload = some 900 ∧ s.fnHeld (0x60 + 3) = false) ∧ ((eng {}).ltile (3 / 6)).spareOk = true ∧ ((eng {}).ltile (3 / 6)).has 3 = false ∧
    (let w2 : LeSwap := { req := ⟨43, 0⟩, phase := 2, due := 9 }
     let s : State := { ltiles := [(0, { queue := [⟨3, 0⟩, ⟨4, 1⟩] }), (7, { cur := some w2 })] }
     (s.ltile 0).cur = none ∧ s.prkBusy = false ∧ (s.ltile 0).spareOk = true ∧ (s.ltile 0).queue = [⟨3, 0⟩, ⟨4, 1⟩] ∧ (s.eng 3).mode ≠ .faulted ∧ (s.ltile 7).cur = some w2 ∧
      w2.reload = false ∧ (s.eng 43).run = none) ∧
    (let w3 : LeSwap := { req := ⟨43, 0⟩, phase := 3, due := 9 }
     let s : State := { ltiles := [(7, { cur := some w3 })] }
     (s.ltile 7).cur = some w3 ∧ (43 : Nat) < 48) := by decide

/-! ## The pricking store -/

/-- A full image of three sections (R35 to R41), built by hand: the header of 304 bytes and SERIAL 1, the clock plan with every field 0, and the trailer with
its CRC, the public key of the private key 1, which is the base point, and a signature with the nonce 1, so that its r is the base point's x. -/
def imgBytes : List (BitVec 8) :=
  leBytes 8 (0x01 + 2 ^ 16 + 2 ^ 32 * 64) ++ leBytes 16 (0x514B5250 + 2 ^ 32 * 0x10 + 2 ^ 48 * 0x9664 + 2 ^ 64 * 304 + 2 ^ 96 * 1) ++ leBytes 8 0 ++
  leBytes 40 (0xA1 * 2 ^ 8 + 3 * 2 ^ 16) ++ leBytes 8 (0x02 + 2 ^ 16 + 2 ^ 32 * 8) ++ leBytes 8 0 ++ leBytes 8 (0xFF + 2 ^ 16 + 2 ^ 32 * 208) ++
  leBytes 8 0xe259c2f9 ++ [4] ++ (leBytes 48 p384gx).reverse ++ (leBytes 48 p384gy).reverse ++ leBytes 7 0 ++ (leBytes 48 p384gx).reverse ++
  (leBytes 48 0x610197757a4367e709dbebc8e5ebbd6439edeb224555e044a7bf8aee73b3d5b0a12a443aab21d030b43d9d2ceab666e1).reverse

/-- The image is in slot 0, and slot 0 is the fallback of slot 1, which holds nothing valid. -/
def imgState : State :=
  { nvm := (imgBytes.zipIdx.map fun (q : BitVec 8 × Nat) => (q.2, q.1)).filter (·.2 != 0)
    nv := { keys := [(0, 0x8c4f262412b7f9ed867606705a130de5212fd048fbaf8c3842f4a240f4b45ba0c90f82194ccdda3ed89c96b0afe1d51d)], content := [(0, 1), (1, 1)], active := some 1, fallback := some 0 } }

def validates (r : Except Rej Image) (kind : Nat) : Bool := match r with | .ok im => im.kind == kind | .error _ => false
def rejects (r : Except Rej Image) (code : Nat) : Bool := match r with | .ok _ => false | .error e => e.code == code

theorem test_image_validates : validates (imgState.steps2to10 0 [0]) 0 = true := by decide +kernel

theorem witness_validation : ∀ cmd ∈ [0, 1, 3], let s := ({ imgState with prkOp := some { cmd := cmd, slot := 0 } } : State).wr PRK_STATE_OP 0 1
    s.supply.up = true ∧ s.prkOp = some { cmd := cmd, slot := 0 } ∧ s.rd PRK_STATE_OP 0 = 1 ∧ (s.reach 0).nvm = imgState.nvm ∧ (s.reach 0).nv = imgState.nv := by decide +kernel

theorem witness_validation_ok : (let s := ({ imgState with prkOp := some { cmd := 1, slot := 0 } } : State).wr PRK_STATE_OP 0 1
     validates ((s.reach 0).steps2to10 0 (prkKinds 1)) 0 = true) := by decide +kernel

theorem witness_validation_error : (let s := ({ prkOp := some { cmd := 0, slot := 2 } } : State).wr PRK_STATE_OP 0 1
     rejects ((s.reach 0).steps2to10 2 (prkKinds 0)) 4 = true) := by decide +kernel

/-- The active slot is rejected with LENGTH and the fallback is committed; the device with the image active commits it at once; and one without either fails. -/
theorem witness_boot : imgState.bootEnded = false ∧ imgState.rd NVM_STRAP_BOOTMODE 0 = 0 ∧ imgState.nv.active = some 1 ∧
    (let b : State := { imgState with bootEnded := true }
     let u := b.bootTry 1
     (u.2.map (·.code)) = some 4 ∧ ((u.1.bootCodes { code := 4 }).nv.fallback) = some 0 ∧ (b.bootTry 0).2 = none ∧
      (({ b with nv := { b.nv with fallback := some 2 } } : State).bootTry 2).2.map (·.code) = some 3) ∧ ({} : State).nv.active = none ∧ ({} : State).nv.fallback = none := by decide +kernel

theorem witness_register_write : ({} : State).supply.up = true ∧ ({} : State).noStep = true ∧
    (let s := ({} : State).wr PRK_STATE_LOCKED 0 1
     s.rd PRK_STATE_LOCKED 0 = 1 ∧ s.noStep = true ∧ s.rd PRK_LOCKERR_INFO_VALID 0 = 0 ∧ bit (0x100 : BitVec 32).toNat 8 ≠ s.on L_SAFE_SAFE 47) ∧
    ({} : State).rd SYS_ADDRERR_INFO_VALID 0 = 0 ∧ bit (({} : State).wr L_FAULT_FLAGS 3 0x7F |>.rd L_FAULT_FLAGS 3) 6 = true := by decide +kernel

theorem witness_pricking_ends : (let s := ({ prkOp := some { cmd := 4, slot := 1, due := 9 } } : State).wr PRK_STATE_OP 0 6
     (∀ c, s.prkCyc = some c → c.cyc = s.et / 64 → c.ini = 16) ∧ s.prkOp = some { cmd := 4, slot := 1, due := 9 } ∧ s.rd PRK_STATE_OP 0 = 6 ∧ s.nvOp = none) ∧
    (∀ cmd ∈ [1, 2], let s := ({ prkOp := some { cmd := cmd, slot := 1, image := some {} } } : State).wr PRK_STATE_OP 0 2
     s.plwRun = none ∧ (s.prkOp.bind (·.image)) = some {} ∧ s.rd PRK_STATE_OP 0 = 2) ∧
    (let s : State := { plwAsked := [3, 5] }
     s.prkOp = none ∧ s.plwRun = none ∧ s.plwAsked = [3] ++ [5]) ∧
    (∀ occ ∈ [1, 2], let r : PlwRun := { occ := occ, start := 0, due := 9, found := {} }
     let s : State := { prkOp := some { cmd := occ, slot := 1, image := some {} }, plwRun := some r }
     s.plwRun = some r ∧ r.found.rej = none ∧ (∀ k, k < 48 → (s.leg k).st = .safe)) ∧
    (({ legs := [(47, { st := .active })] } : State).leg 47).st ≠ .safe ∧
    (let r : PlwRun := { occ := 1, start := 0, due := 9, found := { rej := some { code := 0x20, reason := 0, job := 3, ri := 0 } } }
     r.found.rej = some { code := 0x20, reason := 0, job := 3, ri := 0 }) := by decide

theorem witness_load : (let s := ({ prkOp := some { cmd := 1, slot := 0, image := some {} } } : State).wr PRK_STATE_OP 0 3
     s.rd PRK_STATE_OP 0 = 3 ∧ (s.prkOp.bind (·.image)) = some {} ∧ (∀ e, e < 48 → (s.eng e).run = none) ∧ ((s.reach (s.within (usec 3000))).drawn).loadBad {} 0 = none ∧
      (let u : State := { s with badCw := [(4, 0, 4)] }
       ((u.reach (u.within (usec 3000))).drawn).loadBad { len := 304, offs := [(1, 0)] } 0 = some { code := 0x36, sect := 1, ofs := 64 })) ∧
    (∀ ap ∈ [0, 1], ∀ left ∈ [[], [47]], let s := ({ patch := some { apply := ap }, patchLeft := left } : State).wr PRK_STATE_OP 0 4
     s.patch = some { apply := ap } ∧ s.rd PRK_STATE_OP 0 = 4 ∧ (ap = 0 ∨ s.tick < ap) ∧ s.patchLeft = left) ∧
    (({ et := 64 } : State).tick = 1) ∧
    (∀ left ∈ [[47], [3, 47]], let s := ({ patch := some {}, patchLeft := left } : State).wr PRK_STATE_OP 0 5
     s.rd PRK_STATE_OP 0 = 5 ∧ 47 ∈ s.patchLeft ∧ (s.eng 47).run = none) := by decide

/-! ## Modulators -/

/-- Modulators 0 and 63 are enabled: D 8, K 3. -/
def mods (x : State) : State := (x.wrs 0 [(MOD_CFG_EN, 1), (MOD_CFG_D, 8), (MOD_CFG_K, 3)]).wrs 63 [(MOD_CFG_EN, 1), (MOD_CFG_D, 8), (MOD_CFG_K, 3)]

theorem witness_mod_code : (∀ p ∈ [(63, 63), (0, 0)], let s := mods { munits := [(p.1, { valid := true, extVal := 15, ext := 15, codeAt := 128 })], lanesOn := [3, 191] }
     s.supply.up = true ∧ s.roleOf p.1 = some p.2 ∧ s.modOn p.2 = true ∧ s.replayOf (s.pubRole p.2) = none ∧ (s.munit p.1).valid = true ∧ (s.munit p.1).restart = none ∧
      s.lanesOn.Nodup ∧ (s.munit p.1).extVal = (15 : BitVec 4).toNat ∧ (s.munit p.1).ext = 15) ∧
    (({ mtiles := [(7, { units := [(63, 71)], free := some 63 })] } : State).roleOf 71 = some 63) ∧ (({} : State).roleOf 71 = none) ∧
    (({ munits := [(71, { resetDue := some 5, restart := some 9 })] } : State).munit 71).resetDue = some 5 ∧
    (({ munits := [(71, { resetDue := some 5, restart := some 9 })] } : State).munit 71).restart = some 9 := by decide

theorem witness_boundary : ∀ n ∈ ([0, 63] : List (Fin 64)), 
    let x : State := { munits := [(n.val, { gain := 5, valid := true })], mroles := [(n.val, { hist := [⟨15, n.val, true⟩, ⟨7, n.val, false⟩] })], slotsUsed := [383] }
    let s := (mods x).wrs 383 [(LE_SLOT_JOB_TRIG, 1), (LE_SLOT_JOB_SRC, n.val)]
    s.on MOD_CFG_EN n = true ∧ s.pairOdd n = false ∧ (s.mtile (n.val / 8)).cur = none ∧ 383 ∈ s.slotsUsed ∧ s.on LE_SLOT_JOB_TRIG 383 = true ∧
      s.rd LE_SLOT_JOB_SRC 383 = n.val := by decide

theorem witness_supervision : ∀ n ∈ ([0, 63] : List (Fin 64)), ∀ neg ∈ [false, true],
    let i : ModInput := { wins := [(9, 0, 0, 0)], runP := 1, runN := 1, owP := some 5, owN := some 6, cmLast := [1, 1, 0], cmDue := some 7 }
    let s := (mods { minputs := [(n.val, i)], ecUsed := [5], et := 9 }).wrs n [(MOD_CTL_OWEN, 1), (MOD_CTL_CMEN, 1)] |>.wr EC_CFG_PROD 5 (0x40 + n.val)
    s.supply.up = true ∧ (∀ x ∈ (s.minput n).wins, x.1 ≤ s.et + 12800) ∧ 5 ∈ s.ecUsed ∧ s.rd EC_CFG_PROD 5 = 0x40 + n.val ∧ s.ringOut 5 = false ∧ s.supervised n = true ∧ s.on MOD_CTL_OWEN n = true ∧
      s.on MOD_CTL_CMEN n = true ∧ (if neg then (s.minput n).owN else (s.minput n).owP) = some (if neg then 6 else 5) ∧
      (if neg then (s.minput n).runN else (s.minput n).runP) = 1 ∧ (s.minput n).cmDue = some 7 ∧ (s.minput n).cmLast.take 2 = [1, 1] := by decide

theorem witness_reversed : let s : State := (mods {}).wrs 0 [(MOD_CTL_OWEN, 0), (MOD_CTL_CMEN, 0)]
    s.on MOD_CTL_OWEN 0 = false ∧ s.on MOD_CTL_CMEN 0 = false ∧ s.cmClass 0 (-101) 600 600 = 1 := by decide

theorem witness_mod_swap : (let s := mods {}
     s.supervised 63 = true ∧ s.spareOk 7 = true ∧ (s.mtile 7).has 63 = false ∧ s.supervised 62 = false ∧
      (let u : State := { s with munits := [(71, { failed := true })] }
       u.spareOk 7 = false ∧ (u.mtile 7).has 63 = false)) ∧
    (let s := mods { mtiles := [(7, { queue := [⟨63, false⟩, ⟨62, true⟩] })] }
     (s.mtile 7).cur = none ∧ s.prkBusy = false ∧ s.spareOk 7 = true ∧ (s.mtile 7).queue = [⟨63, false⟩, ⟨62, true⟩] ∧
      s.replayHeld 63 = false) ∧
    (∀ ph ∈ [2, 5], let w : ModSwap := { req := ⟨63, false⟩, phase := ph, due := some 9 }
     let s := mods { mtiles := [(7, { cur := some w })] }
     (s.mtile 7).cur = some w ∧ w.due = some 9) ∧
    (let w : ModSwap := { req := ⟨63, false⟩, phase := 4, point := 1, pointDue := some 9 }
     let s := mods { mtiles := [(7, { cur := some w })], mcs := [(0, { cals := [(7, 0)] })] }
     (s.mtile 7).cur = some w ∧ w.point < 2 ∧ (s.mc w.mc).cals.head?.map (·.1) = some 7 ∧ s.fnHeld (0x50 + w.mc) = false) ∧
    (let w : ModSwap := { req := ⟨63, false⟩, phase := 4, point := 2, pointDue := some 9 }
     ((mods { mtiles := [(7, { cur := some w })] }).mtile 7).cur = some w ∧ satS 16 (-32768) = -32768 ∧ satS 16 32767 = 32767 ∧ satS 16 32768 ≠ 32768) := by decide

/-! ## Metering -/

/-- Converter 15 in a given condition. -/
def mc (x : McUnit) : State := { mcs := [(15, x)] }
def entry : McEntry := ⟨-5, true, false, false, 15, 7⟩

theorem witness_metering : ((mc { conv := some ⟨.scan 15, 0, 640, false⟩ }).mc 15).conv = some ⟨.scan 15, 0, 640, false⟩ ∧
    (∀ f ∈ [[], List.replicate 15 entry, List.replicate 16 entry], ((mc { results := [(entry, 9)], fifo := f }).mc 15).results = [(entry, 9)] ∧ entry.input < 16 ∧
      ((mc { fifo := f }).mc 15).fifo.length = f.length) ∧ ((mc { fifo := [entry] }).mc 15).fifo = [entry] ∧ (let o : McOver := { cyc := 0, entry := entry, gap := true, ovr := 0, flags := 0, evs := [] }
     let s := mc { fifo := [entry], lastOvr := some o }
     (s.mc 15).lastOvr = some o ∧ o.cyc = s.et / 64) ∧ (∀ o, ((mc { fifo := [entry] }).mc 15).lastOvr = some o → o.cyc ≠ 0) ∧ ((mc {}).mc 15).fifo = [] ∧ ((mc {}).mc 15).single = false ∧
    (let s := (mc {}).wrs 15 [(MC_CFG_MASK, 0x8001), (MC_CTL_RUN, 0)]
     s.scanSels 15 = [0, 15] ∧ (s.mc 15).conv = none ∧ (s.mc 15).todo = [] ∧ (s.mc 15).redo = none ∧ s.xcDealt 15 = [] ∧ s.fnHeld (0x50 + 15) = false ∧ s.on MC_CTL_RUN 15 = false) := by decide

theorem witness_mains : ∀ t ∈ [0, 9999999, 10000000, 20000000, 20000001], let s := ({ mc { cross := some 100 } with et := 64 * (100 + t) } : State).wr MC_CFG_MODE 15 1
    s.supply.up = true ∧ s.on MC_CFG_MODE 15 = true ∧ s.fnHeld (0x50 + 15) = false ∧ (s.mc 15).cross = some 100 ∧ s.tick - 100 = t := by decide

theorem witness_mains_conv : let c : McConv := ⟨.scan 3, 640, 1280, true⟩
    ((mc { conv := some c }).mc 15).conv = some c ∧ (mc { conv := some c }).et ≤ c.start ∧ c.start < ({ mc { conv := some c } with et := 641 } : State).et := by decide

theorem witness_mains_lost : ((mc { lostDue := some 640 }).mc 15).lostDue = some 640 := by decide

/-- A check of modulator 63 on converter 15 against a value just at and just past the small-input border, with two samples. -/
def xc (sum : Int) (n : Nat) (bad : Bool) : State :=
  ({ mc { conv := some ⟨.cross 63, 0, 640, false⟩, xsum := sum, xn := n, xbad := bad } with xcFails := [(63, 1)], xcLate := [(63, 90)] }).wrs 15
    [(MC_XCLIM_OFFLIM, 10), (MC_XCLIM_GAINLIM, 100), (MC_CTL_XCEN, 1)] |>.wr MOD_CFG_EN 63 1

theorem witness_cross_check : (∀ p ∈ [((0 : Int), 0, false), (0, 2, true), (0, 2, false), (2000000, 2, false)],
      let s := xc p.1 p.2.1 p.2.2
      (s.mc 15).conv = some ⟨.cross 63, 0, 640, false⟩ ∧ (s.mc 15).xbad = p.2.2 ∧ (s.mc 15).xn = p.2.1 ∧ mget s.xcFails 0 63 = 1) ∧
    (let s := xc 2000000 2 false
     2 * (s.mc 15).xn * s.rd MC_XCLIM_OFFLIM 15 < ((s.mc 15).xsum - 2 * (s.mc 15).xn * 0).natAbs ∧
      2 * (s.mc 15).xn * (0x080000 : Int).natAbs * s.rd MC_XCLIM_GAINLIM 15 < 2 ^ 16 * ((s.mc 15).xsum - 2 * (s.mc 15).xn * 0x080000).natAbs) ∧
    (let s := xc 0 2 false
     ¬ 2 * (s.mc 15).xn * s.rd MC_XCLIM_OFFLIM 15 < ((s.mc 15).xsum - 2 * (s.mc 15).xn * 0).natAbs ∧ mget s.xcLate 0 63 ≠ 0 ∧
      s.xcSet.find? (fun k => (s.xcDealt k).contains 63) = some 0) ∧
    ((List.range 16).foldl (fun s k => s.wr MC_CTL_XCEN k 0) ({} : State)).xcSet = [] := by decide

/-! ## Legs -/

/-- Leg 47 in a given condition, with a committed structure, a period of 2048 ticks, on-times 100 to 300 and 500 to 700, dead times of 10. -/
def leg (x : Leg) : State := (({ legs := [(47, x)], committed := some {} } : State).wrs 47
  [(L_PERIOD_LO_PERIOD, 2048), (L_CFG_DTR, 10), (L_CFG_DTF, 10)]).wr L_EDGE_TIME 188 100 |>.wr L_EDGE_TIME 189 300 |>.wr L_EDGE_TIME 190 500 |>.wr L_EDGE_TIME 191 700
def running : Leg := { st := .active, pstart := some 4096, plen := 2048, eff := [.tick 100, .tick 300, .tick 500, .tick 700] }

theorem witness_edges : (let s := leg { running with onH := some ⟨0, 4196, 0, 1000⟩ }
     (s.leg 47).st ≠ .safe ∧ s.nextEdge 47 = some (4396, 0) ∧ s.rd L_CFG_MODE 47 < 2) ∧
    (let s := leg running
     s.nextEdge 47 = some (4196, 2) ∧ (s.leg 47).onH = none ∧ (s.leg 47).onL = none) ∧
    (let s := (leg { running with done := [0] }).wr L_CFG_MODE 47 1
     s.rd L_CFG_MODE 47 < 2 ∧ s.nextEdge 47 = some (4596, 3)) := by decide

theorem witness_dead_time : (let s := leg { running with hiDue := some 9 }
     (s.leg 47).hiDue = some 9 ∧ (s.leg 47).loDue = none ∧ (s.reach 9).mayOn 47 0 = true ∧ (s.leg 47).onH = none) ∧ ((leg { running with hiDue := some 9, hiz := true }).reach 9).mayOn 47 0 = false ∧
    (let s := leg { running with loDue := some 9 }
     (s.leg 47).hiDue = none ∧ (s.leg 47).loDue = some 9 ∧ (s.leg 47).defer = false ∧ (s.reach 9).mayOn 47 1 = true) ∧ ((leg { running with loDue := some 9, latch := true }).reach 9).mayOn 47 1 = false ∧
    (let s := ({ leg { running with onH := some ⟨1, 4596, 0, 1000⟩ } with ecUsed := [5] } : State).wr EC_CFG_PROD 5 0x42F
     (s.leg 47).pstart = some 4096 ∧ ¬ ((s.leg 47).st = .stopping ∧ (s.leg 47).rule = 2) ∧ (s.leg 47).onH.isSome = true ∧ 5 ∈ s.ecUsed ∧ s.rd EC_CFG_PROD 5 = 0x400 + 47 ∧
      s.ringOut 5 = false) ∧
    ((leg { running with onL := some ⟨0, 5, 0, 9⟩ }).leg 47).onH = none ∧ ((leg { running with onL := some ⟨0, 5, 0, 9⟩ }).leg 47).onL = some ⟨0, 5, 0, 9⟩ := by decide +kernel

theorem witness_enable : (∀ p ∈ [(leg {}, 0), (leg { latch := true }, 1), ((leg {}).wr L_OTR_ENH 47 1, 2), ((leg {}).wr L_PERIOD_LO_PERIOD 47 1023, 3), ({ leg {} with committed := none }, 4),
      (leg { stopAt := some 0 }, 5)], (p.1.leg 47).st = .safe ∧ (p.1.reach (p.1.et + 82)).enableReason 47 (p.1.et / 64) = p.2 ∧ p.1.away (47 / 6) = false ∧
        p.1.fnDrains (0xA0 + 47) = false ∧ p.1.planQuiet 47 (p.1.et + 82) = true) ∧ (leg {}).on L_CFG_SYNC 47 = false := by decide +kernel

theorem witness_stop : (∀ r ∈ [0, 1, 2], let s := (leg { running with onH := some ⟨0, 4196, 0, 1000⟩ }).wr L_SAFE_STOP 47 r
     (s.leg 47).st = .active ∧ s.planQuiet 47 (s.et + 82) = true ∧ s.rd L_SAFE_STOP 47 = r ∧ (s.leg 47).onH.isSome = true ∧ s.away (47 / 6) = false ∧
      (s.leg 47).st ≠ .safe ∧ s.rd L_SAFE_SAFE 47 ≠ 1) ∧
    (let x := (leg { st := .stopping, rule := 1 }).leg 47
     x.st = .stopping ∧ x.rule = 1 ∧ x.onH = none ∧ x.onL = none) ∧
    (let x := (leg { st := .stopping, rule := 2 }).leg 47
     x.rule = 2 ∧ x.pstart = none) := by decide +kernel

theorem witness_maxon : (let s := leg { running with done := [0, 1], onH := some ⟨0, 4196, 0, 20⟩ }
     (s.leg 47).maxAt = some (4216, false) ∧ s.nextEdge 47 = some (4396, 0)) ∧
    (let s := (leg { running with onL := some ⟨1, 4596, 0, 20⟩ }).wr L_CFG_MODE 47 2
     (s.leg 47).maxAt = some (4616, true) ∧ ∀ r ∈ (s.leg 47).recent, r.1 + 128 ≤ 6144) := by decide

theorem witness_readback : (∀ o ∈ [0, 1], let s := leg { running with trans := [(o, true, 9)] }
     (s.leg 47).trans = [(o, true, 9)] ∧ o < 2 ∧ s.on L_CFG_RBSTOP 47 = false ∧ (s.wr L_CFG_RBSTOP 47 1).on L_CFG_RBSTOP 47 = true ∧
      (s.wr L_RB_TOL 47 4).rd L_RB_TOL 47 < (5 : Int).natAbs ∧ (5 : Int).natAbs ≤ 102 ∧ 102 < (-103 : Int).natAbs ∧ (4 : Int).natAbs ≤ (s.wr L_RB_TOL 47 4).rd L_RB_TOL 47) ∧
    (∀ o ∈ ([0, 1] : List (Fin 2)), let s := (leg { running with otrH := { listenDue := some 9 }, otrL := { listenDue := some 9 } })
     ((s.leg 47).otr o).listenDue = some 9 ∧ ((s.leg 47).otr o).clamped = false ∧ (s.wrs 47 [(L_OTR_ENH, 1), (L_OTR_ENL, 1)]).otrOn 47 o = true) ∧
    (∀ o ∈ ([0, 1] : List (Fin 2)), let s := (leg { running with otrH := { listening := true }, otrL := { listening := true } }).wrs 47 [(L_OTR_ENH, 1), (L_OTR_ENL, 1)]
     ((s.leg 47).otr o).listening = true ∧ s.otrOn 47 o = true ∧ ((s.leg 47).otr o).episode = false ∧ ((s.leg 47).otr o).src = none ∧ s.away (47 / 6) = false ∧ s.planQuiet 47 (s.et + 82) = true ∧ otrClass [(true, 3199)] ≠ 1) ∧
    ((leg { running with otrH := { clamped := true } }).leg 47).otrH.clamped = true := by decide

theorem witness_trips : (∀ n ∈ ([0, 63, 64, 127, 128, 223] : List (Fin 224)), let s : State := ({ legs := [(0, { otrH := { src := some 0 } }), (47, { otrL := { src := some 0 } })] } : State).wrs n [(SPR_MAP_HI_MASK, 0x8000)]
     let s := (s.wrs 0 [(MOD_STAT_CMPHI, 1), (MOD_STAT_CMPLO, 1)]).wrs 63 [(MOD_STAT_CMPHI, 1), (MOD_STAT_CMPLO, 1)]
     s.srcOn n = true ∧ bit (s.mapOf n) 47 = true ∧ bit (s.mapOf n) 46 = false ∧ (s.leg 47).latch = false ∧ s.rd L_SAFE_SAFE 47 ≠ 1) ∧ ({} : State).srcOn 5 = false ∧
    (let x := (leg { latch := true, latchSrc := 223, latchAt := 77 }).leg 47
     x.latch = true ∧ x.seen = false ∧ x.latchSrc < 224) ∧
    ((leg {}).leg 47).latch = false ∧
    (let s := leg { latch := true }
     (s.leg 47).latch = true ∧ s.srcActive 47 = false ∧ s.rd PRK_STATE_OP 0 ≠ 3 ∧ (s.wr PRK_STATE_OP 0 3).rd PRK_STATE_OP 0 = 3) ∧
    (let s : State := (({ legs := [(47, { latch := true, otrL := { src := some 0 } })] } : State).wr SPR_MAP_HI_MASK 223 0x8000)
     (s.leg 47).latch = true ∧ s.srcActive 47 = true) := by decide +kernel

/-! ## Ground and timers -/

/-- Channel 1023 carries an event due at tick 9, with a window of one event in 16 ticks. -/
def chan (cons : Nat) (x : State) : State := ({ x with ecUsed := [1023], flight := [(1023, 9)] }).wrs 1023 [(EC_CFG_CONS, cons), (EC_CFG_PROD, 0x700), (EC_STORM_LIMIT, 1)]

theorem witness_ground : (∀ c ∈ [5, 0x200, 0x27F], let s := chan c { slotsUsed := [5] }
     s.supply.up = true ∧ s.nextOf 1023 = some (1023, 9) ∧ s.mutes = [] ∧ picotIn c = none ∧ s.rd EC_CFG_CONS 1023 = c ∧ s.on EC_STAT_MUTED 1023 = false ∧
      s.rd EC_STORM_LIMIT 1023 = 1 ∧ (mget s.ecWin (0, 0) 1023).2 = 0 ∧ (s.wr EC_STAT_MUTED 1023 1).on EC_STAT_MUTED 1023 = true) ∧
    (∃ p, (chan 5 { place := { jobs := [⟨5, 0, 2, 47, 7, 0, 0, 0, 0, 0, false⟩] } }).jobAt 5 = some p) ∧ (let s := chan 5 { ecWin := [(1023, 0, 1)] }
     ¬ (s.rd EC_STORM_LIMIT 1023 = 0 ∨ 0xF000 ≤ s.rd EC_CFG_PROD 1023) ∧ (mget s.ecWin (0, 0) 1023).1 = 9 / 2 ^ (s.rd EC_STORM_WINDOW 1023 + 4) ∧
      s.rd EC_STORM_LIMIT 1023 ≤ (mget s.ecWin (0, 0) 1023).2) := by
  refine ⟨by decide, ?_, by decide⟩
  exact ⟨(47, 7), by decide⟩

/-- Two lines of one row, and the ends of A[24:10]. -/
theorem witness_banks : bankRow 0x1FFFC00 = bankRow 0x1FFFFFF ∧ bits 0x1FFFC00 9 6 ≠ bits 0x1FFFFFF 9 6 ∧ bankRow (0x1FFFC00 ^^^ 2 ^ 24) ≠ bankRow 0x1FFFC00 ∧
    bankRow (0x1FFFC00 ^^^ 2 ^ 10) ≠ bankRow 0x1FFFC00 := by decide

theorem witness_picot : (∀ c ∈ [0x400, 0x7FF], ∃ p, picotIn c = some p ∧ p.2 < 4) ∧
    (let s := (chan 0x401 {}).wrs 1023 [(EC_STORM_LIMIT, 0)]
     picotIn (s.rd EC_CFG_CONS 1023) = some (0, 1) ∧ s.nextOf 1023 = some (1023, 9) ∧ s.picotFeeds 0 9 = [1023] ∧ s.on EC_STAT_MUTED 1023 = false ∧ s.rd EC_STORM_LIMIT 1023 = 0 ∧
      s.on PICOT_CFG_FF 0 = false ∧ (s.wr PICOT_CFG_FF 0 1).on PICOT_CFG_FF 0 = true) ∧
    (({ pfilt := [(255, 9)] } : State).pfilt.find? (fun f => f.1 == 255)) = some (255, 9) ∧ ({} : State).rd EC_CTL_LOG 1023 < 2 := by
  refine ⟨?_, by decide⟩
  intro c hc
  exact ⟨(picotIn c).getD (0, 0), by revert c; decide⟩

/-- Timer 63 counts source 0 with M = 3 and no fraction, compare value 5 and END 9. -/
def tim (x : Timer) : State := ({ timers := [(63, x)] } : State).wrs 63 [(GT_STAT_STATE, 1), (GT_CMP_LO_CMP, 5), (GT_END_LO_END, 9)]
def counting : Timer := { cfg := [0, 3, 0, 0, 0, 0, 0] }

theorem witness_timer_reads : (let s := tim counting
     let x := s.timer 63
     s.rd GT_STAT_STATE 63 = 1 ∧ x.src < 3 ∧ x.slave = 0 ∧ x.chg = [] ∧ x.acc < x.m ∧ x.base ≤ clockEdges x.src s.et ∧
      x.count + (x.acc + 256 * (clockEdges x.src s.et - x.base)) / x.m < s.gtEnd 63 ∧ s.on GT_STAT_ARMED 63 = false) ∧
    (let s := (tim counting).wr GT_STAT_ARMED 63 1
     s.on GT_STAT_ARMED 63 = true ∧ (s.timer 63).late = false ∧ (s.timer 63).count < s.gtCmp 63) ∧
    (let s : State := { shadows := [(initNum .pf0, some (128, 7, 5))] }
     mget s.shadows none (initNum .pf0) = some ((128 : Fin 129).val, 7, 5) ∧ s.et ≤ 5) ∧ mget ({} : State).dtSeen 0 (iniDom (initNum .pf0)) ≤ ({} : State).tick := by decide

theorem witness_timer_changes : (let s := (tim counting).wr GT_STAT_STATE 63 0
     s.rd GT_STAT_STATE 63 ≠ 1 ∧ (s.timer 63).chg = [] ∧ s.fnHeld (0xD0 + 63 / 16) = false ∧ (s.wrs 63 [(GT_CFG_N, 1), (GT_CFG_SRC, 1)]).rd GT_CFG_N 63 ≠ 0) ∧
    (let s := (tim { counting with caps := [9] }).wr GT_STAT_STATE 63 0
     (s.timer 63).caps = [9] ∧ s.rd GT_STAT_STATE 63 ≠ 1 ∧ s.on GT_STAT_PEND 63 = false ∧ (s.wr GT_STAT_PEND 63 1).on GT_STAT_PEND 63 = true) ∧
    (let s := tim { counting with cfg := [3, 1, 0, 15, 0, 0, 0] }
     s.rd GT_STAT_STATE 63 = 1 ∧ (s.timer 63).src = 3 ∧ (s.timer 63).tpin = (15 : Fin 16).val) ∧
    (let s : State := {}
     s.fnHeld (0xD0 + 3) = false ∧ ∀ i, i < 16 → s.rd GT_STAT_STATE (16 * 3 + i) ≠ 1 ∧ (s.timer (16 * 3 + i)).chg = []) := by decide

theorem witness_timer_match : (let s := ((tim { counting with chg := [(640, .arm)] }).wrs 63 [(GT_STAT_STATE, 0), (GT_CFG_N, 3)])
     s.rd GT_STAT_STATE 63 ≠ 1 ∧ (s.timer 63).chg = [(640, .arm)] ∧ s.et ≤ 640 ∧ s.gtSlaves 63 = [] ∧ 2 ≤ s.gtCmp 63 ∧ 2 ≤ s.gtEnd 63 ∧
      256 ≤ 256 * (s.gtPlan 63).getD 1 1 + (s.gtPlan 63).getD 2 0) ∧
    (∀ a ∈ [0, 1], let s := (tim counting).wr GT_STAT_ARMED 63 a
     let x := s.timer 63
     x.late = false ∧ 256 ≤ x.m ∧ x.base = clockEdges x.src s.et ∧ s.gtSlaves 63 = [] ∧ s.on GT_STAT_ARMED 63 = (a == 1) ∧ x.count < s.gtCmp 63 ∧
      s.gtCmp 63 ≤ s.gtEnd 63 ∧ x.count < s.gtEnd 63) := by decide

/-! ## DMA and capture -/

/-- Channel 31 moves 64 bytes from the start to the end of shared SRAM, unchecked, in a given state, with a given count left. -/
def chan31 (st left : Nat) (x : State) : State := x.wrs 31 [(DMAC_STAT_STATE, st), (DMAC_CTL_USIZE, 64), (DMAC_CTL_FREE, 1), (DMAC_COUNT_VALUE, 2), (DMAC_REMAIN_VALUE, left),
  (DMAC_SRC_VALUE, 0x10000000), (DMAC_DST_VALUE, 0x11FFFFC0), (DMAC_CURSRC_VALUE, 0x10000000), (DMAC_CURDST_VALUE, 0x11FFFFC0), (DMAC_PACEMK_HIGH, 1)]

theorem witness_dma : (∀ st ∈ [0, 4, 5], let s := chan31 st 2 {}
     s.supply.up = true ∧ (s.dma 31).startAt ≠ some (s.et / 64) ∧ s.fnDrains (0xE0 + 31) = false ∧ s.dmaIdle 31 = true ∧ s.dmaBad 31 = false ∧ s.dmaHandlesOk 31 = true ∧
      s.rd DMAC_STAT_STATE 31 = st ∧ (s.wr DMAC_COUNT_VALUE 31 0).dmaBad 31 = true ∧ (s.wr DMAC_CTL_FREE 31 0).dmaHandlesOk 31 = false) ∧
    (∀ st ∈ [1, 2, 3], (chan31 st 2 {}).dmaIdle 31 = false) ∧
    (let s := (chan31 1 2 {}).wrs 31 [(DMAC_PACE_PSEL, 3), (DMAC_SWLVL_LEVEL, 1)]
     s.rd DMAC_STAT_STATE 31 = 1 ∧ s.rd DMAC_PACEMK_HIGH 31 ≤ s.dmaLevel 31) ∧
    (let s := chan31 2 2 {}
     s.rd DMA_STAT_BUSY 3 = 0 ∧ s.rd DMAC_STAT_STATE (8 * 3 + 7) = 2 ∧ ∀ d, d < 7 → s.rd DMAC_STAT_STATE (8 * 3 + d) ≠ 2) := by decide

theorem witness_dma_burst : ∀ p ∈ [(false, 1), (true, 1), (false, 2), (true, 4294967295)],
    let s := chan31 3 p.2 { dmas := [(31, { retryAt := if p.1 then some 9 else none })] }
    s.noStep = true ∧ s.rd DMAC_STAT_STATE 31 = 3 ∧ (s.dma 31).retryAt.isSome = p.1 ∧ s.rd DMAC_PACE_PSEL 31 = 0 ∧ s.rd DMAC_CTL_USIZE 31 = 64 ∧
    s.rd DMAC_CURSRC_VALUE 31 = 0x10000000 ∧ s.rd DMAC_CURDST_VALUE 31 + 64 = 0x12000000 ∧ s.rd DMAC_CURDST_VALUE 31 % 65536 + 64 ≤ 65536 ∧
    (∀ q ∈ s.badCw, q.1 ≠ 1) ∧ s.on DMAC_CTL_FREE 31 = true ∧ s.rd DMAC_REMAIN_VALUE 31 = p.2 ∧ (s.wr DMAC_CTL_FREE 31 0).dmaHandlesOk 31 = false := by decide +kernel

/-- The host ring is enabled with one page, the link is up and PF0 masters the bus. -/
def ringOn (x : State) : State := ({ x with fns := [(0, { cfg := [(4, 6)] })] }).wrs 0 [(PCIE_LINK_LSTATE, 2), (CAP_CTL_EN, 1), (CAP_RINGPAGES_VALUE, 1), (CAPPT_LO_V, 1), (CAPPT_LO_ADDR, 3)]
def block : CapBlock := { kind := 3, stream := 255, seat := 0, seq := 0, bytes := [1, 2], dtime := 0, dropped := 0, gap := false, replayed := false }

theorem witness_blocks : (let s := ringOn { streams := [(255, { full := [block] })], capUsed := [255] }
     (s.stream 255).full = [block] ∧ s.rd CAP_S_CFG_ROUTE 255 = 0 ∧ s.capWaits 255 = false ∧ s.capIssues = true ∧ s.ringFull = false ∧ s.pageAddr s.cap.next = some (3 * 2 ^ 21) ∧
      s.on CAP_STAT_TRIGGERED 0 = false ∧ s.on CAP_CTL_EN 0 = true) ∧
    (let s := ({ streams := [(255, { pay := [1] })], capUsed := [255] } : State).wr CAP_CTL_FLUSH 0 1
     s.rd CAP_CTL_FLUSH 0 ≠ 0 ∧ (s.stream 255).pay ≠ [] ∧ (s.stream 255).nibs = [] ∧ s.ownBuffered < 512) ∧
    (let s : State := { cap := { tracked := [(0, false), (1, false)] } }
     s.cap.tracked = (0, false) :: [(1, false)] ∧ 0 = s.rd CAP_WRIDX_VALUE 0 ∧ s.rd CAP_WBINT_VALUE 0 = 0 ∧ ∀ p ∈ [(1, false)], p.1 ≠ 0 ∧ p.2 = false) ∧
    (let s := ({} : State).wrs 0 [(CAP_RDIDX_VALUE, 0xFFFFFFFF), (CAP_WRIDX_VALUE, 2)]
     s.rd CAP_RDIDX_VALUE 0 = 0xFFFFFFFF ∧ s.rd CAP_WRIDX_VALUE 0 = 2 ∧ ({} : State).on CAP_CTL_EN 0 = false) ∧
    (let s := ringOn {}
     s.linkUp = true ∧ s.on CAP_CTL_EN 0 = true ∧ s.on CAP_STAT_FROZEN 0 = false ∧ s.cap.fwd.length < 512 ∧ (s.wr CAP_CTL_EN 0 0).on CAP_CTL_EN 0 = false) := by decide

theorem witness_replay : (let s := ({} : State).wrs 255 [(CAP_S_CFG_KIND, 5), (CAP_S_RPSIZE_VALUE, 64)]
     s.replayReason 255 true = 0 ∧ s.replayReason 255 false = 0 ∧ s.rd CAP_S_STAT_RPACT 255 = 0 ∧ (s.wr CAP_S_STAT_RPACT 255 1).rd CAP_S_STAT_RPACT 255 ≠ 0 ∧
      (s.wr CAP_S_STAT_RPACT 255 1).replayReason 255 false = 0 ∧ s.rd CAP_S_RPSIZE_VALUE 255 = 64 ∧ s.rd CAP_S_RPWR_VALUE 255 = 0) ∧
    ({} : State).replayReason 255 true ≠ 0 := by decide

/-! ## PCI Express and Braid -/

theorem witness_pcie : ({} : State).bootEnded = false ∧ ({ bootEnded := true } : State).fnExists 63 = false ∧ ({ bootEnded := true } : State).fnExists 1 = true ∧
    (({} : State).fn 0).word 0 = 0 ∧ (({} : State).fn 0).d3 = false ∧ ({} : State).inFlr 0 = false ∧ (0x1FFFFFF : Nat) % 65536 + 1 ≤ 65536 ∧ ({} : State).noStep = true ∧
    (({} : State).fn 1).d3 = false ∧ ({} : State).inFlr 1 = false ∧ ({} : State).rd SYS_ADDRERR_INFO_VALID 0 = 0 ∧
    ({} : State).rd NVM_PWSLOT_SLOT 0 < 3 ∧ mget ({} : State).nv.content 0 0 < 2 ∧ 2 ≤ mget ({ nv := { content := [(0, 2)] } } : State).nv.content 0 0 ∧
    (let l : HostLoad := ⟨0x34, 5, 0x80000000, true, 0, 8, 4⟩
     let s : State := { cores := [(0, { wait := .host l })] }
     (s.core 0).wait = .host l ∧ l.op = 0x34 ∧ (s.core 0).stepping = false ∧ l.probe = true ∧
      bit ((s.fn (s.rd PCIE_OW_LO_FN ((l.addr - 0x80000000) / 2 ^ 27))).word 0x88) 4 = false) := by decide

/-- Three VFs exist, and function 3 holds a warrant over the legs 0 to 47. -/
def vfs : State := { bootEnded := true, wtab := [(1, { alloc := true, kind := 4, rights := 1, limit := 47 })],
                     committed := some { secs := [(15, [leBytes 32 (3 * 2 ^ 64)])] }, fns := [(1, { cfg := [(0x288, 1), (0x290, 3)] })] }
def bound (s : State) : State := { s with fns := s.fns ++ [(3, { bound := [(0, s.handleOf 1)] })] }

theorem witness_doorbell : vfs.fnExists 3 = true ∧ vfs.inFlr 3 = false ∧ vfs.boundCheck 3 4 1 [(47, 47)] ≠ 0 ∧ vfs.committed ≠ none ∧ vfs.rd PRK_STATE_OP 0 ≠ 3 ∧
    (({ vfs with fns := [(3, { intents := [(1, 2, 0), (3, 4, 0), (5, 6, 0), (7, 8, 0)] })] } : State).fn 3).intents.length = 4 := by decide +kernel

theorem bound_slot (v : Nat) : mget (({ vfs with fns := vfs.fns ++ [(3, { bound := [(0, v)] })] } : State).fn 3).bound 0 0 = v := rfl
theorem bound_handle (s : State) (i : Nat) : (bound s).handleOf i = s.handleOf i := rfl

theorem witness_doorbell_granted : (bound vfs).boundCheck 3 4 1 [(47, 47)] = 0 :=
  State.boundCheck_handleOf (bound vfs) 3 4 1 47 (i := 1) (by decide) (by decide) (by decide)
    ((bound_slot _).trans (bound_handle _ _).symm) (by decide) (by decide) (by decide) (by decide)

theorem witness_link : ({} : State).linkUp = false ∧ (({} : State).wr PCIE_LINK_LSTATE 0 1).rd PCIE_LINK_LSTATE 0 ≠ 0 ∧ (ringOn {}).linkUp = true ∧
    (let s := (({ fns := [(0, { cfg := [(0x70, 1)] })] } : State).wr PCIE_LINK_LSTATE 0 2)
     s.rd PCIE_LINK_LSTATE 0 = 2 ∧ ((s.fn 0).word 0x70) % 2 = 1) ∧ (({} : State).wr PCIE_LINK_LSTATE 0 6).rd PCIE_LINK_LSTATE 0 = 6 ∧
    (∀ c, c < 16 → (({} : State).core c).wait = .none) ∧ vfs.fnExists 4 = true ∧
    (({ fns := [(3, { cfg := [(0x50, 2 ^ 31)], tbl := [(15, 0)] })] } : State).fn 3).open 3 = true ∧ (({} : State).fn 3).open 3 = false := by decide

/-- Seat 0 of a ring of two, both ports enabled. -/
def seat0 (st : Nat) (x : State) : State := ({ x with bplan := [0, 2, 0, 3, 0, 0] }).wrs 0 [(B_STAT_STATE, st)] |>.wrs 1 [(B_STAT_STATE, st)]

theorem witness_braid : (∀ b ∈ ([0, 1] : List (Fin 2)), ∀ st ∈ [1, 3], let s := seat0 st {}
     s.training b = true ∧ s.fnHeld (0x140 + b) = false ∧ (1 : BitVec 4).toNat = s.neighbour b ∧ (1 : BitVec 4).toNat + 1 = s.ring ∧
      ¬ ((0 : BitVec 4).toNat = s.neighbour b ∧ (1 : BitVec 4).toNat + 1 = s.ring)) ∧
    (∀ b ∈ ([0, 1] : List (Fin 2)), let s := seat0 2 {}
     s.rd B_STAT_STATE b = 2 ∧ s.portOn b = true ∧ s.follower = false ∧ s.portUp b = true ∧ (1 : Fin 8).val ≠ s.seat ∧ (0 : Fin 8).val = s.seat ∧ s.portUp (1 - b.val) = true) ∧
    (let s := seat0 4 { bports := [(1, { notrain := some 9 })] }
     s.portOn 1 = true ∧ s.rd B_STAT_STATE 1 = 4 ∧ (s.bport 1).notrain = some 9) := by decide

theorem witness_braid_items : (∀ a ∈ [true, false], let s := ({ aligned := a, bplan := [1, 2, 1, 3, 0, 0], cpll := if a then some (9, 1) else none } : State).wr B_STAT_STATE 0 2
     s.portUp 0 = true ∧ s.portUp 1 = false ∧ s.follower = true ∧ s.rd B_STAT_NSEAT 0 = 0 ∧ s.aligned = a ∧ s.committed = none ∧ s.bootEnded = false) ∧
    (let r : RPath := ⟨255, 7, 1, 1, 1, false, 8, some (20, 2, 1)⟩
     let s := seat0 2 { place := { paths := [r] }, ringLast := [(255, 16)], ringItems := [⟨7, 24, 5, 0, 3, 8⟩] }
     s.place.paths.find? (fun r => r.ec == (7 : Fin 1024).val) = some r ∧ s.lastRel r.idx < 24 ∧ s.ringPathOf 255 = some r ∧ s.lastRel 255 ≠ 0 ∧ 1 ≤ r.per ∧
      s.ringItems.find? (fun i => i.ec == r.ec && i.b == s.lastRel 255 + r.per) = some ⟨7, 24, 5, 0, 3, 8⟩ ∧
      r.way 24 = (1, 1) ∧ s.pathUp s.ring r.seat s.seat 1 = false ∧ ({ s with linksUp := [0, 1] } : State).pathUp s.ring r.seat s.seat 1 = true) ∧
    (let s : State := { gItems := [(7, 90)] }
     s.gItems.find? (fun g => g.1 == (7 : Fin 1024).val) = some (7, 90) ∧ picotIn (s.rd EC_CFG_CONS 7) = none ∧ 0xF000 ≤ (s.wr EC_CFG_PROD 7 0xF001).rd EC_CFG_PROD 7 ∧ (∀ m ∈ s.mutes, m.1 ≠ 7) ∧
      (s.wr EC_STAT_MUTED 7 1).on EC_STAT_MUTED 7 = true ∧ 7 ∉ s.ecUsed ∧ (7 : Nat) ∈ ({ s with ecUsed := [7] } : State).ecUsed ∧ s.tick ≤ 0 + 2 + 9 * (s.eventPath 1 0).2.1) := by decide

/-! ## Supply, power states, resets and pairs -/

/-- The device without power, for a reason. -/
def unpowered (x : Supply) : State := { supply := { x with up := false } }

theorem witness_supply : (∀ p ∈ [(false, false), (true, true)], let s := unpowered { stayOff := p.2 }
     s.supply.up = false ∧ s.supply.tsd = false ∧ s.supply.railDue = none ∧ (s.supply.stayOff = false ∨ p.1 = true) ∧ s.nvOp = none ∧ s.prkOp = none) ∧
    ({} : State).supply.up = true ∧ ({} : State).supply.stopAt = none ∧ ({} : State).supply.rails = [] ∧
    (let s : State := { et := 51200000000, supply := { rails := [1, 51199999999] } }
     s.supply.up = true ∧ s.supply.stopAt = none ∧ s.supply.rails = [1, 51199999999] ∧ s.et < 1 + usec 1000000 ∧ s.et < 51199999999 + usec 1000000) ∧
    ({ supply := { stopAt := some 9 } } : State).supply.stopAt = some 9 ∧
    (∀ s ∈ [unpowered { tsd := true }, unpowered { railDue := some 0 }], s.supply.up = false ∧ s.supply.stayOff = false ∧ (s.supply.tsd = true ∨ s.supply.railDue.isSome = true)) ∧
    ({} : State).bootEnded = false := by decide

theorem witness_supply_watched : ({} : State).supply.uv = false ∧ ({ supply := { uv := true } } : State).supply.uv = true ∧
    (∀ hic ∈ [0, 1], ∀ stop ∈ [0, 1], let s := ({} : State).wrs 0 [(PWR_AUXSTAT_PG12, 1), (PWR_AUXSTAT_PG5, 1), (PWR_AUXSTAT_HIC12, hic), (PWR_AUXSTAT_HIC5, hic),
        (PWR_AUXCTL_STOP12, stop), (PWR_AUXCTL_STOP5, stop)]
     s.on PWR_AUXSTAT_PG12 0 = true ∧ s.on PWR_AUXSTAT_PG5 0 = true ∧ s.on PWR_AUXSTAT_HIC12 0 = (hic == 1) ∧ s.on PWR_AUXCTL_STOP5 0 = (stop == 1)) ∧
    (let s : State := { supply := { retry12 := some 0, retry5 := some 0, ep12 := some 9, ep5 := some 9 } }
     s.supply.retry12 = some 0 ∧ s.supply.ep5 = some 9) ∧
    (∀ k, k < 48 → (({} : State).leg k).st = .safe) := by decide

theorem witness_auxiliary_off : (∀ k, k < 48 → (({ legs := (List.range 48).map fun k => (k, running) } : State).leg k).st ≠ .safe) ∧ bit (0xFFFFFFFE : BitVec 32).toNat 0 = false ∧
    (({} : State).wr PWR_AUXCTL_AUX12EN 0 1).on PWR_AUXCTL_AUX12EN 0 = true ∧ ({ supply := { pn := 1023 } } : State).supply.pn = 1023 ∧ ({ supply := { pn := 1022 } } : State).supply.pn < 1023 ∧
    (let s : State := { quietLo := [(16, some 4294967295)] }
     mget s.quietLo none (initNum .pf0) = some 4294967295) ∧
    (({} : State).wr PWR_STAT_QUIET 0 1).on PWR_STAT_QUIET 0 = true := by decide

/-- Every unit may sleep. -/
def drowsy (x : State) : State := x.wrs 0 [(PWR_CTL_TBROWSE, 255), (PWR_CTL_TBED, 255), (PWR_CTL_CBROWSE, 1), (PWR_CTL_CBED, 1), (PWR_CTL_YARDEN, 1)]

theorem witness_sleep : ∀ u ∈ ([0, 7, 8] : List (Fin 9)), (let s := drowsy {}
     s.yard = none ∧ (s.punit u).exit = none ∧ s.pstate u = 0 ∧ s.mayEnter u 2 = true ∧ s.nextKnown u = none) ∧
    (let s := (drowsy {}).wrs 0 [(PWR_CTL_TBED, 0), (PWR_CTL_CBED, 0)]
     s.mayEnter u 2 = false ∧ s.mayEnter u 1 = true ∧ s.nextKnown u = none) ∧
    (let s := ({} : State).wrs 0 [(PWR_CTL_TBROWSE, 0), (PWR_CTL_CBROWSE, 0), (PWR_CTL_TBED, 0), (PWR_CTL_CBED, 0)]
     s.mayEnter u 2 = false ∧ s.mayEnter u 1 = false ∧ s.pstate u = 0) ∧
    (∀ p ∈ [1, 2], let s := ({ punits := [(0, { exitAt := some 9 }), (7, { exitAt := some 9 }), (8, { exitAt := some 9 })] } : State).wrs 0 [(PWR_STAT_TILE, p + 4 ^ 7 * p), (PWR_STAT_CLUSTER, p)]
     s.yard = none ∧ (s.punit u).exit = none ∧ s.pstate u = p ∧ (s.punit u).entry = none ∧ (s.punit u).exitAt = some 9) ∧
    (let s := ({ punits := [(0, { entry := some 0 }), (7, { entry := some 0 }), (8, { entry := some 0 })] } : State).wrs 0 [(PWR_STAT_TILE, 1 + 4 ^ 7), (PWR_STAT_CLUSTER, 1)]
     s.yard = none ∧ (s.punit u).exit = none ∧ s.pstate u = 1 ∧ (s.punit u).entry = some 0) ∧
    (let s : State := { punits := [(0, { exit := some 0 }), (7, { exit := some 0 }), (8, { exit := some 0 })] }
     (s.punit u).exit = some 0 ∧ s.noStep = true ∧ s.heldAcc = [] ∧ s.heldLeg = []) := by decide +kernel

/-- A leg in ACTIVE ends its period far off: a known event with slack. -/
theorem witness_slack : (let s := leg { running with pstart := some 100000000 }
     (s.nextKnown 7).isSome = true ∧ ∀ n, s.nextKnown 7 = some n → s.et + 64 * (exitTicks 1 + s.guardTicks 1) ≤ n) := by decide +kernel

def stopped (x : State) : State := (List.range 16).foldl (fun s k => s.wr MC_CTL_RUN k 0) (drowsy x)

theorem witness_yard : (let s := stopped {}
     s.yard = none ∧ s.yardOk = true ∧ s.yardNext = none) ∧
    (let s := (stopped {}).wrs 0 [(PWR_STAT_QUIET, 1), (PWR_QUIET_HI_END, 1)]
     s.yardOk = true ∧ s.yardNext = some (64 * 2 ^ 32) ∧ s.et + usec 1500 + usec (s.rd PWR_GUARD1_YARD 0) ≤ 64 * 2 ^ 32) ∧
    (∀ src ∈ ([1, 2, 3, 4, 5, 6, 7] : List (Fin 8)), let s := ({ yard := some 9, bplan := [0, 2, 0, 3, 0, 0] } : State).wrs 0 [(PWR_WAKE_WPCIE, 1), (PWR_WAKE_WB0, 1), (PWR_WAKE_WB1, 1), (PWR_WAKE_WPIN, 1)]
     s.yard.isSome = true ∧ (s.punit 9).exit = none ∧ (s.punit 9).wake = false ∧ (s.punit 9).entry = none ∧ 1 ≤ src.val ∧ s.on PWR_WAKE_WPCIE 0 = true ∧
      s.on PWR_WAKE_WB0 0 = true ∧ s.portOn 0 = true ∧ s.on PWR_WAKE_WB1 0 = true ∧ s.portOn 1 = true ∧ s.on PWR_WAKE_WPIN 0 = true) ∧
    (let s : State := { yard := some 0, pace := some (0, 0), punits := [(9, { exit := some 0 })] }
     s.yard = some 0 ∧ s.pace.isSome = true ∧ s.heldAcc = [] ∧ (s.punit 9).exit = some 0 ∧ s.tap.wait = none ∧ s.noStep = true ∧ s.on SYS_CLKSTAT_AON_LOCKED 0 = false ∧
      (s.wr SYS_CLKSTAT_AON_LOCKED 0 1).on SYS_CLKSTAT_AON_LOCKED 0 = true) := by decide +kernel

theorem witness_clocks : ({} : State).kpllAon = false ∧ (∀ c ∈ [0, 1, 2, 3], (({} : State).wr SYS_CLKSTAT_CREF 0 c).rd SYS_CLKSTAT_CREF 0 = c) ∧
    (let s : State := { cpll := some (9, 3), kpll := some (9, true) }
     s.noStep = true ∧ s.cpll = some (9, 3) ∧ s.clkret = false ∧ s.kpll = some (9, true)) ∧
    (let s : State := { clkret := true, kpll := some (0, false) }
     s.clkret = true ∧ s.cpll = none ∧ s.kpll = some (0, false)) ∧
    (let s := ({} : State).wrs 0 [(FRST_SYSSTAT_REFOK, 1), (SYS_CLKSTAT_CPLL_LOCK, 1), (SYS_CLKSTAT_KPLL_LOCK, 1)]
     s.on FRST_SYSSTAT_REFOK 0 = true ∧ s.on SYS_CLKSTAT_CPLL_LOCK 0 = true ∧ s.on SYS_CLKSTAT_KPLL_LOCK 0 = true ∧
      (s.wr FRST_SYSSTAT_REFOK 0 0).on FRST_SYSSTAT_REFOK 0 = false) ∧
    (∀ k, k < 48 → (({} : State).leg k).st = .safe) := by decide

/-- A function in a phase of its reset. -/
def inRst (f : Nat) (x : FnRst) : State := { frst := [(f, x)] }

theorem witness_resets : ({} : State).supply.up = true ∧ (0x9665 : BitVec 32) ≠ 0x9664 ∧ (({} : State).wr PRK_STATE_OP 0 3).rd PRK_STATE_OP 0 = 3 ∧
    ({} : State).rd PRK_STATE_OP 0 ≠ 3 ∧ ({} : State).frstAt ≠ some (({} : State).et / 64) ∧
    fnValid 0 = true ∧ fnValid 0x47 = true ∧ fnValid 0x48 = false ∧ fnValid 0x4F = false ∧ fnValid 0x50 = true ∧ fnValid 0x15F = true ∧ fnValid 0x160 = false ∧ fnValid 511 = false ∧
    (∀ f ∈ ([0, 0x5F, 0x60, 0xA0, 0xCF, 0x15F] : List (Fin 512)), (({} : State).fnRst (({} : State).fnLead f)).phase = 0) ∧
    (∀ k ∈ [false, true], let s := inRst 0x5F { phase := 2, keep := k }
     (s.fnRst (s.fnLead 0x5F)).phase = 2 ∧ (s.fnRst (s.fnLead 0x5F)).keep = k) ∧
    (let s := inRst 0x5F { phase := 3, keep := true }
     (s.fnRst (s.fnLead 0x5F)).phase = 3 ∧ (s.fnRst (s.fnLead 0x5F)).keep = true) := by decide +kernel

theorem witness_reset_phases : (let s := inRst 0xCF { phase := 1, keep := true }
     (s.fnRst (s.fnLead 0xCF)).phase = 1 ∧ s.fnDrained 0xCF = true) ∧
    (∀ k ∈ [false, true], ∀ g ∈ ([0x5F, 0x90, 0x15E] : List (Fin 512)), let s := inRst g { phase := 2, keep := k, due := some 9 }
     (s.fnRst (s.fnLead g)).phase = 2 ∧ (s.fnRst (s.fnLead g)).due = some 9 ∧ (s.fnLead g < 0x60 ∨ 0x90 ≤ s.fnLead g)) ∧
    (let s := inRst 0x15F { phase := 2 }
     s.fnLead 0x15F = 0x15F ∨ s.fnLead 0x15F = 0x15E) ∧
    (∀ p ∈ [(true, some 9), (false, none)], let s : State := { inRst 0x8F { phase := 2, keep := p.1 } with engs := [(47, { reload := p.2 })] }
     (s.fnRst (s.fnLead 0x8F)).phase = 2 ∧ (s.eng (s.fnLead 0x8F - 0x60)).reload = p.2 ∧ (s.eng 47).rst = false) := by decide +kernel

/-- The lead of pair 7 runs with a checkpoint and a journal. -/
def pair7 (x : Core) : State := { cores := [(14, { x with st := 1, ckpt := some { pc := 0x400 } })] }

theorem witness_pairs : (∀ m ∈ [0, 1, 2, 3], let s := (pair7 {}).wr CP_MMINFO_SINCE 14 m
     s.lockstep 14 = true ∧ (s.core 14).st = 1 ∧ s.keptBad 14 = false ∧ s.rd CP_MMINFO_SINCE 14 = m ∧ s.on CP_STAT_JVOID 14 = false ∧ s.traceQuiet 14 = true ∧
      ((s.core 14).ckpt.getD {}).frames.length < 4) ∧
    ((pair7 {}).core 14).jrnl = [] ∧
    (let s := pair7 { jrnl := [⟨true, 0x1FFFFFF, [1]⟩, ⟨false, 0, [2, 3]⟩] }
     (s.core 14).jrnl = [⟨true, 0x1FFFFFF, [1]⟩, ⟨false, 0, [2, 3]⟩]) ∧
    (let s : State := { cores := [(14, { cmpDue := some 9 })] }
     (s.core 14).cmpDue = some 9 ∧ (s.core 14).task = none ∧ (s.core 15).task = none ∧ s.lockstep 14 = true ∧ (s.wr SYS_CFG_SPLIT 0 128).lockstep 14 = false) ∧
    ({ cores := [(15, { task := some (1, 0, 0, 0) })] } : State).supply.up = true ∧ (({ cores := [(15, { task := some (1, 0, 0, 0) })] } : State).core 15).task.isSome = true := by decide

/-! ## Non-volatile store -/

/-- An initiator owns the staging buffer; NVM_ARG holds a value. -/
def owned (ini : Initiator) (arg : Nat) (x : State) : State := x.wrs 0 [(NVM_CLAIM_HELD, 1), (NVM_CLAIM_OWNER, initNum ini), (NVM_ARG_ARG, arg)]

theorem witness_nvm : (∀ ini ∈ ([.pf0, .core 15, .vf 61] : List Initiator), let s := owned ini 16352 {}
     s.nvOp = none ∧ s.rd PRK_STATE_OP 0 = 0 ∧ s.on NVM_CLAIM_HELD 0 = true ∧ s.rd NVM_CLAIM_OWNER 0 = initNum ini ∧ s.rd NVM_ARG_ARG 0 + (32 : BitVec 6).toNat ≤ 16384) ∧
    (let s := owned .pf0 (0x1C00000 - 2048) {}
     s.rd NVM_ARG_ARG 0 % 64 = 0 ∧ 0x1800000 ≤ s.rd NVM_ARG_ARG 0 ∧ s.rd NVM_ARG_ARG 0 + 64 * (32 : BitVec 6).toNat ≤ 0x1C00000 ∧
      s.holdsWrite .pf0 (0x30000000 + s.rd NVM_ARG_ARG 0) (0x30000000 + s.rd NVM_ARG_ARG 0 + 64 * (32 : BitVec 6).toNat - 1) = true) ∧
    (k0.holdsWrite (.core 0) 0x31800000 0x3180003F = true) ∧ initNum .pf0 = 16 ∧
    (let s := owned .pf0 3 { nv := { keys := [(0, 5), (1, 6)] } }
     ∀ q ∈ s.nv.keys, q.1 ≠ s.rd NVM_ARG_ARG 0 % 4) ∧
    (let s := owned .pf0 1 { nv := { keys := [(0, 5), (1, 6)] } }
     (∃ q ∈ s.nv.keys, q.1 = s.rd NVM_ARG_ARG 0 % 4) ∧ ∃ q ∈ s.nv.keys, q.1 ≠ s.rd NVM_ARG_ARG 0 % 4 ∧ q.1 ∉ s.nv.revoked) ∧
    ¬ (({} : State).on NVM_CLAIM_HELD 0 = true ∧ ({} : State).rd NVM_CLAIM_OWNER 0 = initNum .pf0) ∧ initNum (.core 0) ≠ 16 ∧
    (∀ op ∈ [1, 2, 3, 4, 5], let o : NvOp := { op := op, ini := 16, arg := 0, count := 1, buf := [1], due := 9 }
      ({ nvOp := some o } : State).nvOp = some o) := by decide

theorem witness_scrub : ∀ cls : Fin 9, (cls.val, 0, 0x1FFFFFF / 16) ∉ ({} : State).badCw := by decide

/-! ## Debug and test access -/

theorem witness_tap : ({} : State).tapLocked = false ∧ ({ strapLock := true } : State).tapLocked = true ∧ ({} : State).rd PRK_STATE_STRUCT 0 ≠ 1 ∧
    (({} : State).wr PRK_STATE_STRUCT 0 1).rd PRK_STATE_STRUCT 0 = 1 ∧ ({} : State).noStep = true ∧ ({} : State).yard = none ∧ ({} : State).badCw = [] ∧ (0x40300041 : BitVec 32).toNat % 4 ≠ 0 ∧ ({} : State).rd SYS_ADDRERR_INFO_VALID 0 = 0 ∧
    (0x10000001 : BitVec 32).toNat % 4 ≠ 0 ∧ (0x11FFFFFC : BitVec 32).toNat % 4 = 0 ∧ (0x11FFFFFC : BitVec 32).toNat < 0x12000000 ∧
    (({ yard := some 9 } : State).punit 9).exit = none ∧ (({ yard := some 9 } : State).punit 9).wake = false ∧ ({ yard := some 9 } : State).yard.isSome = true := by decide

/-- Core 0 stands at an enabled breakpoint. -/
def atBp : State := k0.wrs 3 [(DBG_C_BP_EN, 1), (DBG_C_BP_ADDR, 0x100)]
/-- Core 0 is halted at 0x100. -/
def halted : State := onCore k0 fun k => { k with st := 4 }

theorem witness_debugger : k0.coreOk 0 = true ∧ (k0.core 0).st = 1 ∧
    (let s := onCore k0 fun k => { k with haltReq := true }
     (s.core 0).haltReq = true ∧ (s.core 0).stepping = false ∧ s.haltOk 0 = true) ∧
    (atBp.canIssue 0 = true ∧ atBp.bpHit 0 = true ∧ (atBp.core 0).haltReq = false) ∧ (halted.core 0).st = 4 ∧ halted.noStep = true ∧ halted.coreClock = true ∧
    (halted.core 0).wait = .none ∧ halted.coreOk 0 = true ∧ halted.on DBG_C_CTL_MASKINT 0 = false := by decide

theorem witness_debugger_step :
    let u := ((halted.setCore 0 { halted.core 0 with stepping := true }).unhalt 0).instrAt 0
    (u.core 0).st = 1 ∧ (u.core 0).wait = .none ∧ (u.core 0).pload = none ∧ (u.wr DBG_C_CTL_MASKINT 0 1).on DBG_C_CTL_MASKINT 0 = true ∧ (u.coreHalt 0 4).noStep = true := by decide +kernel

/-- A core of a halted device selects an item. -/
def sel (i : Nat) : State := halted.wr DBG_C_RSEL_SEL 0 i

theorem witness_rdata : (∀ i ∈ [0, 31], (sel i).rd DBG_C_RSEL_SEL 0 = i) ∧
    (∀ n ∈ [0, 255], (sel (0x100 + n)).rd DBG_C_RSEL_SEL 0 = 0x100 + n) ∧ ((sel 0x100).srRead 0 0 ((sel 0x100).core 0).haltAt).isSome = true ∧
    (match (sel 0x108).srWrite 0 8 77 with | .ok _ => true | .error _ => false) = true ∧ (match (sel 0x102).srWrite 0 2 77 with | .ok _ => false | .error _ => true) = true ∧
    (∀ n ∈ [0, 7], (sel (0x201 + 2 * n)).rd DBG_C_RSEL_SEL 0 = 0x201 + 2 * n) := by decide

/-- The low half of a handle waits in the core, and w is its high half. -/
theorem witness_rdata_handle (h : Nat) (hh : h = wState.handleOf 1) :
    let s := wState.setCore 0 { wState.core 0 with st := 4, wlo := h % 2 ^ 32 }
    (s.core 0).st = 4 ∧ s.handleBad ((BitVec.ofNat 32 (h / 2 ^ 32)).toNat * 2 ^ 32 + (s.core 0).wlo) = 0 := by
  have hl : h < 2 ^ 64 := hh ▸ State.handleOf_lt wState (by decide)
  have e : (BitVec.ofNat 32 (h / 2 ^ 32)).toNat * 2 ^ 32 + h % 2 ^ 32 = h := by
    rw [BitVec.toNat_ofNat]; omega
  refine ⟨rfl, ?_⟩
  show wState.handleBad ((BitVec.ofNat 32 (h / 2 ^ 32)).toNat * 2 ^ 32 + h % 2 ^ 32) = 0
  rw [e, hh]
  exact State.handleBad_handleOf wState (by decide) (by decide) (by decide)

/-- Tile 7 has engine 47 detached on its unit 55. -/
def detached (x : Engine) : State := { engs := [(55, x)], ltiles := [(7, { cur := some { req := ⟨47, 2⟩, phase := 5, due := 9 } })] }

theorem witness_detached : (let w : BitVec 27 := 0x2F0000
     bits w.toNat 21 16 = 47 ∧ ({} : State).dbgTile = none ∧ (({} : State).ltile 7).spareOk = true ∧ (({} : State).eng 47).mode = .normal ∧ (({} : State).ltile 7).has 47 = false) ∧
    bits (0x300000 : BitVec 27).toNat 21 16 = 48 ∧ (detached {}).dbgTile = some 7 ∧ ((detached {}).ltile 7).cur = some { req := ⟨47, 2⟩, phase := 5, due := 9 } ∧
    (let s := (detached {}).wr LE_SLOT_JOB_VALID (8 * 55 + 7) 1
     let w : BitVec 27 := 0x1C00000
     s.on DBG_LSTAT_INRUN 0 = false ∧ bit w.toNat 26 = false ∧ s.on LE_SLOT_JOB_VALID (8 * 55 + bits w.toNat 24 22) = true ∧ (s.eng 55).fb = none) := by decide

theorem witness_detached_run : ∀ p ∈ [((0 : Nat), (UOp.nop : UOp)), (2 ^ 26, UOp.fin)], let s := ((detached { run := some run0, vs := [(5, p.1)] }).wr DBG_LSTAT_INRUN 0 1).wr LE_SLOT_BUDGET_BUDGET 441 100
     let w : BitVec 27 := 0x2000006
     s.dbgTile = some 7 ∧ s.on DBG_LSTAT_INRUN 0 = true ∧ (s.eng 55).fb = none ∧ (s.eng 55).run = some run0 ∧ decodeU (mget (s.eng 55).vs (2 ^ 26) run0.pc) = some p.2 ∧
      s.uReady 55 p.2 = true ∧ (s.uRun 55 p.2).steps < s.rd LE_SLOT_BUDGET_BUDGET (8 * 55 + run0.slot) ∧ (run0.pc + 1) % 4096 = bits w.toNat 11 0 ∧ bit w.toNat 25 = true := by decide

theorem witness_brk : ∀ n ∈ [0, 1], let s := k0.wr DBG_C_CTL_BRKCLAIM 0 n
     s.coreReady 0 0x7D [] = true ∧ s.on DBG_C_CTL_BRKCLAIM 0 = (n == 1) ∧ (s.core 0).arch.frames.length < 4 := by decide

/-! ## The block as a whole -/

theorem witness_step : ({ pending := [.idcode, .bypass] } : State).pending = .idcode :: [.bypass] ∧ State.reset.pending = [] := by decide

theorem witness_memories : State.reset.memOk = true ∧ (match step State.reset with | .next _ => true | _ => false) = true := by decide

theorem witness_dark : (unpowered { stayOff := true }).dark ∧ ({ unpowered {} with pending := [.idcode, .bypass] } : State).dark := by
  constructor <;> refine ⟨rfl, ?_⟩ <;> decide

/-! ## Results worked out by hand from the specification -/

def after (i : Instr) (s : State) : State := match exec i s with | .next t => t | _ => s

/-- R308: addition wraps modulo 2^32; −16 divided by 7 truncates toward zero, with remainder −2. -/
theorem test_add_wraps : (after (.add 0 [] (W 4 3 1)) k0).gr 0 4 = 0x1FF0 := by decide
theorem test_div_truncates : (after (.div 0 [] (W 4 3 2)) k0).gr 0 4 = 0xFFFFFFFE ∧ (after (.rem 0 [] (W 4 3 2)) k0).gr 0 4 = 0xFFFFFFFE := by decide

/-- R306: a load's value arrives after the instruction in its slot, which reads the old value. -/
theorem test_load_slot : (after (.lb 0 [] (W 2 1 0) 7 .ok) k0).gr 0 2 = 7 ∧
    (after (.add 0 [] (W 5 2 0)) (after (.lb 0 [] (W 2 1 0) 7 .ok) k0)).gr 0 5 = 7 ∧
    (after (.add 0 [] (W 5 2 0)) (after (.lb 0 [] (W 2 1 0) 7 .ok) k0)).gr 0 2 = 0xFFFFFF88 := by decide

/-- R318, round to nearest even: 1 + 2^−24 is a tie and rounds to 1; 1.5 times 2 is 3; 1 divided by 0 is infinity. -/
theorem test_floating_point : (fpAdd 0 0x3F800000 0x33800000).1 = 0x3F800000 ∧ (fpMul 0 0x3FC00000 0x40000000).1 = 0x40400000 ∧
    (fpDiv 0 0x3F800000 0).1 = 0x7F800000 := by decide +kernel

/-- R161: ADD saturates at 2^23 − 1. -/
theorem test_microword_saturates : ((after (.uAdd 3 .ok 4 3 1) e0).eng 3).run.map (fun r => (r.rv 4, r.sat)) = some (8388607, true) := by decide

/-- R39: CRC-32C of the nine bytes 31 to 39, the check value of the polynomial's catalogue. -/
theorem test_crc : crc32c [0x31, 0x32, 0x33, 0x34, 0x35, 0x36, 0x37, 0x38, 0x39] = 0xE3069283 := by decide +kernel

/-- R508: IDCODE shifts out 0x1966_456F. -/
theorem test_idcode : (after .idcode {}).out = [.tapData 0x1966456F] := by decide

/-- R187: SAFE_STOP 0 switches both outputs off at once, and the leg is in SAFE. -/
theorem test_stop : ((after (.legStop 47) (leg { running with onH := some ⟨0, 4196, 0, 1000⟩ })).leg 47).onH = none := by decide
end Sys2Proof.Tests
end

section
/-!
PROOFS. The integer instructions of the cores (spec/13, R304 and R308). The model computes on natural numbers, the statement on 32-bit words: the arithmetic
of each instruction is compared once, and the formats R and I are then settled for every operation whose arithmetic agrees.
-/
namespace Sys2Proof.Machine

/-! ## The numbers of the model as words -/

theorem toS_toNat {w : Nat} (a : BitVec (w + 1)) : toS (w + 1) a.toNat = a.toInt := by
  have h : a.toNat < 2 ^ w ↔ 2 * a.toNat < 2 ^ (w + 1) := by rw [pow_succ]; omega
  simp only [toS, BitVec.toInt_eq_toNat_cond, Nat.mod_eq_of_lt a.isLt, Nat.add_sub_cancel, h]
  norm_cast

theorem sgn_toNat (a : BitVec 32) : sgn a.toNat = a.toInt := toS_toNat a

theorem ofS_eq_toNat_ofInt (w : Nat) (x : Int) : ofS w x = (BitVec.ofInt w x).toNat := by
  rw [BitVec.toNat_ofInt]
  norm_cast

theorem flag_mod (p : Bool) : flag p % 2 ^ 32 = (if p then 1 else 0 : BitVec 32).toNat := by cases p <;> rfl

/-- An operation of the model on numbers computes an operation on words: it gives a number whose low 32 bits are the result, which are what a
register write keeps (R308). -/
def Computes (f : Nat → Nat → Nat) (g : BitVec 32 → BitVec 32 → BitVec 32) : Prop :=
  ∀ a b : BitVec 32, f a.toNat b.toNat % 2 ^ 32 = (g a b).toNat

/-- An operation that gives the two's complement form of an integer computes the word of that integer. -/
theorem computes_of_ofInt {f : Nat → Nat → Nat} {g : BitVec 32 → BitVec 32 → BitVec 32} (x : BitVec 32 → BitVec 32 → Int)
    (hf : ∀ a b, f a.toNat b.toNat = ofS 32 (x a b)) (hg : ∀ a b, g a b = BitVec.ofInt 32 (x a b)) : Computes f g := fun a b => by
  rw [hf, hg, ofS_eq_toNat_ofInt, Nat.mod_eq_of_lt (BitVec.isLt _)]

/-- An operation on words whose value is the model's number computes it without a wrap. -/
theorem computes_of_toNat {f : Nat → Nat → Nat} {g : BitVec 32 → BitVec 32 → BitVec 32}
    (h : ∀ a b, (g a b).toNat = f a.toNat b.toNat) : Computes f g := fun a b => by
  rw [← h, Nat.mod_eq_of_lt (BitVec.isLt _)]

/-- An operation that chooses between two by a condition. -/
theorem computes_ite {p : Nat → Nat → Prop} [∀ a b, Decidable (p a b)] {q : BitVec 32 → BitVec 32 → Prop} [∀ a b, Decidable (q a b)]
    {f f' : Nat → Nat → Nat} {g g' : BitVec 32 → BitVec 32 → BitVec 32} (h : ∀ a b, p a.toNat b.toNat ↔ q a b)
    (hf : Computes f g) (hf' : Computes f' g') :
    Computes (fun a b => if p a b then f a b else f' a b) (fun a b => if q a b then g a b else g' a b) := fun a b => by
  dsimp only
  by_cases hq : q a b
  · rw [if_pos ((h a b).2 hq), if_pos hq, hf a b]
  · rw [if_neg (mt (h a b).1 hq), if_neg hq, hf' a b]

theorem computes_left : Computes (fun a _ => a) (fun a _ => a) := computes_of_toNat fun _ _ => rfl
theorem computes_right : Computes (fun _ b => b) (fun _ b => b) := computes_of_toNat fun _ _ => rfl

/-! ## Addition and the bitwise operations -/

theorem computes_add : Computes (fun a b => a + b) (fun a b => a + b) := fun a b => (BitVec.toNat_add a b).symm

theorem computes_sub : Computes (fun a b => a + 2 ^ 32 - b) (fun a b => a - b) := fun a b => by
  rw [BitVec.toNat_sub]
  dsimp only
  omega

theorem computes_and : Computes (fun a b => a &&& b) (fun a b => a &&& b) := computes_of_toNat BitVec.toNat_and
theorem computes_or : Computes (fun a b => a ||| b) (fun a b => a ||| b) := computes_of_toNat BitVec.toNat_or
theorem computes_xor : Computes (fun a b => a ^^^ b) (fun a b => a ^^^ b) := computes_of_toNat BitVec.toNat_xor

/-! ## Shifts by a number of places -/

theorem mul_two_pow_mod (a : BitVec 32) (n : Nat) : a.toNat * 2 ^ n % 2 ^ 32 = (a <<< n).toNat := by
  rw [BitVec.toNat_shiftLeft, Nat.shiftLeft_eq]

theorem div_two_pow_mod (a : BitVec 32) (n : Nat) : a.toNat / 2 ^ n % 2 ^ 32 = (a >>> n).toNat := by
  rw [BitVec.toNat_ushiftRight, Nat.shiftRight_eq_div_pow, Nat.mod_eq_of_lt (lt_of_le_of_lt (Nat.div_le_self _ _) a.isLt)]

theorem sgn_div_two_pow_mod (a : BitVec 32) (n : Nat) : ofS 32 (sgn a.toNat / 2 ^ n) % 2 ^ 32 = (a.sshiftRight n).toNat := by
  rw [BitVec.sshiftRight, sgn_toNat, Int.shiftRight_eq_div_pow, ofS_eq_toNat_ofInt, Nat.mod_eq_of_lt (BitVec.isLt _)]
  norm_cast

theorem computes_sll : Computes (fun a b => a * 2 ^ (b % 32)) (fun a b => a <<< (b.toNat % 32)) := fun a b => mul_two_pow_mod a (b.toNat % 32)
theorem computes_srl : Computes (fun a b => a / 2 ^ (b % 32)) (fun a b => a >>> (b.toNat % 32)) := fun a b => div_two_pow_mod a (b.toNat % 32)
theorem computes_sra : Computes (fun a b => ofS 32 (sgn a / 2 ^ (b % 32))) (fun a b => a.sshiftRight (b.toNat % 32)) :=
  fun a b => sgn_div_two_pow_mod a (b.toNat % 32)

/-! ## Comparisons -/

theorem computes_slt : Computes (fun a b => flag (decide (sgn a < sgn b))) (fun a b => if a.slt b then 1 else 0) := fun a b => by
  simp only [sgn_toNat, ← BitVec.slt_eq_decide, flag_mod]

theorem computes_sltu : Computes (fun a b => flag (decide (a < b))) (fun a b => if a.ult b then 1 else 0) := fun a b => by
  simp only [← BitVec.ult_eq_decide, flag_mod]

theorem sgn_lt_iff_slt (a b : BitVec 32) : sgn a.toNat < sgn b.toNat ↔ a.slt b = true := by
  rw [sgn_toNat, sgn_toNat, BitVec.slt_iff_toInt_lt]

theorem computes_min : Computes (fun a b => if sgn a < sgn b then a else b) (fun a b => if a.slt b then a else b) :=
  computes_ite sgn_lt_iff_slt computes_left computes_right

theorem computes_max : Computes (fun a b => if sgn a < sgn b then b else a) (fun a b => if a.slt b then b else a) :=
  computes_ite sgn_lt_iff_slt computes_right computes_left

theorem computes_minu : Computes (fun a b => min a b) (fun a b => if a.ult b then a else b) := fun a b => by
  have h := computes_ite (p := fun a b => a < b) (fun a b => BitVec.ult_iff_lt.symm) computes_left computes_right a b
  rw [← h]
  dsimp only
  split <;> omega

theorem computes_maxu : Computes (fun a b => max a b) (fun a b => if a.ult b then b else a) := fun a b => by
  have h := computes_ite (p := fun a b => a < b) (fun a b => BitVec.ult_iff_lt.symm) computes_right computes_left a b
  rw [← h]
  dsimp only
  split <;> omega

/-! ## Products -/

theorem computes_mul : Computes (fun a b => a * b) (fun a b => a * b) := fun a b => (BitVec.toNat_mul a b).symm

/-- The upper half of the 64-bit form of an integer is the form of its quotient by 2^32. -/
theorem upper_ofInt (x : Int) : ((BitVec.ofInt 64 x >>> 32).setWidth 32) = BitVec.ofInt 32 (x / 2 ^ 32) := by
  apply BitVec.eq_of_toNat_eq
  rw [BitVec.toNat_setWidth, BitVec.toNat_ushiftRight, Nat.shiftRight_eq_div_pow, BitVec.toNat_ofInt, BitVec.toNat_ofInt]
  omega

theorem computes_mulh : Computes (fun a b => ofS 32 (sgn a * sgn b / 2 ^ 32))
    (fun a b => ((a.signExtend 64 * b.signExtend 64) >>> 32).setWidth 32) :=
  computes_of_ofInt (fun a b => a.toInt * b.toInt / 2 ^ 32) (fun a b => by rw [sgn_toNat, sgn_toNat]) fun a b => by
    rw [← upper_ofInt, BitVec.ofInt_mul, BitVec.signExtend, BitVec.signExtend]

theorem computes_mulhu : Computes (fun a b => a * b / 2 ^ 32) (fun a b => ((a.setWidth 64 * b.setWidth 64) >>> 32).setWidth 32) := fun a b => by
  have h : a.toNat * b.toNat < 2 ^ 64 := (Nat.mul_lt_mul'' a.isLt b.isLt).trans_eq (by norm_num)
  simp only [BitVec.toNat_setWidth, BitVec.toNat_ushiftRight, Nat.shiftRight_eq_div_pow, BitVec.toNat_mul, Nat.mod_mul_mod, Nat.mul_mod_mod]
  rw [Nat.mod_eq_of_lt h]

/-! ## Division: by zero there is a result and no exception (R308) -/

theorem toNat_eq_zero_iff (b : BitVec 32) : b.toNat = 0 ↔ b = 0 := (BitVec.toNat_eq (y := 0)).symm

theorem toNat_mod_eq_zero_iff (b : BitVec 32) : b.toNat % 2 ^ 32 = 0 ↔ b = 0 := by
  rw [Nat.mod_eq_of_lt b.isLt, toNat_eq_zero_iff]

theorem sdiv_eq_ofInt (a b : BitVec 32) : a.sdiv b = BitVec.ofInt 32 (a.toInt.tdiv b.toInt) :=
  BitVec.eq_of_toInt_eq (by rw [BitVec.toInt_sdiv, BitVec.toInt_ofInt])

theorem srem_eq_ofInt (a b : BitVec 32) : a.srem b = BitVec.ofInt 32 (a.toInt.tmod b.toInt) := by
  rw [← BitVec.toInt_srem, BitVec.ofInt_toInt]

theorem computes_allOnes : Computes (fun _ _ => 2 ^ 32 - 1) (fun _ _ => BitVec.allOnes 32) := fun _ _ => rfl

theorem computes_sdiv : Computes sdiv (fun a b => if b = 0 then BitVec.allOnes 32 else a.sdiv b) :=
  computes_ite (fun _ => toNat_mod_eq_zero_iff) computes_allOnes
    (computes_of_ofInt _ (fun a b => by rw [sgn_toNat, sgn_toNat]) sdiv_eq_ofInt)

theorem computes_srem : Computes srem (fun a b => if b = 0 then a else a.srem b) :=
  computes_ite (fun _ => toNat_mod_eq_zero_iff) computes_left
    (computes_of_ofInt _ (fun a b => by rw [sgn_toNat, sgn_toNat]) srem_eq_ofInt)

theorem computes_udiv : Computes udiv (fun a b => if b = 0 then BitVec.allOnes 32 else a / b) :=
  computes_ite (fun _ => toNat_eq_zero_iff) computes_allOnes (computes_of_toNat fun _ _ => BitVec.toNat_udiv)

theorem computes_urem : Computes urem (fun a b => if b = 0 then a else a % b) :=
  computes_ite (fun _ => toNat_eq_zero_iff) computes_left (computes_of_toNat fun _ _ => BitVec.toNat_umod)

/-! ## Registers, prefixes, reserved fields and immediates -/

theorem CArch.reg_lt (x : CArch) (r : Nat) : x.reg r < 2 ^ 32 := by
  unfold CArch.reg
  split
  · decide
  · exact Nat.mod_lt _ (by decide)

theorem State.x_toNat (s : State) (c r : Nat) : (s.x c r).toNat = s.gr c r :=
  (BitVec.toNat_ofNat _ _).trans (Nat.mod_eq_of_lt ((s.core c).arch.reg_lt r))

/-- A register keeps the low 32 bits of what is written to it (R300). -/
theorem CArch.setReg_mod (x : CArch) (r v : Nat) : x.setReg r (v % 2 ^ 32) = x.setReg r v := by
  simp only [CArch.setReg, Nat.mod_mod]

theorem and_two_pow_mul_eq_zero {w k : Nat} (h : w < 2 ^ k) (m : Nat) : w &&& 2 ^ k * m = 0 := by
  refine Nat.eq_of_testBit_eq fun j => ?_
  rw [Nat.testBit_and, Nat.testBit_two_pow_mul, Nat.zero_testBit]
  by_cases hj : k ≤ j
  · rw [Nat.testBit_lt_two_pow (lt_of_lt_of_le h (Nat.pow_le_pow_right (by decide) hj)), Bool.false_and]
  · simp [hj]

/-- A field whose reserved bits, those of a mask from bit k on, are all zero. -/
theorem resvW_none {w k : Nat} (h : w < 2 ^ k) (m : Nat) : resvW (2 ^ k * m) w = none := by
  have hm : w % 2 ^ 16 &&& 2 ^ k * m = 0 := and_two_pow_mul_eq_zero (lt_of_le_of_lt (Nat.mod_le _ _) h) m
  have hlow : w % 2 ^ 16 &&& 2 ^ k * m % 256 = 0 := by
    calc w % 2 ^ 16 &&& 2 ^ k * m % 2 ^ 8
      _ = (w % 2 ^ 16 &&& 2 ^ k * m) &&& 2 ^ 8 - 1 := by rw [Nat.and_assoc, Nat.and_two_pow_sub_one_eq_mod]
      _ = 0 := by rw [hm, Nat.zero_and]
  unfold resvW
  rw [if_neg (not_not.2 hlow), if_neg (not_not.2 hm)]

/-- 0xE8 is taken note of exactly where it stands among the prefixes. -/
theorem scanPre_wide {b : Base} {pre : List (Fin 16)} {n : Nat} {x p : Pre} (h : scanPre b n x pre = .ok p) :
    p.wide = (x.wide || decide ((8 : Fin 16) ∈ pre)) := by
  induction pre generalizing n x with
  | nil =>
    obtain rfl : x = p := by simpa [scanPre] using h
    simp
  | cons q t ih =>
    have hq : (8 : Fin 16) = q ↔ q.val = 8 := by
      rw [eq_comm, Fin.ext_iff]
      rfl
    simp only [scanPre] at h
    split_ifs at h with _ h1 _ h2
    · simp [ih h, hq, h1.ne]
    · simp [ih h, hq, h2]
    · simp [ih h, hq, h2]

theorem preOf_wide {op : Nat} {pre : List (Fin 16)} {p : Pre} (h : preOf op pre = some p) : p.wide = decide ((8 : Fin 16) ∈ pre) := by
  unfold preOf at h
  split at h
  · next q hq =>
    obtain rfl : q = p := by simpa using h
    simpa using scanPre_wide hq
  · simp at h

theorem Iss.zx_eq_immZ {i : Iss} {op : Nat} {pre : List (Fin 16)} (h : preOf op pre = some i.pre) (imm : BitVec 32) :
    i.zx imm.toNat = (immZ pre imm).toNat := by
  unfold Iss.zx immZ
  by_cases h8 : (8 : Fin 16) ∈ pre
  · simp [preOf_wide h, h8, Nat.mod_eq_of_lt imm.isLt]
  · have low : imm.toNat % 2 ^ 16 < 2 ^ 32 := by omega
    simpa [preOf_wide h, h8] using (Nat.mod_eq_of_lt low).symm

theorem Iss.sx_eq_immS {i : Iss} {op : Nat} {pre : List (Fin 16)} (h : preOf op pre = some i.pre) (imm : BitVec 32) :
    i.sx imm.toNat = (immS pre imm).toNat := by
  have h16 : toS 16 imm.toNat = (imm.setWidth 16).toInt := by
    rw [← toS_toNat, BitVec.toNat_setWidth]
    simp only [toS, Nat.mod_mod]
  unfold Iss.sx immS
  by_cases h8 : (8 : Fin 16) ∈ pre
  · simp [preOf_wide h, h8, Nat.mod_eq_of_lt imm.isLt]
  · simp [preOf_wide h, h8, h16, ofS_eq_toNat_ofInt, BitVec.signExtend]

/-! ## The formats -/

theorem State.up_of_coreReady {s : State} {c op : Nat} {pre : List (Fin 16)} (h : s.coreReady c op pre = true) : s.supply.up = true := by
  simp only [State.coreReady, Bool.and_eq_true] at h
  obtain ⟨⟨⟨⟨⟨up, -⟩, -⟩, -⟩, -⟩, -⟩ := h
  exact up

/-- A result of an instruction, from a core of which issue has changed neither the architectural state nor the load and the count of instructions. -/
theorem State.setCore_result_spec (s : State) (t c : Nat) {k : Core} (ha : k.arch = (s.core c).arch) (hp : k.pload = (s.core c).pload)
    (hi : k.instret = (s.core c).instret) (i : Iss) (count rd v lat : Nat) :
    seqOf s (((s.reach t).setCore c k).result c i count rd v lat) c ((s.core c).arch.setReg rd v) i.len := by
  obtain ⟨x, hx, xa, xp, xi⟩ := ((s.reach t).setCore c k).setGr_eq c rd v (i.n + lat)
  rw [State.core_setCore_self] at xa xp xi
  unfold State.result
  rw [hx, State.setCore_setCore, ← ha, ← xa]
  exact s.seq_spec t c x i count none (xp.trans hp) (xi.trans hi) (by simp [xa, ha]) (by simp [xa, ha]) (by simp [xa, ha]) (by simp [xa, ha])

/-- An instruction that the core issues and whose body, apart from the scoreboard, writes one result. -/
theorem State.issue_result_spec {s : State} {c op rd v : Nat} {pre : List (Fin 16)} (h : s.coreReady c op pre = true) (uses : List Nat) (lat : Nat)
    {body : State → Iss → State} (hb : ∀ (t : Nat) (i : Iss), preOf op pre = some i.pre →
      ∃ k : Core, k.arch = (s.core c).arch ∧ k.pload = (s.core c).pload ∧ k.instret = (s.core c).instret ∧
        body ((s.reach t).setCore c { s.core c with ilen := lenOf op pre }) i = ((s.reach t).setCore c k).result c i 1 rd v lat) :
    seqOf s (s.issue c pre (baseOf op) none uses body) c ((s.core c).arch.setReg rd v) (lenOf op pre) := by
  obtain ⟨p, hp, e⟩ := State.issue_ready h uses body
  obtain ⟨k, ha, hl, hi, ek⟩ := hb (cycTime (s.issueCycle c uses)) ⟨lenOf op pre, p, s.issueCycle c uses, (s.core c).free⟩ hp
  rw [e, ek]
  exact s.setCore_result_spec _ c ha hl hi _ 1 rd v lat

theorem State.aluR_spec {s : State} {c op w : Nat} {pre : List (Fin 16)} (h : s.coreReady c op pre = true) (hw : w < 2 ^ 15) (lat : Nat)
    {f : Nat → Nat → Nat} {g : BitVec 32 → BitVec 32 → BitVec 32} (hf : Computes f g) :
    seqOf s (s.aluR c pre op w lat f) c ((s.core c).arch.setReg (rdOf w) (g (s.x c (rs1Of w)) (s.x c (rs2Of w))).toNat) (lenOf op pre) := by
  unfold State.aluR
  rw [show resvW 0x8000 w = none from resvW_none hw 1, ← hf, CArch.setReg_mod, State.x_toNat, State.x_toNat]
  refine State.issue_result_spec h _ lat fun t i _ => ⟨{ s.core c with ilen := lenOf op pre }, rfl, rfl, rfl, ?_⟩
  simp only [State.gr, State.core_setCore_self]

/-- The divider's entry of the scoreboard is all that a division has over the other instructions of format R. -/
theorem State.unitR_spec {s : State} {c op w : Nat} {pre : List (Fin 16)} (h : s.coreReady c op pre = true) (hw : w < 2 ^ 15) (lat : Nat)
    {f : Nat → Nat → Nat} {g : BitVec 32 → BitVec 32 → BitVec 32} (hf : Computes f g) :
    seqOf s (s.unitR c pre op w lat f) c ((s.core c).arch.setReg (rdOf w) (g (s.x c (rs1Of w)) (s.x c (rs2Of w))).toNat) (lenOf op pre) := by
  unfold State.unitR
  rw [show resvW 0x8000 w = none from resvW_none hw 1, ← hf, CArch.setReg_mod, State.x_toNat, State.x_toNat]
  refine State.issue_result_spec h _ lat fun t i _ =>
    ⟨{ s.core c with ilen := lenOf op pre, ready := mset (s.core c).ready 0 33 (i.n + lat) }, rfl, rfl, rfl, ?_⟩
  simp only [State.gr, State.readyIn, State.core_setCore_self, State.setCore_setCore, OfNat.ofNat_ne_zero, if_false]

theorem State.aluI_spec {s : State} {c op w : Nat} {pre : List (Fin 16)} (h : s.coreReady c op pre = true) (hw : w < 2 ^ 10) (imm : BitVec 32)
    (zext : Bool) {f : Nat → Nat → Nat} {g : BitVec 32 → BitVec 32 → BitVec 32} (hf : Computes f g) :
    seqOf s (s.aluI c pre op w imm.toNat zext f) c
      ((s.core c).arch.setReg (rdOf w) (g (s.x c (rs1Of w)) (if zext then immZ pre imm else immS pre imm)).toNat) (lenOf op pre) := by
  unfold State.aluI
  rw [show resvW 0xFC00 w = none from resvW_none hw 63, ← hf, CArch.setReg_mod, State.x_toNat, apply_ite BitVec.toNat]
  refine State.issue_result_spec h _ 1 fun t i hi => ⟨{ s.core c with ilen := lenOf op pre }, rfl, rfl, rfl, ?_⟩
  simp only [State.gr, State.core_setCore_self, Iss.zx_eq_immZ hi, Iss.sx_eq_immS hi]

theorem State.shiftI_spec {s : State} {c op w imm : Nat} {pre : List (Fin 16)} (h : s.coreReady c op pre = true) (hw : w < 2 ^ 10)
    (himm : imm < 32) {f : Nat → Nat → Nat} {g : BitVec 32 → Nat → BitVec 32} (hf : ∀ a n, f a.toNat n % 2 ^ 32 = (g a n).toNat) :
    seqOf s (s.shiftI c pre op w imm f) c ((s.core c).arch.setReg (rdOf w) (g (s.x c (rs1Of w)) imm).toNat) (lenOf op pre) := by
  unfold State.shiftI
  rw [show resvW 0xFC00 w = none from resvW_none hw 63, show resvW 0xFFE0 imm = none from resvW_none (k := 5) himm 2047,
    ← hf, CArch.setReg_mod, State.x_toNat]
  dsimp only [Option.map_none]
  refine State.issue_result_spec h _ 1 fun t i _ => ⟨{ s.core c with ilen := lenOf op pre }, rfl, rfl, rfl, ?_⟩
  simp only [State.gr, State.core_setCore_self, Nat.mod_eq_of_lt himm]

/-! ## The formats as statements about a command -/

/-- The instruction of an opcode in format R writes an operation's word of rs1 and rs2 to rd. -/
def RunsR (op : Nat) (mk : Fin 16 → List (Fin 16) → BitVec 16 → Instr) (g : BitVec 32 → BitVec 32 → BitVec 32) : Prop :=
  ∀ (c : Fin 16) (pre : List (Fin 16)) (w : BitVec 16) (s : State), s.coreReady c op pre = true → w.toNat < 2 ^ 15 →
    ∃ t, exec (mk c pre w) s = .next t ∧
      seqOf s t c ((s.core c).arch.setReg (rdOf w.toNat) (g (s.x c (rs1Of w.toNat)) (s.x c (rs2Of w.toNat))).toNat) (lenOf op pre)

theorem runsR_of_aluR {op lat : Nat} {mk : Fin 16 → List (Fin 16) → BitVec 16 → Instr} {f : Nat → Nat → Nat}
    {g : BitVec 32 → BitVec 32 → BitVec 32} (hf : Computes f g)
    (he : ∀ c pre w s, exec (mk c pre w) s = .next (s.live fun s => s.aluR c.val pre op w.toNat lat f)) : RunsR op mk g :=
  fun c pre w s h hw => ⟨_, by rw [he, State.live_up (State.up_of_coreReady h)], State.aluR_spec h hw lat hf⟩

theorem runsR_of_unitR {op lat : Nat} {mk : Fin 16 → List (Fin 16) → BitVec 16 → Instr} {f : Nat → Nat → Nat}
    {g : BitVec 32 → BitVec 32 → BitVec 32} (hf : Computes f g)
    (he : ∀ c pre w s, exec (mk c pre w) s = .next (s.live fun s => s.unitR c.val pre op w.toNat lat f)) : RunsR op mk g :=
  fun c pre w s h hw => ⟨_, by rw [he, State.live_up (State.up_of_coreReady h)], State.unitR_spec h hw lat hf⟩

/-- The instruction of an opcode in format I writes an operation's word of rs1 and the extended immediate to rd. -/
def RunsI (op : Nat) (zext : Bool) (mk : Fin 16 → List (Fin 16) → BitVec 16 → BitVec 32 → Instr)
    (g : BitVec 32 → BitVec 32 → BitVec 32) : Prop :=
  ∀ (c : Fin 16) (pre : List (Fin 16)) (w : BitVec 16) (imm : BitVec 32) (s : State), s.coreReady c op pre = true → w.toNat < 2 ^ 10 →
    ∃ t, exec (mk c pre w imm) s = .next t ∧
      seqOf s t c ((s.core c).arch.setReg (rdOf w.toNat) (g (s.x c (rs1Of w.toNat)) (if zext then immZ pre imm else immS pre imm)).toNat) (lenOf op pre)

theorem runsI_of_aluI {op : Nat} {zext : Bool} {mk : Fin 16 → List (Fin 16) → BitVec 16 → BitVec 32 → Instr} {f : Nat → Nat → Nat}
    {g : BitVec 32 → BitVec 32 → BitVec 32} (hf : Computes f g)
    (he : ∀ c pre w imm s, exec (mk c pre w imm) s = .next (s.live fun s => s.aluI c.val pre op w.toNat imm.toNat zext f)) : RunsI op zext mk g :=
  fun c pre w imm s h hw => ⟨_, by rw [he, State.live_up (State.up_of_coreReady h)], State.aluI_spec h hw imm zext hf⟩

/-- The instruction of an opcode that shifts by an immediate writes the shifted rs1 to rd. -/
def RunsShift (op : Nat) (mk : Fin 16 → List (Fin 16) → BitVec 16 → BitVec 32 → Instr) (g : BitVec 32 → Nat → BitVec 32) : Prop :=
  ∀ (c : Fin 16) (pre : List (Fin 16)) (w : BitVec 16) (imm : BitVec 32) (s : State),
    s.coreReady c op pre = true → w.toNat < 2 ^ 10 → imm.toNat < 32 →
    ∃ t, exec (mk c pre w imm) s = .next t ∧
      seqOf s t c ((s.core c).arch.setReg (rdOf w.toNat) (g (s.x c (rs1Of w.toNat)) imm.toNat).toNat) (lenOf op pre)

theorem runsShift_of_shiftI {op : Nat} {mk : Fin 16 → List (Fin 16) → BitVec 16 → BitVec 32 → Instr} {f : Nat → Nat → Nat}
    {g : BitVec 32 → Nat → BitVec 32} (hf : ∀ a n, f a.toNat n % 2 ^ 32 = (g a n).toNat)
    (he : ∀ c pre w imm s, exec (mk c pre w imm) s = .next (s.live fun s => s.shiftI c.val pre op w.toNat imm.toNat f)) : RunsShift op mk g :=
  fun c pre w imm s h hw himm => ⟨_, by rw [he, State.live_up (State.up_of_coreReady h)], State.shiftI_spec h hw himm hf⟩

/-! ## The instructions: exec runs each in its format, with its arithmetic (R318) -/

theorem runsR_add : RunsR 0x01 .add (fun a b => a + b) := runsR_of_aluR computes_add fun _ _ _ _ => rfl
theorem runsR_sub : RunsR 0x02 .sub (fun a b => a - b) := runsR_of_aluR computes_sub fun _ _ _ _ => rfl
theorem runsR_and : RunsR 0x03 .and (fun a b => a &&& b) := runsR_of_aluR computes_and fun _ _ _ _ => rfl
theorem runsR_or : RunsR 0x04 .or (fun a b => a ||| b) := runsR_of_aluR computes_or fun _ _ _ _ => rfl
theorem runsR_xor : RunsR 0x05 .xor (fun a b => a ^^^ b) := runsR_of_aluR computes_xor fun _ _ _ _ => rfl
theorem runsR_sll : RunsR 0x06 .sll (fun a b => a <<< (b.toNat % 32)) := runsR_of_aluR computes_sll fun _ _ _ _ => rfl
theorem runsR_srl : RunsR 0x07 .srl (fun a b => a >>> (b.toNat % 32)) := runsR_of_aluR computes_srl fun _ _ _ _ => rfl
theorem runsR_sra : RunsR 0x08 .sra (fun a b => a.sshiftRight (b.toNat % 32)) := runsR_of_aluR computes_sra fun _ _ _ _ => rfl
theorem runsR_slt : RunsR 0x09 .slt (fun a b => if a.slt b then 1 else 0) := runsR_of_aluR computes_slt fun _ _ _ _ => rfl
theorem runsR_sltu : RunsR 0x0A .sltu (fun a b => if a.ult b then 1 else 0) := runsR_of_aluR computes_sltu fun _ _ _ _ => rfl
theorem runsR_min : RunsR 0x0B .min (fun a b => if a.slt b then a else b) := runsR_of_aluR computes_min fun _ _ _ _ => rfl
theorem runsR_max : RunsR 0x0C .max (fun a b => if a.slt b then b else a) := runsR_of_aluR computes_max fun _ _ _ _ => rfl
theorem runsR_minu : RunsR 0x0D .minu (fun a b => if a.ult b then a else b) := runsR_of_aluR computes_minu fun _ _ _ _ => rfl
theorem runsR_maxu : RunsR 0x0E .maxu (fun a b => if a.ult b then b else a) := runsR_of_aluR computes_maxu fun _ _ _ _ => rfl
theorem runsR_mul : RunsR 0x10 .mul (fun a b => a * b) := runsR_of_aluR computes_mul fun _ _ _ _ => rfl
theorem runsR_mulh : RunsR 0x11 .mulh (fun a b => ((a.signExtend 64 * b.signExtend 64) >>> 32).setWidth 32) :=
  runsR_of_aluR computes_mulh fun _ _ _ _ => rfl
theorem runsR_mulhu : RunsR 0x12 .mulhu (fun a b => ((a.setWidth 64 * b.setWidth 64) >>> 32).setWidth 32) :=
  runsR_of_aluR computes_mulhu fun _ _ _ _ => rfl
theorem runsR_div : RunsR 0x13 .div (fun a b => if b = 0 then BitVec.allOnes 32 else a.sdiv b) := runsR_of_unitR computes_sdiv fun _ _ _ _ => rfl
theorem runsR_divu : RunsR 0x14 .divu (fun a b => if b = 0 then BitVec.allOnes 32 else a / b) := runsR_of_unitR computes_udiv fun _ _ _ _ => rfl
theorem runsR_rem : RunsR 0x15 .rem (fun a b => if b = 0 then a else a.srem b) := runsR_of_unitR computes_srem fun _ _ _ _ => rfl
theorem runsR_remu : RunsR 0x16 .remu (fun a b => if b = 0 then a else a % b) := runsR_of_unitR computes_urem fun _ _ _ _ => rfl
theorem runsI_addi : RunsI 0x20 false .addi (fun a b => a + b) := runsI_of_aluI computes_add fun _ _ _ _ _ => rfl
theorem runsI_andi : RunsI 0x21 true .andi (fun a b => a &&& b) := runsI_of_aluI computes_and fun _ _ _ _ _ => rfl
theorem runsI_ori : RunsI 0x22 true .ori (fun a b => a ||| b) := runsI_of_aluI computes_or fun _ _ _ _ _ => rfl
theorem runsI_xori : RunsI 0x23 true .xori (fun a b => a ^^^ b) := runsI_of_aluI computes_xor fun _ _ _ _ _ => rfl
theorem runsI_slti : RunsI 0x27 false .slti (fun a b => if a.slt b then 1 else 0) := runsI_of_aluI computes_slt fun _ _ _ _ _ => rfl
theorem runsI_sltiu : RunsI 0x28 false .sltiu (fun a b => if a.ult b then 1 else 0) := runsI_of_aluI computes_sltu fun _ _ _ _ _ => rfl
theorem runsShift_slli : RunsShift 0x24 .slli (fun a n => a <<< n) := runsShift_of_shiftI mul_two_pow_mod fun _ _ _ _ _ => rfl
theorem runsShift_srli : RunsShift 0x25 .srli (fun a n => a >>> n) := runsShift_of_shiftI div_two_pow_mod fun _ _ _ _ _ => rfl
theorem runsShift_srai : RunsShift 0x26 .srai (fun a n => a.sshiftRight n) := runsShift_of_shiftI sgn_div_two_pow_mod fun _ _ _ _ _ => rfl

/-- Settles O1: each format is proved once for any operation whose arithmetic on numbers computes the words of the statement, and the instructions
follow by their arithmetic. -/
theorem integerResults : Obligations.IntegerResults := by
  unfold Obligations.IntegerResults
  refine ⟨?_, ?_, ?_⟩ <;> rw [← List.forall_iff_forall_mem]
  · exact ⟨runsR_add, runsR_sub, runsR_and, runsR_or, runsR_xor, runsR_sll, runsR_srl, runsR_sra, runsR_slt, runsR_sltu, runsR_min,
      runsR_max, runsR_minu, runsR_maxu, runsR_mul, runsR_mulh, runsR_mulhu, runsR_div, runsR_divu, runsR_rem, runsR_remu⟩
  · exact ⟨runsI_addi, runsI_andi, runsI_ori, runsI_xori, runsI_slti, runsI_sltiu⟩
  · exact ⟨runsShift_slli, runsShift_srli, runsShift_srai⟩

end Sys2Proof.Machine
end

section
/-!
LOCKSTEP PAIRS (spec/16): what a failed comparison makes of a pair (R378 to R381), and the comparator test on command (R371, R372).
-/
namespace Sys2Proof.Machine
open F

/-! ## Registers and fault flags -/

theorem bit_eq_testBit (v k : Nat) : bit v k = v.testBit k := Nat.testBit_eq_decide_div_mod_eq.symm

/-- A flag set in a field of w bits stands beside the flags that the field held. -/
theorem bit_or_two_pow_mod (v b : Nat) {w k : Nat} (h : k < w) : bit ((v ||| 2 ^ b) % 2 ^ w) k = (bit v k || decide (b = k)) := by
  simp [bit_eq_testBit, Nat.testBit_two_pow, h]

/-- Only the field written changes. -/
theorem sameRegs_of_regs_wr {s t : State} {f : Field} {i v : Nat} (h : t.regs = (s.wr f i v).regs) : sameRegs s t [(f, i)] := fun g j hg => by
  rw [State.rd_congr h]
  exact s.rd_wr_ne v (by simpa using hg)

theorem State.tcmOf_congr {s t : State} (h : t.tcm = s.tcm) (c : Nat) : t.tcmOf c = s.tcmOf c := by simp [State.tcmOf, h]

/-- A vector that acts on its message or its pending bit changes messages and functions alone (R423). -/
theorem State.edge_eq (v : Nat) (s t : State) : ∃ o f, State.edge v s t = { t with out := o, fns := f } := by
  have hrise : ∃ o f, t.vecRise 0 v = { t with out := o, fns := f } := by
    unfold State.vecRise
    dsimp only
    split
    · exact ⟨_, t.fns, rfl⟩
    · exact ⟨t.out, _, rfl⟩
  unfold State.edge
  split <;> split
  · exact ⟨t.out, t.fns, rfl⟩
  · exact ⟨t.out, _, rfl⟩
  · exact hrise
  · exact ⟨t.out, t.fns, rfl⟩

/-- A core fault sets its flag, and the core-pair interrupt acts (R384). -/
theorem State.coreFault_eq (s : State) (c b : Nat) : ∃ r o f,
    s.coreFault c b = { s.wr CP_FAULT_FLAGS c (s.rd CP_FAULT_FLAGS c ||| 2 ^ b) with raised := r, out := o, fns := f } := by
  obtain ⟨o, f, h⟩ := State.edge_eq 4 s (s.raise CP_FAULT_FLAGS c (2 ^ b))
  exact ⟨_, o, f, h⟩

@[simp] theorem State.coreFault_rd (s : State) (c b : Nat) (f : Field) (i : Nat) :
    (s.coreFault c b).rd f i = (s.wr CP_FAULT_FLAGS c (s.rd CP_FAULT_FLAGS c ||| 2 ^ b)).rd f i := by
  obtain ⟨r, o, g, h⟩ := s.coreFault_eq c b
  rw [h]
  rfl

@[simp] theorem State.coreFault_core (s : State) (c b d : Nat) : (s.coreFault c b).core d = s.core d := by
  obtain ⟨r, o, f, h⟩ := s.coreFault_eq c b
  rw [h]
  rfl

@[simp] theorem State.coreFault_sram (s : State) (c b : Nat) : (s.coreFault c b).sram = s.sram := by
  obtain ⟨r, o, f, h⟩ := s.coreFault_eq c b
  rw [h]
  rfl

@[simp] theorem State.coreFault_tcm (s : State) (c b : Nat) : (s.coreFault c b).tcm = s.tcm := by
  obtain ⟨r, o, f, h⟩ := s.coreFault_eq c b
  rw [h]
  rfl

@[simp] theorem State.coreFault_et (s : State) (c b : Nat) : (s.coreFault c b).et = s.et := by
  obtain ⟨r, o, f, h⟩ := s.coreFault_eq c b
  rw [h]
  rfl

/-! ## The journal written back (step 2 of R378) -/

/-- t holds the cores of s, and its registers but for the counts of the banks of shared SRAM (R241). -/
def State.keepsPairs (s t : State) : Prop :=
  t.cores = s.cores ∧ ∀ (f : Field) (i : Nat), f.key ∉ [PLW_BANKACC_COUNT.key, PLW_BANKCONF_COUNT.key] → t.rd f i = s.rd f i

theorem State.keepsPairs.trans {s t u : State} (h : s.keepsPairs t) (k : t.keepsPairs u) : s.keepsPairs u :=
  ⟨k.1.trans h.1, fun f i hf => (k.2 f i hf).trans (h.2 f i hf)⟩

theorem State.addTo_keepsPairs (s : State) {f : Field} (h : f.key ∈ [PLW_BANKACC_COUNT.key, PLW_BANKCONF_COUNT.key]) (i n : Nat) :
    s.keepsPairs (s.addTo f i n) :=
  ⟨rfl, fun _ _ hg => s.rd_wr_key _ fun e => hg (e ▸ h)⟩

theorem State.bankCount_keepsPairs (s : State) (off n : Nat) : s.keepsPairs (s.bankCount off n) := by
  have acc (t : State) (k : Nat) := t.addTo_keepsPairs (f := PLW_BANKACC_COUNT) (by decide) 0 k
  have conf (t : State) (k : Nat) := t.addTo_keepsPairs (f := PLW_BANKCONF_COUNT) (by decide) 0 k
  unfold State.bankCount
  dsimp only
  refine List.foldlRecOn (motive := fun (q : State × Nat) => s.keepsPairs q.1) _ _ (acc s _) fun q hq i _ => hq.trans ?_
  exact conf _ _

/-- One entry of the journal of core c is written back. -/
def State.undoEntry (s : State) (c : Nat) (e : JEntry) : State :=
  if e.sram then ({ s with sram := s.sram.wrL e.addr e.old } : State).bankCount e.addr e.old.length
  else s.setTcm c ((s.tcmOf c).wrL e.addr e.old)

/-- The journal of core c is written back, newest first. -/
def State.undo (s : State) (c : Nat) (l : List JEntry) : State := l.foldl (fun s e => s.undoEntry c e) s

theorem State.undo_nil (s : State) (c : Nat) : s.undo c [] = s := rfl

theorem State.undo_keepsPairs (s : State) (c : Nat) (l : List JEntry) : s.keepsPairs (s.undo c l) := by
  refine List.foldlRecOn l _ ⟨rfl, fun _ _ _ => rfl⟩ fun t ht e _ => ht.trans ?_
  unfold State.undoEntry
  split
  · exact State.bankCount_keepsPairs _ _ _
  · exact ⟨rfl, fun _ _ _ => rfl⟩

theorem State.undo_core (s : State) (c : Nat) (l : List JEntry) (d : Nat) : (s.undo c l).core d = s.core d :=
  State.core_congr (s.undo_keepsPairs c l).1 d

theorem State.undo_rd (s : State) (c : Nat) (l : List JEntry) {f : Field} (i : Nat)
    (h : f.key ∉ [PLW_BANKACC_COUNT.key, PLW_BANKCONF_COUNT.key]) : (s.undo c l).rd f i = s.rd f i :=
  (s.undo_keepsPairs c l).2 f i h

theorem State.undoEntry_sram (s : State) (c a : Nat) (l : List (BitVec 8)) :
    (s.undoEntry c ⟨true, a, l⟩).sram = s.sram.wrL a l ∧ (s.undoEntry c ⟨true, a, l⟩).tcm = s.tcm := by
  have h : s.undoEntry c ⟨true, a, l⟩ = ({ s with sram := s.sram.wrL a l } : State).bankCount a l.length := rfl
  rw [h, State.bankCount_only]
  exact ⟨rfl, rfl⟩

theorem State.undoEntry_tcm (s : State) (c a : Nat) (l : List (BitVec 8)) :
    s.undoEntry c ⟨false, a, l⟩ = s.setTcm c ((s.tcmOf c).wrL a l) := rfl

/-- A store to TCM and a later one to shared SRAM are undone. -/
theorem State.undo_sram_tcm (s : State) (c a b : Nat) (l k : List (BitVec 8)) :
    (s.undo c [⟨true, a, l⟩, ⟨false, b, k⟩]).sram = s.sram.wrL a l ∧ (s.undo c [⟨true, a, l⟩, ⟨false, b, k⟩]).tcmOf c = (s.tcmOf c).wrL b k := by
  obtain ⟨hs, ht⟩ := s.undoEntry_sram c a l
  simp only [State.undo, List.foldl, State.undoEntry_tcm]
  exact ⟨hs, by rw [State.tcmOf_setTcm, State.tcmOf_congr ht]⟩

/-! ## Entry -/

/-- Core k has entered its handler at evec with the saved PC pc: one frame more than a has, and the registers of a (R337). -/
def Core.entered (k : Core) (a : CArch) (evec pc : Nat) : Prop :=
  k.epc = pc ∧ k.arch.pc = evec ∧ k.arch.frames.length = a.frames.length + 1 ∧ ∀ r, k.arch.reg r = a.reg r

/-- Revalidation concerns warrant registers alone (R364). -/
theorem Core.entered_revalidate (k : Core) (s : State) (a : CArch) (evec pc : Nat) :
    k.entered (s.revalidate a) evec pc ↔ k.entered a evec pc := Iff.rfl

/-- An entry with room for its frame changes its core alone, where no trace record is wanted (R337). -/
theorem State.coreEntry_room {s : State} {c : Nat} (hq : s.traceQuiet c = true) (hf : (s.core c).arch.frames.length < 4) (x : Exc) (pc : Nat)
    (loopend : Bool) (pend : Option PLoad) :
    ∃ k, s.coreEntry c x pc loopend pend = s.setCore c k ∧ k.st = (s.core c).st ∧ k.jrnl = (s.core c).jrnl ∧
      k.entered (s.core c).arch (s.rd CP_EVEC_EVEC c) pc := by
  have hset (y : Core) : (s.setCore c y).traceQuiet c = true := hq
  unfold State.coreEntry
  dsimp only
  rw [if_neg (by omega), State.trace_quiet (hset _)]
  exact ⟨_, rfl, rfl, rfl, rfl, rfl, rfl, fun _ => rfl⟩

/-! ## Mismatch -/

/-- A mismatch of group g is counted and recorded, and CORE_MISMATCH is raised (step 1 of R378). -/
def State.mismatchNoted (s : State) (c g : Nat) : State :=
  (s.wrs c [(CP_MMINFO_TOTAL, satInc (s.rd CP_MMINFO_TOTAL c) 255), (CP_MMINFO_SINCE, s.rd CP_MMINFO_SINCE c + 1), (CP_MMINFO_GROUP, g),
    (CP_MMPC_VALUE, (s.core c).arch.pc)]).coreFault c 2

@[simp] theorem State.mismatchNoted_core (s : State) (c g d : Nat) : (s.mismatchNoted c g).core d = s.core d := by simp [State.mismatchNoted]
@[simp] theorem State.mismatchNoted_sram (s : State) (c g : Nat) : (s.mismatchNoted c g).sram = s.sram := by simp [State.mismatchNoted]
@[simp] theorem State.mismatchNoted_tcm (s : State) (c g : Nat) : (s.mismatchNoted c g).tcm = s.tcm := by simp [State.mismatchNoted]
@[simp] theorem State.mismatchNoted_tcmOf (s : State) (c g d : Nat) : (s.mismatchNoted c g).tcmOf d = s.tcmOf d :=
  State.tcmOf_congr (s.mismatchNoted_tcm c g) d

/-- A core put back to an architectural state, free to issue from cycle e on, with its journal empty (step 3 of R378). -/
def Core.restored (k : Core) (a : CArch) (e : Nat) : Core :=
  { k with arch := a, pload := none, wait := .none, jrnl := [], free := e, recov := e, ready := [] }

/-- Step 1 of R378 writes the record of mismatches and the fault flags. -/
theorem State.mismatchNoted_rd (s : State) (c g : Nat) {f : Field} (i : Nat) (h : f.key ∉ [CP_MMINFO_TOTAL.key, CP_MMINFO_SINCE.key,
    CP_MMINFO_GROUP.key, CP_MMPC_VALUE.key, CP_FAULT_FLAGS.key]) : (s.mismatchNoted c g).rd f i = s.rd f i := by
  simp only [List.mem_cons, List.not_mem_nil, or_false, not_or] at h
  obtain ⟨htotal, hsince, hgroup, hpc, hflags⟩ := h
  simp only [State.mismatchNoted, State.coreFault_rd, State.wrs_cons, State.wrs_nil, State.rd_wr_key _ _ htotal, State.rd_wr_key _ _ hsince,
    State.rd_wr_key _ _ hgroup, State.rd_wr_key _ _ hpc, State.rd_wr_key _ _ hflags]

theorem State.mismatchNoted_since (s : State) (c g : Nat) : (s.mismatchNoted c g).rd CP_MMINFO_SINCE c = (s.rd CP_MMINFO_SINCE c + 1) % 2 ^ 2 := by
  simp (disch := decide) [State.mismatchNoted, State.rd_wr_key, CP_MMINFO_SINCE]

theorem State.mismatchNoted_group (s : State) (c g : Nat) : (s.mismatchNoted c g).rd CP_MMINFO_GROUP c = g % 2 ^ 4 := by
  simp (disch := decide) [State.mismatchNoted, State.rd_wr_key, CP_MMINFO_GROUP]

theorem State.mismatchNoted_pc (s : State) (c g : Nat) : (s.mismatchNoted c g).rd CP_MMPC_VALUE c = (s.core c).arch.pc % 2 ^ 32 := by
  simp (disch := decide) [State.mismatchNoted, State.rd_wr_key, CP_MMPC_VALUE]

/-- A core fault is told by its flag, and the flags before it stay. -/
theorem State.coreFault_flags (s : State) (c b : Nat) {k : Nat} (h : k < 7) :
    bit ((s.coreFault c b).rd CP_FAULT_FLAGS c) k = (bit (s.rd CP_FAULT_FLAGS c) k || decide (b = k)) := by
  rw [State.coreFault_rd, State.rd_wr_self]
  exact bit_or_two_pow_mod _ _ h

theorem State.coreFault_flag (s : State) (c : Nat) {b : Nat} (h : b < 7) : bit ((s.coreFault c b).rd CP_FAULT_FLAGS c) b = true := by
  rw [State.coreFault_flags _ _ _ h]
  simp

theorem State.mismatchNoted_flag (s : State) (c g : Nat) : bit ((s.mismatchNoted c g).rd CP_FAULT_FLAGS c) 2 = true :=
  State.coreFault_flag _ _ (by decide)

/-- A pair that replays: the mismatch is noted, the journal written back, the replay counted, and core c is k. -/
def State.replayed (s : State) (c g : Nat) (k : Core) : State :=
  (((s.mismatchNoted c g).undo c (s.core c).jrnl).wr CP_STAT_REPLAYS c (satInc (s.rd CP_STAT_REPLAYS c) 255)).setCore c k

theorem State.replayed_core (s : State) (c g : Nat) (k : Core) : (s.replayed c g k).core c = k := State.core_setCore_self _ c k

theorem State.replayed_core_ne (s : State) {c d : Nat} (g : Nat) (k : Core) (h : d ≠ c) : (s.replayed c g k).core d = s.core d := by
  rw [State.replayed, State.core_setCore_ne _ _ h, State.wr_core, State.undo_core, State.mismatchNoted_core]

theorem State.replayed_replays (s : State) (c g : Nat) (k : Core) :
    (s.replayed c g k).rd CP_STAT_REPLAYS c = satInc (s.rd CP_STAT_REPLAYS c) 255 % 2 ^ 8 := State.rd_wr_self _ CP_STAT_REPLAYS c _

theorem State.replayed_rd (s : State) (c g : Nat) (k : Core) {f : Field} (i : Nat)
    (h : f.key ∉ [CP_STAT_REPLAYS.key, PLW_BANKACC_COUNT.key, PLW_BANKCONF_COUNT.key]) :
    (s.replayed c g k).rd f i = (s.mismatchNoted c g).rd f i := by
  rw [List.mem_cons, not_or] at h
  rw [State.replayed, State.rd_setCore, State.rd_wr_key _ _ h.1, State.undo_rd _ _ _ _ h.2]

theorem State.replayed_sram (s : State) (c g : Nat) (k : Core) :
    (s.replayed c g k).sram = ((s.mismatchNoted c g).undo c (s.core c).jrnl).sram := rfl
theorem State.replayed_tcmOf (s : State) (c g : Nat) (k : Core) :
    (s.replayed c g k).tcmOf c = ((s.mismatchNoted c g).undo c (s.core c).jrnl).tcmOf c := rfl

theorem State.replayed_memory_nil {s : State} {c : Nat} (h : (s.core c).jrnl = []) (g : Nat) (k : Core) :
    (s.replayed c g k).sram = s.sram ∧ (s.replayed c g k).tcmOf c = s.tcmOf c := by
  rw [State.replayed_sram, State.replayed_tcmOf, h, State.undo_nil]
  exact ⟨s.mismatchNoted_sram c g, s.mismatchNoted_tcmOf c g c⟩

/-- The memories after a replay over a store to TCM and a later one to shared SRAM. -/
theorem State.replayed_memory_sram_tcm {s : State} {c a b : Nat} {l m : List (BitVec 8)}
    (h : (s.core c).jrnl = [⟨true, a, l⟩, ⟨false, b, m⟩]) (g : Nat) (k : Core) :
    (s.replayed c g k).sram = s.sram.wrL a l ∧ (s.replayed c g k).tcmOf c = (s.tcmOf c).wrL b m := by
  obtain ⟨hsram, htcm⟩ := (s.mismatchNoted c g).undo_sram_tcm c a b l m
  rw [State.replayed_sram, State.replayed_tcmOf, h, hsram, htcm, State.mismatchNoted_sram, State.mismatchNoted_tcmOf]
  exact ⟨rfl, rfl⟩

section
variable {s : State} {p g : Nat} (hl : s.lockstep (2 * p) = true) (hr : (s.core (2 * p)).st = 1)
include hl hr

/-- The third mismatch without a checkpoint between stops the pair (R381). -/
theorem State.mismatch_third (hn : 2 ≤ s.rd CP_MMINFO_SINCE (2 * p)) : s.mismatch p g =
    ((s.mismatchNoted (2 * p) g).setCore (2 * p) { s.core (2 * p) with st := 3, wait := .none, pload := none }).coreFault (2 * p) 6 := by
  unfold State.mismatch
  dsimp only
  rw [if_neg (by simp [hl, hr]), if_pos (by omega)]
  rfl

/-- Before the third mismatch a pair with a checkpoint writes its journal back, restores the checkpoint and makes an entry (R378). -/
theorem State.mismatch_eq_entry (hn : s.rd CP_MMINFO_SINCE (2 * p) < 2) (hv : s.on CP_STAT_JVOID (2 * p) = false) :
    let u := (s.mismatchNoted (2 * p) g).undo (2 * p) (s.core (2 * p)).jrnl
    let a := (s.core (2 * p)).ckpt.getD {}
    ∃ e x, s.mismatch p g = ((u.setCore (2 * p) ((s.core (2 * p)).restored (u.revalidate a) e)).wr CP_STAT_REPLAYS (2 * p)
      (satInc (u.rd CP_STAT_REPLAYS (2 * p)) 255)).coreEntry (2 * p) x a.pc false none := by
  have hvoid : (s.mismatchNoted (2 * p) g).on CP_STAT_JVOID (2 * p) = false := by
    rw [State.on, State.mismatchNoted_rd _ _ _ _ (by decide)]
    exact hv
  unfold State.mismatchNoted at hvoid
  unfold State.mismatch
  dsimp only
  rw [if_neg (by simp [hl, hr]), if_neg (by omega)]
  simp only [hvoid, Bool.false_eq_true, if_false]
  exact ⟨_, _, rfl⟩

/-- The replay leaves the core in its handler with the checkpoint's registers, and an empty journal (R378). -/
theorem State.mismatch_replay (hn : s.rd CP_MMINFO_SINCE (2 * p) < 2) (hv : s.on CP_STAT_JVOID (2 * p) = false)
    (hq : s.traceQuiet (2 * p) = true) (hf : ((s.core (2 * p)).ckpt.getD {}).frames.length < 4) :
    ∃ k, s.mismatch p g = s.replayed (2 * p) g k ∧ k.st = 1 ∧ k.jrnl = [] ∧
      k.entered ((s.core (2 * p)).ckpt.getD {}) (s.rd CP_EVEC_EVEC (2 * p)) ((s.core (2 * p)).ckpt.getD {}).pc := by
  obtain ⟨e, x, he⟩ := State.mismatch_eq_entry (g := g) hl hr hn hv
  set u := (s.mismatchNoted (2 * p) g).undo (2 * p) (s.core (2 * p)).jrnl
  have hrd {f : Field} (i : Nat) (h1 : f.key ∉ [PLW_BANKACC_COUNT.key, PLW_BANKCONF_COUNT.key])
      (h2 : f.key ∉ [CP_MMINFO_TOTAL.key, CP_MMINFO_SINCE.key, CP_MMINFO_GROUP.key, CP_MMPC_VALUE.key, CP_FAULT_FLAGS.key]) :
      u.rd f i = s.rd f i := by
    rw [State.undo_rd _ _ _ _ h1, State.mismatchNoted_rd _ _ _ _ h2]
  rw [hrd _ (by decide) (by decide)] at he
  set y := (s.core (2 * p)).restored (u.revalidate ((s.core (2 * p)).ckpt.getD {})) e
  set v := (u.setCore (2 * p) y).wr CP_STAT_REPLAYS (2 * p) (satInc (s.rd CP_STAT_REPLAYS (2 * p)) 255)
  have hcore : v.core (2 * p) = y := u.core_setCore_self (2 * p) y
  have htrace : v.traceQuiet (2 * p) = true := by
    rw [State.traceQuiet, State.rd_wr_key _ _ (by decide), State.rd_setCore, hrd _ (by decide) (by decide)]
    exact hq
  have hevec : v.rd CP_EVEC_EVEC (2 * p) = s.rd CP_EVEC_EVEC (2 * p) := by
    rw [State.rd_wr_key _ _ (by decide), State.rd_setCore, hrd _ (by decide) (by decide)]
  obtain ⟨k, hk, hst, hj, hin⟩ := State.coreEntry_room htrace (by rw [hcore]; exact hf) x ((s.core (2 * p)).ckpt.getD {}).pc false none
  rw [hcore] at hst hj hin
  rw [hevec] at hin
  refine ⟨k, ?_, hst.trans hr, hj, (Core.entered_revalidate k u _ _ _).1 hin⟩
  rw [he, hk]
  exact (u.wr CP_STAT_REPLAYS (2 * p) _).setCore_setCore (2 * p) y k

end

/-! ## The comparator test -/

/-- A test asked for runs at most 2.5 µs (R372). -/
theorem State.cmpTest_free {s : State} {p : Nat} (h0 : (s.core (2 * p)).task = none) (h1 : (s.core (2 * p + 1)).task = none) :
    s.cmpTest p = ((s.setCore (2 * p) { s.core (2 * p) with cmpDue := some (s.within 128000) }).drawn).wr CP_CMPRES_RUN (2 * p) 1 := by
  simp [State.cmpTest, h0, h1]

/-- A pair with a committed task refuses the test (R372). -/
theorem State.cmpTest_busy {s : State} {p : Nat} (h : (s.core (2 * p)).task.isSome = true ∨ (s.core (2 * p + 1)).task.isSome = true) :
    s.cmpTest p = s.raise CP_CMPRES_BUSY (2 * p) 1 := by
  unfold State.cmpTest
  exact if_pos (by simpa using h)

theorem State.within_bounds (s : State) (b : Nat) : s.et ≤ s.within b ∧ s.within b ≤ s.et + b := by
  have := Nat.mod_lt s.fresh (show 0 < b + 1 by omega)
  unfold State.within
  omega

theorem State.cmpTestDone_due {s : State} {p n : Nat} (h : (s.core (2 * p)).cmpDue = some n) (pass : Nat) :
    s.cmpTestDone p pass = ((s.reach n).setCore (2 * p) { s.core (2 * p) with cmpDue := none }).cmpResult p pass := by
  simp only [State.cmpTestDone, State.due, h, State.core_reach]

/-- The result of a test changes no core and takes no time. -/
theorem State.cmpResult_core (s : State) (p pass d : Nat) : (s.cmpResult p pass).core d = s.core d := by
  unfold State.cmpResult
  dsimp only
  split_ifs <;> simp

theorem State.cmpResult_et (s : State) (p pass : Nat) : (s.cmpResult p pass).et = s.et := by
  unfold State.cmpResult
  dsimp only
  split_ifs <;> simp

theorem State.cmpResult_rd (s : State) (p pass : Nat) {f : Field} (i : Nat) (h : f.key ∉ [CP_STAT_CMPFAIL.key, CP_FAULT_FLAGS.key]) :
    (s.cmpResult p pass).rd f i = (s.wrs (2 * p) [(CP_CMPRES_DONE, 1), (CP_CMPRES_RUN, 0), (CP_CMPRES_PASS, pass)]).rd f i := by
  simp only [List.mem_cons, List.not_mem_nil, or_false, not_or] at h
  obtain ⟨hfail, hflags⟩ := h
  unfold State.cmpResult
  dsimp only
  split_ifs <;> simp only [State.coreFault_rd, State.rd_wr_key _ _ hfail, State.rd_wr_key _ _ hflags]

/-- CPp_CMPRES after a test. -/
theorem State.cmpResult_cmpres (s : State) (p pass : Nat) : (s.cmpResult p pass).rd CP_CMPRES_DONE (2 * p) = 1 ∧
    (s.cmpResult p pass).rd CP_CMPRES_RUN (2 * p) = 0 ∧ (s.cmpResult p pass).rd CP_CMPRES_PASS (2 * p) = pass % 2 ^ 12 := by
  rw [State.cmpResult_rd _ _ _ _ (by decide), State.cmpResult_rd _ _ _ _ (by decide), State.cmpResult_rd _ _ _ _ (by decide)]
  simp (disch := decide) [State.rd_wr_key, CP_CMPRES_DONE, CP_CMPRES_RUN, CP_CMPRES_PASS]

/-- A passing test clears CMPFAIL (R372). -/
theorem State.cmpResult_pass (s : State) (p : Nat) {pass : Nat} (h : pass % 4096 = 4095) :
    (s.cmpResult p pass).rd CP_STAT_CMPFAIL (2 * p) = 0 := by
  unfold State.cmpResult
  dsimp only
  rw [if_pos h, State.rd_wr_self]
  rfl

/-- The registers of the test leave every other field alone. -/
theorem State.rd_wrs_cmpres (s : State) (c pass : Nat) {f : Field} (i : Nat)
    (h : f.key ∉ [CP_CMPRES_DONE.key, CP_CMPRES_RUN.key, CP_CMPRES_PASS.key]) :
    (s.wrs c [(CP_CMPRES_DONE, 1), (CP_CMPRES_RUN, 0), (CP_CMPRES_PASS, pass)]).rd f i = s.rd f i := by
  simp only [List.mem_cons, List.not_mem_nil, or_false, not_or] at h
  obtain ⟨hdone, hrun, hpass⟩ := h
  simp only [State.wrs_cons, State.wrs_nil, State.rd_wr_key _ _ hdone, State.rd_wr_key _ _ hrun, State.rd_wr_key _ _ hpass]

theorem State.lockstep_wrs_cmpres (s : State) (c pass d : Nat) :
    (s.wrs c [(CP_CMPRES_DONE, 1), (CP_CMPRES_RUN, 0), (CP_CMPRES_PASS, pass)]).lockstep d = s.lockstep d := by
  unfold State.lockstep
  rw [State.rd_wrs_cmpres s c pass 0 (by decide)]

/-- A failing test marks a lockstep pair (R371). -/
theorem State.cmpResult_fail {s : State} {p pass : Nat} (h : pass % 4096 ≠ 4095) (hl : s.lockstep (2 * p) = true) :
    (s.cmpResult p pass).rd CP_STAT_CMPFAIL (2 * p) = 1 ∧ bit ((s.cmpResult p pass).rd CP_FAULT_FLAGS (2 * p)) 5 = true := by
  unfold State.cmpResult
  dsimp only
  rw [if_neg h, State.lockstep_wrs_cmpres, if_pos hl]
  refine ⟨?_, ?_⟩
  · rw [State.coreFault_rd, State.rd_wr_key _ _ (by decide), State.rd_wr_self]
    rfl
  · exact State.coreFault_flag _ _ (by decide)

/-- The result of a test of a split pair only reports (R372). -/
theorem State.cmpResult_split {s : State} {p pass : Nat} (h : pass % 4096 ≠ 4095) (hl : s.lockstep (2 * p) = false) :
    (s.cmpResult p pass).rd CP_STAT_CMPFAIL (2 * p) = s.rd CP_STAT_CMPFAIL (2 * p) ∧
      (s.cmpResult p pass).rd CP_FAULT_FLAGS (2 * p) = s.rd CP_FAULT_FLAGS (2 * p) := by
  unfold State.cmpResult
  dsimp only
  rw [if_neg h, State.lockstep_wrs_cmpres, hl, if_neg (by decide), State.rd_wrs_cmpres s _ _ _ (by decide),
    State.rd_wrs_cmpres s _ _ _ (by decide)]
  exact ⟨rfl, rfl⟩

/-! ## The commands -/

theorem exec_compareMismatch {p : Fin 8} {s : State} (hup : s.supply.up = true) (hb : s.keptBad (2 * p.val) = false) (g : Fin 12) :
    exec (.compareMismatch p g) s = .next (s.mismatch p.val g.val) := by
  show execCompareMismatch p g s = _
  simp [execCompareMismatch, State.live_up hup, hb]

theorem exec_cmptest {s : State} (hup : s.supply.up = true) (p : Fin 8) : exec (.cmptest p) s = .next (s.cmpTest p.val) := by
  show execCmptest p s = _
  rw [execCmptest, State.live_up hup]

theorem exec_cmptestDone {s : State} (hup : s.supply.up = true) (p : Fin 8) (pass : BitVec 12) :
    exec (.cmptestDone p pass) s = .next (s.cmpTestDone p.val pass.toNat) := by
  show execCmptestDone p pass s = _
  rw [execCmptestDone, State.live_up hup]

/-- Settles O52: the third mismatch stops the pair (R381), an earlier one replays from the checkpoint (R378), and the comparator test is taken,
refused or ended by the registers it writes (R371, R372). -/
theorem pairsCompareAndReplay : Obligations.PairsCompareAndReplay := by
  unfold Obligations.PairsCompareAndReplay
  refine ⟨fun p g s => ?_, fun p pass s => ?_⟩
  · intro c hup hl hr hb
    have hg : g.val % 2 ^ 4 = g.val := Nat.mod_eq_of_lt (by omega)
    rw [exec_compareMismatch hup hb]
    refine ⟨fun hn => ⟨_, rfl, ?_⟩, fun hn hv hq hf => ⟨_, rfl, ?_⟩⟩
    · rw [State.mismatch_third hl hr hn]
      refine ⟨by simp [c], ?_, ?_, ?_, ?_, by simp, by simp, fun d hd => ?_⟩
      · rw [State.coreFault_flags _ _ _ (by decide), State.rd_setCore, State.mismatchNoted_flag, Bool.true_or]
      · exact State.coreFault_flag _ _ (by decide)
      · rw [State.coreFault_rd, State.rd_wr_key _ _ (by decide), State.rd_setCore, State.mismatchNoted_group, hg]
      · rw [State.coreFault_rd, State.rd_wr_key _ _ (by decide), State.rd_setCore, State.mismatchNoted_pc]
      · rw [State.coreFault_core, State.core_setCore_ne _ _ hd, State.mismatchNoted_core]
    · obtain ⟨k, hm, hst, hj, hepc, hpc, hlen, hreg⟩ := State.mismatch_replay (g := g.val) hl hr hn hv hq hf
      have hrd {f : Field} (h : f.key ∉ [CP_STAT_REPLAYS.key, PLW_BANKACC_COUNT.key, PLW_BANKCONF_COUNT.key]) := s.replayed_rd c g.val k c h
      rw [hm, State.replayed_core, hrd (by decide), hrd (by decide), hrd (by decide), hrd (by decide), State.mismatchNoted_since,
        State.mismatchNoted_group, State.mismatchNoted_pc, hg, Nat.mod_eq_of_lt (by omega)]
      exact ⟨hst, hpc, hj, hlen, hreg, hepc, rfl, rfl, rfl, s.mismatchNoted_flag c g.val, s.replayed_replays c g.val k,
        fun d hd => s.replayed_core_ne g.val k hd, fun h => State.replayed_memory_nil h g.val k,
        fun _ _ _ _ h => State.replayed_memory_sram_tcm h g.val k⟩
  · intro c hup
    rw [exec_cmptest hup, exec_cmptestDone hup]
    refine ⟨fun h0 h1 => ?_, fun h => ?_, fun n hn => ?_⟩
    · obtain ⟨hlo, hhi⟩ := s.within_bounds 128000
      refine ⟨_, s.within 128000, rfl, ?_⟩
      rw [State.cmpTest_free h0 h1]
      exact ⟨State.rd_wr_self _ _ _ _, by simp [c], hlo, hhi, sameRegs_of_regs_wr rfl⟩
    · refine ⟨_, rfl, ?_⟩
      rw [State.cmpTest_busy h]
      exact ⟨(State.rd_wr_self _ _ _ _).trans (Nat.or_mod_two_eq_one.2 (.inr rfl)), rfl, sameRegs_of_regs_wr rfl⟩
    · refine ⟨_, rfl, ?_⟩
      rw [State.cmpTestDone_due hn, State.cmpResult_core, State.cmpResult_et, State.core_setCore_self]
      set u := (s.reach n).setCore (2 * p.val) { s.core (2 * p.val) with cmpDue := none }
      obtain ⟨hdone, hrun, hpass⟩ := u.cmpResult_cmpres p.val pass.toNat
      have hmod : pass.toNat % 4096 = pass.toNat := Nat.mod_eq_of_lt pass.isLt
      exact ⟨hdone, hrun, hpass.trans hmod, rfl, rfl, fun h => u.cmpResult_pass p.val (hmod.trans h),
        fun h hl => State.cmpResult_fail (s := u) (by rwa [hmod]) hl, fun h hl => State.cmpResult_split (s := u) (by rwa [hmod]) hl⟩

end Sys2Proof.Machine
end
